-- ==== Sys2Proof/Word.lean ====
section
/-!
DEFINITION. The word types of the FDX-192: registers are 32-bit words (spec/04_register_pages_and_host.md, R131),
memory is byte addressed, and every count, index and coordinate that the spec treats as a number is a natural number or
an integer.
-/

namespace Sys2Proof

/-- A 32-bit register or memory word. -/
abbrev Word := BitVec 32

/-- A byte of DRAM, host memory or Temper. -/
abbrev Byte := BitVec 8

end Sys2Proof
end

