-- ==== Sys2Proof/Syntax.lean ====
section
/-!
DEFINITION. The commands of the FDX-192: one constructor of `Instr` per row of spec/opcode_table.json, with the operands
the row's rule gives it. A row that is a write of a trigger register carries the writer; a row that is an event carries
what the event brings in from outside. Register operands that the row's rule reads from the page (a take's DST and SRC,
a list's address) are read from the page, not repeated here.
-/

namespace Sys2Proof

/-- Owner classes of a page and of a writer (R149, R150). -/
inductive OwnerClass where
  | host | manager | firmware
  deriving DecidableEq, Repr

/-- Code of an owner class in PG_OWNER (R149). -/
def OwnerClass.code : OwnerClass → Nat
  | .host => 0
  | .manager => 1
  | .firmware => 2

/-- Who makes a request: owner class and, for the HOST class, the requester port of R154 (0 PCI Express host, 1 to 8
control protocol sessions, 9 the IS-05 API). -/
structure Writer where
  cls : OwnerClass
  port : Nat
  deriving DecidableEq, Repr

/-- The PCI Express host. -/
def Writer.pcie : Writer := ⟨.host, 0⟩

/-- How a reference pulse compares with its predecessors (R58, R59, R61). -/
inductive PulseKind where
  | inPlace        -- within the criterion of R61
  | displaced      -- displaced by more than the criterion
  | extra          -- a pulse where none is predicted
  | missing        -- no pulse where one is predicted
  | wrongPeriod    -- the pulse period does not match RATE (R62)
  deriving DecidableEq, Repr

/-- A candidate with a clock input of its own (R56): REFIN_CLK[n] or FREQ_IN. -/
inductive RefClock where
  | refin (n : Fin 4)
  | freqIn
  deriving DecidableEq, Repr

/-- Candidate index of a clock input (R56). -/
def RefClock.cand : RefClock → Nat
  | .refin n => n.val
  | .freqIn => 5

/-- What an Announce message carries (R109, R110; IEEE 1588-2019). `gmId` is the grandmaster identity, `sender` the
port identity that sent it. -/
structure Announce where
  domain : Nat
  priority1 : Nat
  clockClass : Nat
  accuracy : Nat
  variance : Nat
  priority2 : Nat
  gmId : Nat
  stepsRemoved : Nat
  sender : Nat
  utcOffset : Nat
  utcValid : Bool
  deriving DecidableEq, Repr

/-- The PTP messages whose send interval can expire (R109). -/
inductive PtpKind where
  | announce | sync | delayReq
  deriving DecidableEq, Repr

/-- A time transfer block (R117): a worker's request with t1, or the parent's return with t2 and t3 (0.25 ns units). -/
inductive TimeXfer where
  | req (t1 : Int)
  | resp (t1 t2 t3 : Int)
  deriving DecidableEq, Repr

/-- An entry sticky register (R790), by the device-wide number of its entry. -/
inductive EntrySticky where
  | takeDst (k : Fin 2048)
  | fsDst (k : Fin 2048)
  | flwRx (k : Fin 4096)
  | flwTx (k : Fin 4096)
  | audOut (k : Fin 8192)
  deriving DecidableEq, Repr


/-- A destination or a lane-direct circuit (R332, R363). -/
inductive DestRef where
  | dst (n : Fin 2048)
  | circuit (c : Fin 192)
  deriving DecidableEq, Repr

/-- Key of a destination in the model's tables: DST 0 to 2047, then circuits from 2048. -/
def DestRef.key : DestRef → Nat
  | .dst n => n.val
  | .circuit c => 2048 + c.val

/-- The structure of a received raster as the decoder measures it (R216): active samples, active lines, total lines,
total samples per line, frame rate code (R85), scan. -/
structure Raster where
  width : Nat
  lines : Nat
  total : Nat
  spl : Nat
  rate : Nat
  interlaced : Bool
  psf : Bool
  deriving DecidableEq, Repr

/-- What a received ST 352 payload identifier says (R216, R217, R224, R229, R230): its four bytes, the raster it names,
and the codes of R234. -/
structure PayloadId where
  raw : Nat
  raster : Raster
  sampling : Nat
  color : Nat
  xfer : Nat
  fullRange : Bool
  link : Nat
  square : Bool
  deriving DecidableEq, Repr

/-- An ancillary data packet (R240, R241): word position, data stream, space, and the words from DID to checksum. -/
structure AncPacket where
  pos : Nat
  chroma : Bool
  vanc : Bool
  words : List Nat
  deriving DecidableEq, Repr

/-- One embedded audio group received in a line (R237, R238): its number, whether its control packet signals
synchronous 48 kHz, the sample of the line at which its first period lies, and its sample periods, each of 4 channel words
of R239. -/
structure AudioGroup where
  group : Nat
  sync48 : Bool
  phase : Nat
  periods : List (List Nat)
  deriving DecidableEq, Repr

/-- One line as an SDI receiver sees it. -/
structure SdiLine where
  /-- EAV and SAV both valid -/
  trs : Bool
  /-- the raster that the TRS spacing, line count and field structure measure to -/
  raster : Raster
  /-- level B-DS (R220) -/
  levelB : Bool
  /-- number in the line-number words, and the line's own number by count -/
  numbered : Nat
  line : Nat
  /-- the plane frame whose line 1 lies nearest to line 1 of the received frame (R16) -/
  frame : Nat
  /-- luma and chroma CRC good -/
  crcOk : Bool
  /-- last line of a received frame -/
  last : Bool
  pid : Option PayloadId
  /-- the line is an active line of the detected format, the first one, the last one -/
  active : Bool
  first : Bool
  final : Bool
  /-- sample words of an active line in the order of R235, and those of level B stream 2 -/
  video : List Nat
  video2 : List Nat
  audio : List AudioGroup
  anc : List AncPacket
  /-- on line 1: start of line 1 less that of line 1 of the plane, ns; in a group, samples after line 1 of member 0 -/
  offset : Int
  skew : Int
  deriving DecidableEq, Repr

/-- What the output raster gives one line of an SDI output (R245): whether it is a vertical blanking line, whether it is
the last of its vertical blanking, and the words free for ANC in its horizontal blanking and in its active part after
TRS, ST 352 and audio. -/
structure TxLine where
  vertical : Bool
  lastVertical : Bool
  hancRoom : Nat
  vancRoom : Nat
  deriving DecidableEq, Repr

/-- A frame as a MAC receives it: its bytes from the destination address through the FCS, whether the FCS matches, whether
it carries an alignment error (R258), the bytes that the MAC's store already holds as it arrives (R265), and the RS-FEC
codewords corrected and found uncorrectable since the last frame (R254). -/
structure RxFrame where
  bytes : List (BitVec 8)
  fcsOk : Bool
  align : Bool
  held : Nat
  corrected : Nat
  uncorrectable : Nat
  deriving DecidableEq, Repr

/-- A membership query (R317): its version is one that is answered (IGMPv3, MLDv2), and the group it asks for. -/
structure MembershipQuery where
  current : Bool
  group : Option Nat
  deriving DecidableEq, Repr

/-- Payload of an RTP packet. -/
inductive FlowPayload where
  /-- one sample row data header: the line of the raster that the row is, the offset in the line and the length in
  sample words, and the words (R288, R297) -/
  | video (line ofs len : Nat) (words : List Nat)
  /-- periods of `chans` channel words (R300) -/
  | audio (chans : Nat) (periods : List (List Nat))
  /-- ANC packets with their Line_Number (R301) -/
  | anc (items : List (Nat × AncPacket))
  deriving DecidableEq, Repr

/-- A packet that a MAC hands to the flow engine (R289, R291): addressing, the header checks, RTP fields and payload. -/
structure FlowPacket where
  ipv6 : Bool
  dst : Nat
  src : Nat
  port : Nat
  /-- IPv4 header checksum right, no option, fragment or extension header, and UDP (R291) -/
  ipOk : Bool
  /-- UDP checksum right, or zero on IPv4 -/
  csumOk : Bool
  version : Nat
  pt : Nat
  seq : Nat
  ts : Nat
  marker : Bool
  payload : FlowPayload
  deriving DecidableEq, Repr


/-- An entry of a TAKE or SALVO_PREP message (R435). -/
structure TakeEntry where
  ref : DestRef
  src : Option (Fin 1024)
  f : Nat
  tp : Fin 8
  now : Bool
  port : Nat
  ticket : Nat
  deriving DecidableEq, Repr

/-- An entry of a TAKE_RESULT message (R427). -/
structure ResultEntry where
  ticket : Nat
  result : Nat
  reason : Nat
  f : Nat
  tp : Nat
  slipped : Bool
  deriving DecidableEq, Repr

/-- The common head of a salvo message (R427). -/
structure SalvoHead where
  ticket : Nat
  f : Nat
  tp : Fin 8
  now : Bool
  part : Nat
  parts : Nat
  deriving DecidableEq, Repr

/-- A placement item (R428). `rxLane` and `txLane` are `none` for 0xFF; `sc` is the share class k. -/
structure PlaceItem where
  kind : Nat
  tp : Fin 8
  f : Nat
  rxLane : Option Nat
  txLane : Option Nat
  rxTag : Nat
  txTag : Nat
  idx : Nat
  sc : Nat
  engine : Nat
  num : Nat
  deriving DecidableEq, Repr

/-- An entry of a ROUTE_REPORT or RESYNC (R430). -/
inductive RouteEntry where
  | state (ref : DestRef) (src : Option (Fin 1024)) (onBackup : Bool) (backup : Nat) (protEn protRevert : Bool)
      (hold holdCls holdPort flaps : Nat) (latched : Bool) (lastF lastTicket : Nat)
  | pending (ref : DestRef) (src : Option (Fin 1024)) (cls port f : Nat) (tp : Fin 8) (ticket : Nat)
  | cancel (ref : DestRef) (ticket : Nat)
  deriving DecidableEq, Repr

/-- A role table (R409): manager position, epoch, and the roles 0 to 3 of positions 0 to 127 (0xF absent). -/
structure RoleTable where
  manager : Nat
  epoch : Nat
  roles : List Nat
  deriving DecidableEq, Repr

/-- A HEALTH body (R429). -/
structure Health where
  role : Nat
  confirmed : Bool
  twinPresent : Bool
  unit : Nat
  active : Bool
  belState : Nat
  cand : Nat
  candValid : Bool
  power : Nat
  op : Nat
  hallmark : Nat
  upd : Nat
  epoch : Nat
  srcs : Nat
  dsts : Nat
  inRate : Nat
  outRate : Nat
  lanes : Nat
  decisionReq : Bool
  uncertain : Bool
  evtWr : Nat
  pkg : Nat
  ver : Nat
  time : Nat
  deriving DecidableEq, Repr

/-- An event entry as forwarded (R163, R437). -/
structure EventMsg where
  code : Nat
  page : Nat
  time : Nat
  frame : Nat
  line : Nat
  plane : Nat
  sample : Nat
  uncertain : Bool
  arg : Nat
  deriving DecidableEq, Repr

/-- An UPDATE body (R431). -/
structure UpdateMsg where
  op : Nat
  part : Nat
  reason : Nat
  pkg : Nat
  f : Nat
  tp : Nat
  ver : Nat
  deriving DecidableEq, Repr

/-- A message body (R426). -/
inductive TongsBody where
  | ack
  | nakRole (pos role epoch manager : Nat)
  | roleQuery
  | roleSet (t : RoleTable)
  | take (l : List TakeEntry)
  | takeResult (l : List ResultEntry)
  | salvoPrep (h : SalvoHead) (l : List TakeEntry)
  | salvoReady (h : SalvoHead) (ready : Bool) (reason idx parts : Nat)
  | salvoCommit (h : SalvoHead)
  | salvoAbort (h : SalvoHead) (reason : Nat)
  | place (decision : Nat) (last : Bool) (items : List PlaceItem)
  | health (h : Health)
  | event (e : EventMsg)
  | routeQuery (first count : Nat)
  | routeReport (part parts : Nat) (l : List RouteEntry)
  | resync (f : Nat) (tp : Fin 8) (l : List RouteEntry)
  | bulk (object chunk offset total : Nat) (data : List (BitVec 8))
  | chartCommit (seq hash f : Nat) (tp : Fin 8) (l s : Nat)
  | update (u : UpdateMsg)
  | unknown (typ : Nat)
  deriving DecidableEq, Repr

/-- A Tongs message (R416). -/
structure TongsMsg where
  noseq : Bool
  resync : Bool
  retx : Bool
  srcPos : Nat
  srcUnit : Nat
  dstPos : Nat
  epoch : Nat
  seq : Nat
  ack : Nat
  body : TongsBody
  deriving DecidableEq, Repr

/-- The header of a received Tongs message beside its TYPE (R416). -/
structure TongsHead where
  resync : Bool
  retx : Bool
  srcPos : Fin 128
  srcUnit : Fin 2
  dstPos : Fin 128
  epoch : Nat
  seq : Nat
  ack : Nat
  deriving DecidableEq, Repr


/-- A pixel in the sampling family, depth and range of a compositor's output, before chroma subsampling: Y, Cb, Cr or R, G,
B, and a 10-bit alpha (R488, R489). -/
structure Px where
  c0 : Nat
  c1 : Nat
  c2 : Nat
  a : Nat
  deriving DecidableEq, Repr

/-- What a frame of a compositor takes from outside the spec's own arithmetic: the frame line numbers of the raster's active
lines, top to bottom, and for a layer that is live or scaled the W × H pixels that its scaler delivers. -/
structure FilFrame where
  lines : List Nat
  layers : List (Fin 8 × List (List Px))
  deriving DecidableEq, Repr

/-- A billet cell as a fabric lane brings it (R324, R380): whether its blocks are framed as R384 asks, the bad blocks counted
with it, LSEQ, and the header as received with its HCRC; bytes 10 and 11 of the header in `dseq`. -/
structure FabCell where
  framed : Bool
  bad : Nat
  lseq : Nat
  tag : Nat
  typ : Nat
  tp : Nat
  frame : Nat
  line : Nat
  idx : Nat
  cc : Nat
  sol : Bool
  eol : Bool
  sof : Bool
  eof : Bool
  invalid : Bool
  subst : Bool
  dseq : Nat
  hcrc : Nat
  payload : List (BitVec 8)
  deriving DecidableEq, Repr

/-- A LANE_ID block (R379). -/
structure LaneId where
  pos : Nat
  unit : Nat
  lane : Nat
  half : Bool
  role : Nat
  hash : Nat
  deriving DecidableEq, Repr

/-- A RAW_CTL block (R379): bits received by the circuit's receive lane, that lane and its position, SRC_LOCK and the
RX_RATE code. -/
structure RawCtl where
  bits : Nat
  lane : Nat
  pos : Nat
  srcLock : Bool
  rate : Nat
  deriving DecidableEq, Repr

/-- What a silence detector watches (R531, R533): an output group of the matrix, or the transmit slots of an audio port. -/
inductive SilTarget where
  | group (g : Fin 512)
  | port (p : Fin 16)
  deriving DecidableEq, Repr

/-- One frame of an audio port as its balls and its clock show it (R539 to R546): device time of the FSYNC start edge in
whole frames at the port's rate, whether the frame has exactly its length in BCLK cycles, the received slots (24-bit
samples), and whether the elastic buffer underran or overran in this frame. -/
structure AptFrame where
  count : Nat
  exact : Bool
  rx : List Nat
  slip : Option (Bool × Bool)
  deriving DecidableEq, Repr

/-- What the (72,64) code finds in the 8 code words of a burst that is read (R574): words corrected, words uncorrectable. -/
structure DramEcc where
  corrected : Nat
  uncorrectable : Nat
  deriving DecidableEq, Repr

/-- A part of an update package as its manifest lists it (R707): type 0 to 3, first chunk and number of chunks, and the
positions and units it is for (position, unit mask: bit 0 preferred, bit 1 partner). -/
structure PartEntry where
  typ : Nat
  first : Nat
  count : Nat
  targets : List (Nat × Nat)
  deriving DecidableEq, Repr

/-- What a manifest says (R707), with whether both its signatures verify (R708), the owner slot named, and whether the hashes
of header and chunk table are right. -/
structure Manifest where
  pkg : Nat
  ver : Nat
  svn : Nat
  recovery : Bool
  ownerSlot : Nat
  sigOk : Bool
  hashOk : Bool
  parts : List PartEntry
  deriving DecidableEq, Repr

/-- What the update region of Temper holds beside the salt (R706, R710): package ID, chunk code, chunks in all and chunks
before the parts; manifest once verified; chunks held; device update state and failing part; coordinate in force (F, plane,
rollback); start of the probation (device time, ns); roles of the firmware slots as UPD_SLOTS shows them; and on the manager
the decision it keeps (finalise or rollback, R725) with the devices that have yet to acknowledge it. -/
structure UpdImage where
  pkg : Nat
  code : Nat
  total : Nat
  lead : Nat
  manifest : Option Manifest
  held : List Nat
  state : Nat
  part : Nat
  coord : Option (Nat × Nat × Bool)
  probStart : Option Nat
  slots : Nat
  decision : Option (Bool × List (Nat × Nat))
  deriving DecidableEq, Repr

/-- Nothing held; firmware slots 0 to 3 RUNNING, PREVIOUS, STAGE, RECOVERY (notes/assumptions/20.md). -/
def UpdImage.reset : UpdImage := ⟨0, 0, 0, 0, none, [], 0, 0, none, none, 0xE4, none⟩

/-- How the tag of a message or cell checks (R417, R626, R692): under the newest key held, under the older one only, or not. -/
inductive TagCheck where
  | newest
  | older
  | bad
  deriving DecidableEq, Repr

/-- What the flash controller finds or does in the background (R617, R618). -/
inductive NandOp where
  /-- a worn, much-read or old block is rewritten -/
  | refreshed
  /-- a codeword needed correction -/
  | corrected
  /-- a block that failed program or erase goes to SPARE -/
  | retired
  /-- a codeword of a library surface, of a mirror generation or of another region cannot be corrected -/
  | uncorrLibrary (num : Fin 65536)
  | uncorrMirror (gen : Fin 2)
  | uncorrOther
  /-- the wear figures: highest program and erase count, rating, forecast in days, spare blocks left, SPARE blocks in all -/
  | wear (peak rating days left all : Nat)
  deriving DecidableEq, Repr

/-- A commit requested on a page (R139, R141): the slot it is armed on (`none` for a commit now), whether it slips, whether
it has passed the check of its group and waits for its own line, and on an FS_DST page the entries still to apply and those
of them that slip (R448). -/
structure CommitReq where
  page : Nat
  slot : Option Nat
  slipped : Bool
  passed : Bool
  left : List Nat
  late : List Nat
  deriving DecidableEq, Repr

/-- A hold on a destination or circuit (R353): 1 PROTECT, 2 LOCK, its class code and port. -/
structure Hold where
  kind : Nat
  cls : Nat
  port : Nat
  deriving DecidableEq, Repr

/-- A pending take (R342 to R350): output frame F, source or CLEAR, class (0 HOST, 1 MANAGER, 2 FIRMWARE, 3 automatic
protection) and port, whether it slipped, the salvo it belongs to, whether it has won at its lead limit, and the DN it
came for when it came as a hierarchy take. -/
structure PendTake where
  ticket : Nat
  cls : Nat
  port : Nat
  src : Option Nat
  f : Nat
  slipped : Bool
  salvo : Option Nat
  won : Bool
  dn : Option Nat
  deriving DecidableEq, Repr

/-- An accepted salvo (R357 to R362): members as destination key and source, each with its own frame. -/
structure Salvo where
  ticket : Nat
  cls : Nat
  port : Nat
  tp : Nat
  f : Nat
  members : List (Nat × Option Nat × Nat)
  deriving DecidableEq, Repr

/-- A crossing known to placement on the manager (R392): stream (position and SRC) with its plane and fabric rate f, the edge
and SRC it is delivered to, whether it is placed, and the items in force by position. -/
structure Crossing where
  num : Nat
  srcPos : Nat
  src : Nat
  tp : Nat
  rate : Nat
  dstPos : Nat
  dstSrc : Nat
  placed : Bool
  items : List (Nat × PlaceItem)
  deriving DecidableEq, Repr

/-- Lanes in billet service from one position to another, one direction of a bundle (R394). -/
structure Bundle where
  a : Nat
  b : Nat
  lanes : Nat
  deriving DecidableEq, Repr

/-- The path that placement chooses for a crossing (R400): the stream with its plane and fabric rate f, the edge and the SRC it
feeds there, and the items of the devices on the path. -/
structure PlaceChoice where
  srcPos : Nat
  src : Nat
  tp : Nat
  rate : Nat
  dstPos : Nat
  dstSrc : Nat
  items : List (Nat × PlaceItem)
  deriving DecidableEq, Repr

/-- A crossing as it runs on this device (R400, R401): items in force, and a move in progress. -/
structure LocalCross where
  item : PlaceItem
  carrying : Bool
  deriving DecidableEq, Repr

/-- A move in progress through this device (R401 to R403). -/
structure Move where
  crossing : Nat
  src : Nat
  fMove : Nat
  tp : Nat
  oldLane : Nat
  newLane : Nat
  newTag : Nat
  rate : Nat
  newFailed : Bool
  oldFailed : Bool
  deriving DecidableEq, Repr

/-- A Chart held by the device (R172): what the rest of the device reads of it. -/
structure Chart where
  seq : Nat
  hash : Nat
  /-- owner slot whose key signed it -/
  signer : Nat
  slotId : Nat
  position : Nat
  role : Nat
  manager : Nat
  twinPresent : Bool
  twinPref : Nat
  twinPlane : Nat
  twinHold : Nat
  holdup : Option Nat
  /-- FAR_END entries, 196 words of R174 -/
  farEnd : List Nat
  /-- TIME_TREE: lane and asym in 0.25 ns -/
  timeTree : List (Nat × Int)
  /-- REGULATORS: per rail, PMBus address byte and exponent byte -/
  regulators : List (Nat × Nat)
  /-- OWNERS: first page, count, class -/
  owners : List (Nat × Nat × Nat)
  /-- MGMT payload bytes -/
  mgmt : List Byte
  /-- PAGE_INIT writes: BAR0 address and value, in order -/
  pageInit : List (Nat × Word)
  deriving DecidableEq, Repr

/-- The payload of a journal record (R593), as typed data. -/
inductive JBody where
  | pageWrite (page : Nat) (writes : List (Nat × Word))
  /-- `none`: the page is no longer armed -/
  | commitArm (page : Nat) (r : Option CommitReq)
  | take (key : Nat) (t : PendTake)
  | takeEnd (key ticket result reason f : Nat)
  | hold (key : Nat) (h : Option Hold)
  | salvo (s : Salvo)
  | place (decision : Nat) (last : Bool) (pos : Nat) (item : PlaceItem)
  | role (t : RoleTable)
  /-- SN and DN map entries written (R434); R593 names no type of its own for them -/
  | maps (sn dn : List (Nat × Nat))
  | tongsSeq (peer sent acted : Nat)
  | chart (seq hash : Nat)
  /-- the update region as the change leaves it -/
  | upd (u : UpdImage)
  | ckptMark (seq frame jcut : Nat)
  | seal (time cause : Nat) (life : List Nat)
  | resume (cause : Nat)
  deriving DecidableEq, Repr

/-- A record of the journal ring (R592); its CRC and MORE bit follow from where it stands. -/
structure JRecord where
  seq : Nat
  more : Bool
  segment : Nat
  time : Nat
  body : JBody
  deriving DecidableEq, Repr

/-- What Temper keeps of a destination or circuit (R588): current and primary source, pending takes, hold, a hold that waits
for a salvo, protection counts, flaps and latch. -/
structure PDst where
  key : Nat
  src : Option Nat
  primary : Option Nat
  pend : List PendTake
  hold : Option Hold
  deferred : Option (Hold × Nat)
  flaps : List Nat
  latched : Bool
  deriving DecidableEq, Repr

/-- What Temper keeps of a source index (R588): kind, origin, second stream, plane, reservation, group. -/
structure PSrc where
  src : Nat
  kind : Nat
  origin : Nat
  second : Bool
  tp : Nat
  rate : Nat
  groupSize : Nat
  member : Nat
  lead : Nat
  deriving DecidableEq, Repr

/-- The persisted state of R588: the body of a checkpoint. `regs` holds the words of the persisted pages and coordinate
slots that differ from reset, live copies at + 0x800; the rest is beside the registers. -/
structure Persist where
  regs : List (Nat × Word)
  commits : List CommitReq
  dsts : List PDst
  srcs : List PSrc
  nextTicket : Nat
  salvos : List Salvo
  table : RoleTable
  sn : List (Nat × Nat)
  dn : List (Nat × Nat)
  /-- peer position, SEQ sent, SEQ acted on -/
  seqs : List (Nat × Nat × Nat)
  crossings : List Crossing
  cross : List LocalCross
  moves : List Move
  placeDue : List PlaceItem
  decision : Nat
  surfs : List Nat
  upd : UpdImage
  /-- power-on time (ns), restores, seals, unsealed restores, checkpoints, time above 95 °C (ns), mirrors -/
  life : List Nat
  deriving DecidableEq, Repr

/-- A heartbeat of a twin unit (R626): unit, state, byte 1 of the health report, last epoch sent and applied, device time, and
the handover frame, plane and HANDOVER_VALID. -/
structure Heartbeat where
  unit : Nat
  state : Nat
  flags : Nat
  sent : Nat
  applied : Nat
  time : Nat
  f : Nat
  tp : Nat
  valid : Bool
  deriving DecidableEq, Repr

/-- A signature entry (R642): destination, EXCLUDE, F modulo 2¹⁶, CRC-32. -/
structure SigEntry where
  dst : Nat
  exclude : Bool
  f : Nat
  sig : Nat
  deriving DecidableEq, Repr

/-- What a HANDOVER cell says (R626, R652). -/
inductive HandoverOp where
  | propose
  | accept
  | cancel
  deriving DecidableEq, Repr

/-- The payload of a Clasp cell (R626, R636, R711). A copy travels in many cells of 232 bytes; here it is one image. -/
inductive ClaspBody where
  | heartbeat (h : Heartbeat)
  | epoch (n index : Nat) (last : Bool) (recs : List JRecord)
  | copy (p : Persist)
  | signatures (l : List SigEntry)
  | health (words : List Word)
  | handover (op : HandoverOp) (f tp : Nat)
  | ack (epoch ofs : Nat)
  | updChunk (index ofs : Nat) (data : List Byte)
  deriving DecidableEq, Repr

/-- A self-test of a standby (R644). -/
inductive SelfTest where
  | swage (n : Fin 32)
  | filigree (n : Fin 16)
  | dram
  | scrub
  | lane (n : Fin 192)
  deriving DecidableEq, Repr

/-- Who signed a command to the Hallmark (R688): the vendor root key, the key of an owner slot, or a signature that does not
verify. -/
inductive CmdSig where
  | vendor
  | slot (k : Fin 4)
  | bad
  deriving DecidableEq, Repr

/-- A failure that takes the Hallmark out of service (R697). -/
inductive HalFailure where
  | entropy
  | pairwise
  deriving DecidableEq, Repr

/-- Straps latched at the release of RESET_N (R735). -/
structure Straps where
  slotId : Fin 256
  bootSrc : Fin 4
  twinPref : Bool
  deriving DecidableEq, Repr

/-- What the boot chain finds (R694, R737, R738): whether stage 1 copies A and B verify, whether the images of the firmware
slots with the roles RUNNING, PREVIOUS and RECOVERY verify, the boot measurement of each, and ms to the control firmware. -/
structure BootFind where
  stageA : Bool
  stageB : Bool
  running : Bool
  previous : Bool
  recovery : Bool
  meas : List Word
  ms : Nat
  deriving DecidableEq, Repr


/-- The commands of the block. -/
inductive Instr where
  /-- A 32-bit write of a register that has no row of its own (REGISTER_WRITE, R137). -/
  | registerWrite (addr : Nat) (v : Word) (w : Writer)
  /-- A BAR0 access that is not an aligned 32-bit access (BAR0_BAD_ACCESS, R131). -/
  | bar0BadAccess (addr : Nat) (size : Nat) (write : Bool)
  /-- A write of PG_STICKY, or of PG_IRQ_EN when `irqEn` (STICKY_WRITE, R161). -/
  | stickyWrite (page : Nat) (irqEn : Bool) (v : Word) (w : Writer)
  /-- A write of an entry sticky register (ENTRY_STICKY_WRITE, R790). -/
  | entryStickyWrite (reg : EntrySticky) (v : Word) (w : Writer)
  /-- The instant at which the link is up and messages are enabled, so that a held message can be sent (MSIX_DEFERRED_SEND, R161). -/
  | msixDeferredSend (vector : Fin 64)
  /-- A write of 1 to PG_CTRL.SOFT_RESET (SOFT_RESET, R750). -/
  | softReset (page : Nat) (w : Writer)
  /-- A write of PG_COMMIT with GO 1 and AT 0 (the SLOT field as written) (COMMIT_NOW, R139). -/
  | commitNow (page : Nat) (slot : Fin 16) (w : Writer)
  /-- A write of PG_COMMIT with GO 1 and AT 1 (COMMIT_ARM, R141). -/
  | commitArm (page : Nat) (slot : Fin 16) (w : Writer)
  /-- A write of PG_COMMIT with DISARM 1 (COMMIT_DISARM, R142). -/
  | commitDisarm (page : Nat) (w : Writer)
  /-- The coordinate of a slot is reached (SLOT_COORDINATE, R140). -/
  | slotCoordinate (slot : Fin 16)
  /-- The safe point or commit line of these pages; of an FS_DST page, of the entry named (COMMIT_APPLY, R146). -/
  | commitApply (items : List (Nat × Option (Fin 16)))
  /-- A write of PG_SNAPSHOT with FREEZE 1 and RELEASE 0 (SNAPSHOT_FREEZE, R155). -/
  | snapshotFreeze (page : Nat) (w : Writer)
  /-- A write of PG_SNAPSHOT with RELEASE 1 (SNAPSHOT_RELEASE, R155). -/
  | snapshotRelease (page : Nat) (w : Writer)
  /-- 100 ms after the freeze of a page (page 1 with SYS_SNAPSHOT: of every page) (SNAPSHOT_TIMEOUT, R155). -/
  | snapshotTimeout (page : Nat)
  /-- A write of SYS_SNAPSHOT with FREEZE 1 and RELEASE 0 (SYS_SNAPSHOT_FREEZE, R156). -/
  | sysSnapshotFreeze (w : Writer)
  /-- A write of SYS_SNAPSHOT with RELEASE 1 (SYS_SNAPSHOT_RELEASE, R155). -/
  | sysSnapshotRelease (w : Writer)
  /-- A write of SYS_CENSUS_CTRL with GO 1, on a slot when AT is 1 (CENSUS_GO, R157). -/
  | censusGo (at? : Option (Fin 16)) (toDram : Bool) (w : Writer)
  /-- The census has been written, or a bus error stopped it (CENSUS_COMPLETE, R159). -/
  | censusComplete (busErr : Bool)
  /-- A write of SYS_EVT_RD (EVT_READ, R164). -/
  | evtRead (seq : Word) (w : Writer)
  /-- A write of SYS_CHART_CTRL with GO 1 (CHART_LOAD, R176). -/
  | chartLoad (at? : Option (Fin 16)) (w : Writer)
  /-- The 2 s hold after the previous Chart write ends (CHART_HOLD_END, R176). -/
  | chartHoldEnd
  /-- An accepted Chart has been written to Temper and SPI NOR (CHART_ACCEPTED, R176). -/
  | chartAccepted
  /-- A management command that writes a register: from control protocol session 0 to 7, or 8 for the IS-05 API (MGMT_COMMAND, R170). -/
  | mgmtCommand (session : Fin 9) (addr : Nat) (v : Word)
  /-- A control protocol session is requested (TLS_SESSION_OPEN, R168). -/
  | tlsSessionOpen (session : Fin 8) (certOk : Bool)
  /-- An IS-05 activation: shadow writes (offset and value) to a flow page and their commit, at a TAI time in ns when scheduled (IS05_ACTIVATION, R169). -/
  | is05Activation (page : Nat) (writes : List (Nat × Word)) (plane : Fin 8) (at? : Option Nat)
  /-- The first commit line at or after the TAI time of the earliest scheduled activation (IS05_SCHEDULED_DUE, R169). -/
  | is05ScheduledDue
  /-- A qualified pulse on REFIN_FRM[n]: how it compares with its predecessors, and the measured phase and frequency (REFIN_FRM_PULSE, R58). -/
  | refinFrmPulse (n : Fin 4) (kind : PulseKind) (phase : Int) (freq : Int)
  /-- A qualified PPS_IN edge (candidate 5) (PPS_IN_PULSE, R59). -/
  | ppsInPulse (kind : PulseKind) (phase : Int) (freq : Int)
  /-- A reference clock shows no edge for 1 µs (REF_CLOCK_ABSENT, R61). -/
  | refClockAbsent (c : RefClock)
  /-- Candidate c has met its criteria for QUAL_TIME; its measured phase and frequency (CANDIDATE_QUALIFIES, R61). -/
  | candidateQualifies (c : Fin 8) (phase : Int) (freq : Int)
  /-- The hold-off of candidate c ends (HOLDOFF_END, R66). -/
  | holdoffEnd (c : Fin 8)
  /-- A slew ends (SLEW_END, R69). -/
  | slewEnd
  /-- The start of line 1 at which a step is due (TIME_STEP, R82). -/
  | timeStep
  /-- The 1 ms loop instant, with the phase error to the active candidate (LOOP_UPDATE, R79). -/
  | loopUpdate (phase : Int)
  /-- The phase error has been within LOCK_THR for 1 s (LOCK_ACHIEVED, R72). -/
  | lockAchieved
  /-- 300 s of LOCKED have accumulated (HO_MEM_VALID, R77). -/
  | hoMemValid
  /-- A write of 1 to REF_HO_CTRL.CLEAR (HO_MEM_CLEAR, R77). -/
  | hoMemClear (w : Writer)
  /-- HOLDOVER has lasted HO_LIMIT minutes (HOLDOVER_LONG, R75). -/
  | holdoverLong
  /-- LOSC_IN fails the test of R73 (LOSC_FAIL, R73). -/
  | loscFail
  /-- LOSC_IN has been healthy for 10 s (LOSC_RECOVERED, R72). -/
  | loscRecovered
  /-- A 10 s window ends for two candidates of equal rank (REF_DISAGREE_WINDOW, R70). -/
  | refDisagreeWindow (a : Fin 8) (b : Fin 8)
  /-- The end of a REF_SW_PERIOD, with the phase error (SW_PERIOD_END, R84). -/
  | swPeriodEnd (phase : Int)
  /-- A write of REF_FREQ_CORR (REF_FREQ_CORR_WRITE, R84). -/
  | refFreqCorrWrite (w : Writer) (v : Word)
  /-- A whole TAI second of device time plus OFS (PPS_OUT_EDGE, R93). -/
  | ppsOutEdge
  /-- A fitted candidate has been absent for 10 s (CANDIDATE_ABSENT, R177). -/
  | candidateAbsent (c : Fin 8)
  /-- A read of PTP_TIME_LO (PTP_TIME_READ, R97). -/
  | ptpTimeRead
  /-- A write of 1 to MAC_TSQ_POP (TSQ_POP, R108). -/
  | tsqPop (mac : Fin 193) (w : Writer)
  /-- A Sync (with its Follow_Up when two-step) on a port; times in 0.25 ns (PTP_SYNC_RX, R112). -/
  | ptpSyncRx (port : Fin 16) (ingress : Int) (origin : Int) (correction : Int) (logSync : Int)
  /-- A Delay_Resp completes a delay exchange; times in 0.25 ns (PTP_DELAY_RESP_RX, R112). -/
  | ptpDelayRespRx (port : Fin 16) (t1 : Int) (t2 : Int) (t3 : Int) (t4 : Int)
  /-- An Announce on a port (PTP_ANNOUNCE_RX, R110). -/
  | ptpAnnounceRx (port : Fin 16) (a : Announce)
  /-- The Announce receipt timeout of a port expires (PTP_ANNOUNCE_TIMEOUT, R61). -/
  | ptpAnnounceTimeout (port : Fin 16)
  /-- A message interval of a port expires (PTP_MESSAGE_SEND, R109). -/
  | ptpMessageSend (port : Fin 16) (kind : PtpKind)
  /-- The 1 ms time transfer instant of a worker (TT_REQ_SEND, R117). -/
  | ttReqSend
  /-- A TIME_XFER block arrives on a lane (TIME_XFER_RX, R117). -/
  | timeXferRx (lane : Fin 192) (x : TimeXfer) (ingress : Int)
  /-- The first listed time transfer lane has held block lock for 10 s (TT_LANE_RETURN, R118). -/
  | ttLaneReturn
  /-- The 10 s calibration, with the measured ns per always-on tick (AON_CALIBRATE, R121). -/
  | aonCalibrate (ratio : Word)
  /-- LN_REFCLK[k] shows no edge for 1 µs (REFCLK_LOST, R193). -/
  | refclkLost (k : Fin 12)
  /-- LN_REFCLK[k] has been present for 10 ms (REFCLK_RESTORED, R193). -/
  | refclkRestored (k : Fin 12)
  /-- The PLL of quad q locks (QUAD_PLL_LOCKED, R209). -/
  | quadPllLocked (q : Fin 49)
  /-- The CDR of lane n locks, on the ÷ 1.001 family when `frac` (CDR_LOCK, R195). -/
  | cdrLock (n : Fin 196) (frac : Bool)
  /-- 5 ms at one rate without LOCKED (CDR_HUNT_TIMEOUT, R195). -/
  | cdrHuntTimeout (n : Fin 196)
  /-- 64 consecutive valid sync headers (BLOCK_LOCK, R195). -/
  | blockLock (n : Fin 196)
  /-- Two consecutive TRS at matching alignment (TRS_ALIGN, R195). -/
  | trsAlign (n : Fin 196)
  /-- The CDR has been locked for 100 µs; its offset in ppm from the nearest rate of both families (RAW_LOCK, R195). -/
  | rawLock (n : Fin 196) (ofs : Int)
  /-- 16 invalid sync headers within 64 blocks (BLOCK_LOCK_LOST, R195). -/
  | blockLockLost (n : Fin 196)
  /-- 5 ms without TRS (ALIGN_HUNT_TIMEOUT, R195). -/
  | alignHuntTimeout (n : Fin 196)
  /-- The CDR loses lock (CDR_LOST, R195). -/
  | cdrLost (n : Fin 196)
  /-- 64 consecutive inverted-valid sync headers (INV_POLARITY_SEEN, R198). -/
  | invPolaritySeen (n : Fin 196)
  /-- 64 consecutive error-free bits (PRBS_SYNC, R207). -/
  | prbsSync (n : Fin 196)
  /-- More than 256 errors in 1,024 bits, after these bits and errors in sync (PRBS_SYNC_LOST, R207). -/
  | prbsSyncLost (n : Fin 196) (bits : Nat) (errs : Nat)
  /-- The checker has compared these bits and errors, and a counter saturates (PRBS_SAT, R208). -/
  | prbsSat (n : Fin 196) (bits : Nat) (errs : Nat)
  /-- A read of LN_PRBS_ERR_LO, with the bits and errors compared since the last report (PRBS_ERR_READ, R208). -/
  | prbsErrRead (n : Fin 196) (bits : Nat) (errs : Nat)
  /-- A write of 1 to LN_PRBS_CLR.CLR (PRBS_CLEAR, R208). -/
  | prbsClear (n : Fin 196) (w : Writer)
  /-- A write of 1 to LN_PRBS_CLR.INJECT (PRBS_INJECT, R208). -/
  | prbsInject (n : Fin 196) (w : Writer)
  /-- One line received by the SDI decoder of a lane (SDI_LINE_RX, R221). -/
  | sdiLineRx (n : Fin 192) (x : SdiLine)
  /-- The third consecutive line without valid TRS has passed (SDI_LOST, R222). -/
  | sdiLost (n : Fin 192)
  /-- The second consecutive clean frame of a supported format has ended (SDI_VALID, R223). -/
  | sdiValid (n : Fin 192)
  /-- The frame start after an ST 352 change of colorimetry, transfer or range (DESC_CHG, R225). -/
  | descChg (n : Fin 192)
  /-- Line l of frame f of an SDI output (SDI_TX_LINE, R243). -/
  | sdiTxLine (n : Fin 192) (f : Nat) (l : Nat) (x : TxLine)
  /-- A frame received by a MAC (MAC_FRAME_RX, R261). -/
  | macFrameRx (m : Fin 193) (x : RxFrame)
  /-- The pause time of a MAC has passed (PAUSE_END, R278). -/
  | pauseEnd (m : Fin 193)
  /-- The lane has been LOCKED for 1 ms without a fault; the FEC lane order found on ETH100 (MAC_LINK_UP, R255). -/
  | macLinkUp (m : Fin 193) (order : Nat)
  /-- The faults sent and received by a MAC change (MAC_LINK_FAULT, R255). -/
  | macLinkFault (m : Fin 193) (localFault : Bool) (remoteFault : Bool)
  /-- A write of RX_TAIL, after what the host has put into memory (RX_TAIL_WRITE, R268). -/
  | rxTailWrite (k : Fin 64) (v : BitVec 32) (cells : List Host.Cell) (w : Writer)
  /-- RX_IRQ_MOD.TIME has passed since the first frame (RX_IRQ_MOD_TIMER, R272). -/
  | rxIrqModTimer (k : Fin 64)
  /-- The frame being written to a ring that is being disabled has completed (RING_DISABLE_DONE, R271). -/
  | ringDisableDone (k : Fin 64)
  /-- A write of TX_TAIL, after what the host has put into memory (TX_TAIL_WRITE, R273). -/
  | txTailWrite (k : Fin 64) (v : BitVec 32) (cells : List Host.Cell) (w : Writer)
  /-- A frame boundary of a MAC, with the frame that the control cores have waiting, if any (MAC_FRAME_TX, R277). -/
  | macFrameTx (m : Fin 193) (core : Option (List (BitVec 8)))
  /-- Nothing has been eligible to send for MAC_LPI_CFG.IDLE µs (LPI_ENTER, R280). -/
  | lpiEnter (m : Fin 193)
  /-- TW µs of idle have been sent (LPI_WAKE_DONE, R282). -/
  | lpiWakeDone (m : Fin 193)
  /-- An LLDP frame whose EEE TLV settles this transmit wake time (LLDP_RX, R281). -/
  | lldpRx (m : Fin 193) (tw : Nat)
  /-- The far end's LLDP information expires (LLDP_EXPIRY, R281). -/
  | lldpExpiry (m : Fin 193)
  /-- A packet that a MAC hands to the flow engine (FLOW_PACKET_RX, R289). -/
  | flowPacketRx (m : Fin 192) (p : FlowPacket)
  /-- The release instant of line l of frame f of a receive flow; an active line, the first one, the last one (FLOW_LINE_RELEASE, R296). -/
  | flowLineRelease (r : Fin 4096) (f : Nat) (l : Nat) (active : Bool) (first : Bool) (final : Bool)
  /-- No packet of a receive flow for its limit (FLOW_LOST, R298). -/
  | flowLost (r : Fin 4096)
  /-- 20 ms of packets of an audio or ANC flow without a sequence gap (FLOW_AUDIO_RESTORE, R299). -/
  | flowAudioRestore (r : Fin 4096)
  /-- Packet k of frame f of a transmit flow falls due; the line that its row is; the last ANC packet (FLOW_PACKET_TX, R308). -/
  | flowPacketTx (t : Fin 4096) (f : Nat) (k : Nat) (l : Nat) (last : Bool)
  /-- The 1 s interval of a repeated membership report (IGMP_REPORT_REPEAT, R317). -/
  | igmpReportRepeat (r : Fin 4096)
  /-- A membership query (IGMP_QUERY_RX, R317). -/
  | igmpQueryRx (m : Fin 192) (q : MembershipQuery)
  /-- The read of output line l of frame f of a destination; `active` when the raster's line is an active one (HEARTH_READ, R336). -/
  | hearthRead (k : Fin 2048) (f : Nat) (l : Nat) (active : Bool)
  /-- A write of 1 to TAKE_REQ_GO.GO with TAKE_REQ_OP 0 (TAKE, R343). -/
  | take (w : Writer)
  /-- As TAKE with OP 1 (TAKE_CANCEL, R348). -/
  | takeCancel (w : Writer)
  /-- As TAKE with OP 2 (LOCK, R354). -/
  | lock (w : Writer)
  /-- As TAKE with OP 3 (UNLOCK, R354). -/
  | unlock (w : Writer)
  /-- As TAKE with OP 4 (PROTECT, R354). -/
  | protect (w : Writer)
  /-- As TAKE with OP 5 (UNPROTECT, R354). -/
  | unprotect (w : Writer)
  /-- As TAKE with OP 6 (FORCE_RELEASE, R354). -/
  | forceRelease (w : Writer)
  /-- A salvo's frame has passed, or the salvo has gone, for a destination with a deferred hold (HOLD_DEFERRED_APPLY, R354). -/
  | holdDeferredApply (r : DestRef)
  /-- The lead limit of a destination's read frame f (LEAD_LIMIT, R349). -/
  | leadLimit (r : DestRef) (f : Nat)
  /-- The switch line of a destination's read frame f (SWITCH_LINE, R349). -/
  | switchLine (r : DestRef) (f : Nat)
  /-- A write of 1 to TAKE_SALVO_GO.GO with CANCEL 0 (SALVO_REQUEST, R357). -/
  | salvoRequest (dram : Bool) (cells : List Host.Cell) (w : Writer)
  /-- A write of TAKE_SALVO_GO with GO and CANCEL 1 (SALVO_CANCEL, R362). -/
  | salvoCancel (w : Writer)
  /-- Two good ALIGN blocks 2,199 blocks apart with consecutive counts on a fabric or twin lane (FRAME_LOCK, R383). -/
  | frameLock (n : Fin 196)
  /-- Three consecutive frames whose ALIGN is absent or bad (FRAME_LOCK_LOST, R383). -/
  | frameLockLost (n : Fin 196)
  /-- A cell slot of a fabric lane (FABRIC_CELL_RX, R384). -/
  | fabricCellRx (n : Fin 192) (x : FabCell)
  /-- A LANE_ID block (LANE_ID_RX, R385). -/
  | laneIdRx (n : Fin 196) (x : LaneId)
  /-- Frame lock, an identity that agrees and 16 good frames bring a fabric or Clasp lane into service (LANE_IN_SERVICE, R386). -/
  | laneInService (n : Fin 196)
  /-- A RAW_CTL block on a lane reserved as a raw circuit (RAW_CTL_RX, R388). -/
  | rawCtlRx (n : Fin 192) (x : RawCtl)
  /-- The placement engine decides the oldest request: µs taken; lanes in billet service by bundle; positions that do not meet their local limits, with DETAIL; the paths chosen for new crossings; items for moves, engines, surfaces and raw circuits; crossings whose lanes have left service (PLACEMENT_DECIDE, R404). -/
  | placementDecide (us : Fin 65536) (view : List Bundle) (unfit : List (Nat × Nat)) (choices : List PlaceChoice) (extra : List (Nat × PlaceItem)) (stopped : List Nat)
  /-- The frame at which a held placement item applies (PLACE_ITEM_APPLY, R428). -/
  | placeItemApply (item : PlaceItem)
  /-- The start of frame F_move + 1 of a move at the receiving edge (MOVE_SPLICE, R401). -/
  | moveSplice (crossing : Nat)
  /-- The new path of a move has failed before F_move (MOVE_ABORT, R403). -/
  | moveAbort (crossing : Nat)
  /-- A Tongs message arrives on a fabric lane (TONGS_MESSAGE_RX, R422). -/
  | tongsMessageRx (lane : Fin 192) (m : TongsMsg) (tag : TagCheck)
  /-- A Tongs message for another position arrives (TONGS_RELAY, R419). -/
  | tongsRelay (lane : Fin 192) (m : TongsMsg)
  /-- An ACK arrives (ACK_RX, R422). -/
  | ackRx (lane : Fin 192) (h : TongsHead) (tag : TagCheck)
  /-- A NAK_ROLE arrives (NAK_ROLE_RX, R425). -/
  | nakRoleRx (lane : Fin 192) (h : TongsHead) (tag : TagCheck) (pos : Nat) (role : Nat) (epoch : Nat) (manager : Nat)
  /-- A ROLE_QUERY arrives (ROLE_QUERY_RX, R426). -/
  | roleQueryRx (lane : Fin 192) (h : TongsHead) (tag : TagCheck)
  /-- A ROLE_SET arrives (ROLE_SET_RX, R413). -/
  | roleSetRx (lane : Fin 192) (h : TongsHead) (tag : TagCheck) (t : RoleTable)
  /-- A TAKE message arrives (TAKE_MSG_RX, R435). -/
  | takeMsgRx (lane : Fin 192) (h : TongsHead) (tag : TagCheck) (l : List TakeEntry)
  /-- A TAKE_RESULT arrives (TAKE_RESULT_RX, R435). -/
  | takeResultRx (lane : Fin 192) (h : TongsHead) (tag : TagCheck) (l : List ResultEntry)
  /-- A SALVO_PREP arrives (SALVO_PREP_RX, R436). -/
  | salvoPrepRx (lane : Fin 192) (h : TongsHead) (tag : TagCheck) (p : SalvoHead) (l : List TakeEntry)
  /-- A SALVO_READY arrives (SALVO_READY_RX, R436). -/
  | salvoReadyRx (lane : Fin 192) (h : TongsHead) (tag : TagCheck) (p : SalvoHead) (ready : Bool) (reason : Nat) (idx : Nat) (got : Nat)
  /-- A SALVO_COMMIT arrives (SALVO_COMMIT_RX, R436). -/
  | salvoCommitRx (lane : Fin 192) (h : TongsHead) (tag : TagCheck) (p : SalvoHead)
  /-- A SALVO_ABORT arrives (SALVO_ABORT_RX, R436). -/
  | salvoAbortRx (lane : Fin 192) (h : TongsHead) (tag : TagCheck) (p : SalvoHead) (reason : Nat)
  /-- Half a frame before the earliest switch line of a salvo that is not all READY (SALVO_READY_DEADLINE, R436). -/
  | salvoReadyDeadline (ticket : Nat)
  /-- The lead limit of a committed salvo on a device that has not acknowledged (SALVO_COMMIT_DEADLINE, R436). -/
  | salvoCommitDeadline (ticket : Nat) (pos : Fin 128)
  /-- A PLACE message arrives (PLACE_RX, R428). -/
  | placeRx (lane : Fin 192) (h : TongsHead) (tag : TagCheck) (decision : Nat) (last : Bool) (items : List PlaceItem)
  /-- A HEALTH message arrives (HEALTH_RX, R437). -/
  | healthRx (lane : Fin 192) (h : TongsHead) (tag : TagCheck) (x : Health)
  /-- An EVENT message arrives (EVENT_RX, R437). -/
  | eventRx (lane : Fin 192) (h : TongsHead) (tag : TagCheck) (e : EventMsg)
  /-- A ROUTE_QUERY arrives (ROUTE_QUERY_RX, R430). -/
  | routeQueryRx (lane : Fin 192) (h : TongsHead) (tag : TagCheck) (first : Nat) (count : Nat)
  /-- A ROUTE_REPORT arrives (ROUTE_REPORT_RX, R440). -/
  | routeReportRx (lane : Fin 192) (h : TongsHead) (tag : TagCheck) (part : Nat) (parts : Nat) (l : List RouteEntry)
  /-- A RESYNC arrives (RESYNC_RX, R430). -/
  | resyncRx (lane : Fin 192) (h : TongsHead) (tag : TagCheck) (f : Nat) (tp : Fin 8) (l : List RouteEntry)
  /-- A BULK message arrives; the manifest that its chunk completes, where it verifies (BULK_RX, R431). -/
  | bulkRx (lane : Fin 192) (h : TongsHead) (tag : TagCheck) (object : Nat) (chunk : Nat) (ofs : Nat) (total : Nat) (data : List Byte) (man : Option Manifest)
  /-- A CHART_COMMIT arrives (CHART_COMMIT_RX, R443). -/
  | chartCommitRx (lane : Fin 192) (h : TongsHead) (tag : TagCheck) (seq : Nat) (hash : Nat) (f : Nat) (tp : Fin 8) (l : Nat) (smp : Nat)
  /-- An UPDATE with OP STAGE arrives (UPD_STAGE_MSG, R716). -/
  | updStageMsg (lane : Fin 192) (h : TongsHead) (tag : TagCheck) (u : UpdateMsg)
  /-- An UPDATE with OP READY arrives (UPD_READY_MSG, R716). -/
  | updReadyMsg (lane : Fin 192) (h : TongsHead) (tag : TagCheck) (u : UpdateMsg)
  /-- An UPDATE with OP STAGE_FAILED arrives (UPD_STAGE_FAILED_MSG, R716). -/
  | updStageFailedMsg (lane : Fin 192) (h : TongsHead) (tag : TagCheck) (u : UpdateMsg)
  /-- An UPDATE with OP COMMIT arrives (UPD_COMMIT_MSG, R717). -/
  | updCommitMsg (lane : Fin 192) (h : TongsHead) (tag : TagCheck) (u : UpdateMsg)
  /-- An UPDATE with OP ARMED arrives (UPD_ARMED_MSG, R717). -/
  | updArmedMsg (lane : Fin 192) (h : TongsHead) (tag : TagCheck) (u : UpdateMsg)
  /-- An UPDATE with OP CANCEL arrives (UPD_CANCEL_MSG, R718). -/
  | updCancelMsg (lane : Fin 192) (h : TongsHead) (tag : TagCheck) (u : UpdateMsg)
  /-- An UPDATE with OP FAIL arrives (UPD_FAIL_MSG, R722). -/
  | updFailMsg (lane : Fin 192) (h : TongsHead) (tag : TagCheck) (u : UpdateMsg)
  /-- An UPDATE with OP ROLLBACK arrives (UPD_ROLLBACK_MSG, R722). -/
  | updRollbackMsg (lane : Fin 192) (h : TongsHead) (tag : TagCheck) (u : UpdateMsg)
  /-- An UPDATE with OP FINALISE arrives (UPD_FINALISE_MSG, R724). -/
  | updFinaliseMsg (lane : Fin 192) (h : TongsHead) (tag : TagCheck) (u : UpdateMsg)
  /-- An UPDATE with OP VERSION arrives (UPD_VERSION_MSG, R720). -/
  | updVersionMsg (lane : Fin 192) (h : TongsHead) (tag : TagCheck) (u : UpdateMsg)
  /-- An UPDATE with OP DECISION_REQ arrives (UPD_DECISION_REQ_MSG, R725). -/
  | updDecisionReqMsg (lane : Fin 192) (h : TongsHead) (tag : TagCheck) (u : UpdateMsg)
  /-- The time of R423 since the last sending of a message has passed without its acknowledgement (TONGS_RETRANSMIT, R423). -/
  | tongsRetransmit (peer : Fin 128) (seq : Nat)
  /-- 100 µs after a message with no other message for the peer (ACK_SEND, R422). -/
  | ackSend (peer : Fin 128)
  /-- A write of HIE_ROLE_CMD with OP SET_ROLE (SET_ROLE, R411). -/
  | setRole (position : Fin 128) (role : Fin 4) (w : Writer)
  /-- A write of HIE_ROLE_CMD with OP ASSUME (ASSUME, R412). -/
  | assume (w : Writer)
  /-- The 100 ms instant of an unconfirmed device (ROLE_QUERY_SEND, R415). -/
  | roleQuerySend
  /-- 1 s without a higher epoch (ROLE_CONFIRM, R415). -/
  | roleConfirm
  /-- The 1 s instant of a worker (HEALTH_SEND, R437). -/
  | healthSend
  /-- HIE_LOSS_TIME without a message from a worker (WORKER_LOST, R438). -/
  | workerLost (peer : Fin 128)
  /-- HIE_LOSS_TIME without a message from the manager (MGR_LOST, R439). -/
  | mgrLost
  /-- A write of HIE_CTRL with RECLAIM 1 (RECLAIM, R439). -/
  | reclaim (w : Writer)
  /-- A write of HIE_MAP_CTRL with GO 1; the host memory that holds the map (MAP_LOAD, R434). -/
  | mapLoad (dram : Bool) (cells : List Host.Cell) (w : Writer)
  /-- A write of HIE_REQ_GO with HIE_REQ_OP TAKE (HIE_REQ_TAKE, R435). -/
  | hieReqTake (w : Writer)
  /-- A write of HIE_REQ_GO with HIE_REQ_OP CANCEL (HIE_REQ_CANCEL, R348). -/
  | hieReqCancel (w : Writer)
  /-- A write of HIE_REQ_GO with HIE_REQ_OP LOCK (HIE_REQ_LOCK, R354). -/
  | hieReqLock (w : Writer)
  /-- A write of HIE_REQ_GO with HIE_REQ_OP UNLOCK (HIE_REQ_UNLOCK, R354). -/
  | hieReqUnlock (w : Writer)
  /-- A write of HIE_REQ_GO with HIE_REQ_OP PROTECT (HIE_REQ_PROTECT, R354). -/
  | hieReqProtect (w : Writer)
  /-- A write of HIE_REQ_GO with HIE_REQ_OP UNPROTECT (HIE_REQ_UNPROTECT, R354). -/
  | hieReqUnprotect (w : Writer)
  /-- A write of HIE_REQ_GO with HIE_REQ_OP FORCE_RELEASE (HIE_REQ_FORCE_RELEASE, R354). -/
  | hieReqForceRelease (w : Writer)
  /-- A write of HIE_SALVO_GO with GO 1 and OP SALVO; the host memory that holds the list (HIE_SALVO_GO, R436). -/
  | hieSalvoGo (dram : Bool) (cells : List Host.Cell) (w : Writer)
  /-- A write of HIE_SALVO_GO with GO 1 and OP CANCEL (HIE_SALVO_CANCEL, R362). -/
  | hieSalvoCancel (w : Writer)
  /-- The start of output frame f of a destination with a store; the lines not yet written when they are read (FS_OUTPUT_FRAME, R452). -/
  | fsOutputFrame (k : Fin 2048) (f : Nat) (torn : List Nat)
  /-- HOLD_TIMEOUT consecutive held frames have gone out (HOLD_EXPIRED, R457). -/
  | holdExpired (k : Fin 2048)
  /-- D input frames have been written since the store started FILLING (FS_FILLED, R459). -/
  | fsFilled (k : Fin 2048)
  /-- The switch line of frame f of a compositor, with what its scalers deliver (FIL_COMPOSE, R500). -/
  | filCompose (n : Fin 16) (f : Nat) (x : FilFrame)
  /-- The load of a surface into DRAM ends (SURFACE_LOAD_DONE, R498). -/
  | surfaceLoadDone (num : Fin 65536)
  /-- The next 48 kHz sample instant of the matrix (AUDIO_SAMPLE, R513). -/
  | audioSample
  /-- TIMEOUT has passed without a crossing of a class C output (ZC_TIMEOUT, R522). -/
  | zcTimeout (o : Fin 8192)
  /-- N samples of a class P crossfade have passed (RAMP_COMPLETE, R520). -/
  | rampComplete (o : Fin 8192)
  /-- 1,920 samples without a Pa for a class D output (BURST_TIMEOUT, R525). -/
  | burstTimeout (o : Fin 8192)
  /-- 4,096 samples of an input without a preamble (NONPCM_CLEAR, R524). -/
  | nonpcmClear (i : Fin 8192)
  /-- HOLD seconds of silent samples have passed for a group or a port (SILENCE_CHANGE, R530). -/
  | silenceChange (t : SilTarget)
  /-- A frame start of an audio port (APT_FRAME, R539). -/
  | aptFrame (n : Fin 16) (x : AptFrame)
  /-- The 100 ms rate update of a port, with the frame rate averaged over the last second in 0.01 Hz (APT_RATE_UPDATE, R547). -/
  | aptRateUpdate (n : Fin 16) (rate : Nat)
  /-- A slave port's clock is lost (APT_CLK_LOST, R548). -/
  | aptClkLost (n : Fin 16)
  /-- The frame start after 16 clean frames (APT_RESUME, R549). -/
  | aptResume (n : Fin 16)
  /-- LEAD frames of lead-in have passed (APT_LEAD_IN_DONE, R550). -/
  | aptLeadInDone (n : Fin 16)
  /-- LEAD frames of lead-out have passed (APT_LEAD_OUT_DONE, R551). -/
  | aptLeadOutDone (n : Fin 16)
  /-- A read, or a write of `data?`, of `len` bytes within one burst is accepted at a port, with the hint OPEN or CLOSE (DRAM_REQUEST, R565). -/
  | dramRequest (port : Fin 24) (p : Nat) (len : Nat) (data? : Option (List Byte)) (keepOpen : Bool)
  /-- A cycle in which subchannel sc (2 × channel + subchannel) has a free command slot; `meets` are the positions, oldest first, of its requests whose next command meets the JESD79-5 timings now, and `ecc` what a read finds (DRAM_COMMAND_ISSUE, R566). -/
  | dramCommandIssue (sc : Fin 16) (meets : List Nat) (ecc : DramEcc)
  /-- A refresh interval of a subchannel expires (REFRESH_DUE, R566). -/
  | refreshDue (sc : Fin 16)
  /-- PD_TIMER cycles without a request outstanding for a rank (RANK_POWER_DOWN, R568). -/
  | rankPowerDown (sc : Fin 16) (rank : Fin 2)
  /-- Line 2 of a frame of plane DDR_TRAIN.TP, or 16.7 ms (R573): whether the run completed within WINDOW, and the channels with a rank above 85 °C (PERIODIC_TRAINING, R572). -/
  | periodicTraining (ok : Bool) (hot : List (Fin 8))
  /-- Patrol scrub reads the next burst of a channel (DRAM_SCRUB_READ, R575). -/
  | dramScrubRead (ch : Fin 8) (ecc : DramEcc)
  /-- A master issues a read, or a write of `data?`, of 1 to 256 bytes (BUS_TRANSACTION, R576). -/
  | busTransaction (master : Fin 14) (addr : Nat) (len : Nat) (data? : Option (List Byte)) (keepOpen : Bool)
  /-- A target has completed its transaction and grants the next (BUS_GRANT, R579). -/
  | busGrant (target : Fin 11)
  /-- A target has given no response for 1 ms (BUS_TIMEOUT, R581). -/
  | busTimeout (target : Fin 11)
  /-- A target is reset (TARGET_RESET, R583). -/
  | targetReset (target : Fin 11)
  /-- A write of XBM_WAIT_SEL (XBM_WAIT_SEL_WRITE, R586). -/
  | xbmWaitSelWrite (v : Word) (w : Writer)
  /-- A read of RX_BYTES_LO, or of TX_BYTES_LO (MAC_BYTES_READ, R283). -/
  | macBytesRead (m : Fin 193) (tx : Bool)
  /-- The oldest journal group waiting becomes durable; `failed` are the positions in it of the records whose line failed its read-back and was remapped (JOURNAL_DURABLE, R594). -/
  | journalDurable (failed : List Nat)
  /-- A change has waited more than 1 ms for the journal (JOURNAL_WAIT, R595). -/
  | journalWait
  /-- A checkpoint may start (CHECKPOINT_START, R598). -/
  | checkpointStart
  /-- A write of 1 to TMP_CKPT_CTRL.NOW (CKPT_NOW, R598). -/
  | ckptNow (w : Writer)
  /-- The body of the checkpoint being written has been read back, its header is marked COMPLETE (CHECKPOINT_COMPLETE, R599). -/
  | checkpointComplete
  /-- A read of TMP_JSEQ_LO (JSEQ_READ, R619). -/
  | jseqRead
  /-- The power-fail warning: 0 PWR_FAIL_N low for 1 µs, 1 the internal supply monitor (PWR_FAIL_WARNING, R602). -/
  | pwrFailWarning (cause : Fin 2)
  /-- The SEAL record is durable (SEAL_DURABLE, R602). -/
  | sealDurable
  /-- PWR_FAIL_N has been high for 10 ms and the supply monitor no longer warns (WARNING_WITHDRAWN, R604). -/
  | warningWithdrawn
  /-- Patrol scrub reads the line at TMP_SCRUB_POS: the bits its ECC corrected, or an uncorrectable error (TEMPER_SCRUB, R611). -/
  | temperScrub (corrected : Fin 4) (uncorrectable : Bool)
  /-- 24 h of device time have passed since the last mirror (MIRROR_TIMER, R614). -/
  | mirrorTimer
  /-- A write of 1 to CRU_MIRROR_CTRL.NOW (MIRROR_NOW, R614). -/
  | mirrorNow (w : Writer)
  /-- The mirror being written completes with its index block, or fails (MIRROR_DONE, R614). -/
  | mirrorDone (ok : Bool)
  /-- A write of CRU_LIB_CTRL with OP STORE from host memory or DRAM, and whether a bus error stops the read of the surface (LIB_STORE, R615). -/
  | libStore (dram : Bool) (cells : List Host.Cell) (busErr : Bool) (w : Writer)
  /-- A write of CRU_LIB_CTRL with OP DELETE (LIB_DELETE, R615). -/
  | libDelete (w : Writer)
  /-- The index update of a store or delete is durable (LIB_DONE, R615). -/
  | libDone
  /-- Background work of the flash controller (NAND_REFRESH, R617). -/
  | nandRefresh (op : NandOp)
  /-- A heartbeat period of 250 µs (HEARTBEAT_SEND, R627). -/
  | heartbeatSend
  /-- A heartbeat of the partner `arb` is the level of TWIN_ARB (HEARTBEAT_RX, R631). -/
  | heartbeatRx (h : Heartbeat) (arb : Bool) (tag : TagCheck)
  /-- 8 consecutive periods without a heartbeat; `arb` is the level of TWIN_ARB (HEARTBEAT_LOST, R627). -/
  | heartbeatLost (arb : Bool)
  /-- TWIN_ARB has been high for 2 ms (TWIN_ARB_HIGH, R632). -/
  | twinArbHigh
  /-- 2 s in STARTING without a heartbeat; `arb` is the level of TWIN_ARB (STARTING_TIMEOUT, R631). -/
  | startingTimeout (arb : Bool)
  /-- An EPOCH cell of the active unit (EPOCH_CELL_RX, R637). -/
  | epochCellRx (n : Nat) (index : Nat) (last : Bool) (recs : List JRecord) (tag : TagCheck)
  /-- An epoch has had no ACK for 10 ms (EPOCH_ACK_TIMEOUT, R637). -/
  | epochAckTimeout
  /-- An ACK cell: highest epoch applied and copy offset received (CLASP_ACK_RX, R637). -/
  | claspAckRx (epoch : Nat) (ofs : Nat) (tag : TagCheck)
  /-- The standby holds the whole copy image and the first epoch, numbered `first`, that follows it (COPY_COMPLETE, R639). -/
  | copyComplete (image : Persist) (first : Nat)
  /-- A write of TWN_CMD with OP SWITCH, at the coordinate of a slot or 4 frames ahead (SWITCH, R654). -/
  | switch (slot : Option (Fin 16)) (w : Writer)
  /-- A write of TWN_CMD with OP FAIL (FAIL, R634). -/
  | fail (w : Writer)
  /-- A write of TWN_CMD with OP RECOPY (RECOPY, R639). -/
  | recopy (w : Writer)
  /-- A write of TWN_CMD with OP CANCEL (HANDOVER_CANCEL_CMD, R655). -/
  | handoverCancelCmd (w : Writer)
  /-- A HANDOVER cell of the partner (HANDOVER_RX, R652). -/
  | handoverRx (op : HandoverOp) (f : Nat) (tp : Fin 8) (tag : TagCheck)
  /-- The coordinate of the handover is reached (HANDOVER_COORDINATE, R652). -/
  | handoverCoordinate
  /-- The first start of the switch line of plane TWN_CFG.TP at or after the trigger of a takeover (TAKEOVER_INSTANT, R647). -/
  | takeoverInstant
  /-- A SIGNATURES cell, and this unit's own signatures (R641) of the same destinations and frames (SIGNATURES_RX, R642). -/
  | signaturesRx (theirs : List SigEntry) (own : List SigEntry) (tag : TagCheck)
  /-- The 1 s report is built; `ofs` is the time offset to the active unit in 0.25 ns (TWIN_HEALTH_SEND, R645). -/
  | twinHealthSend (ofs : Int)
  /-- A HEALTH cell of the partner (TWIN_HEALTH_RX, R645). -/
  | twinHealthRx (words : List Word) (tag : TagCheck)
  /-- TWN_WDOG expires (WATCHDOG_EXPIRY, R634). -/
  | watchdogExpiry
  /-- A write of 1 to TWN_WDOG_KICK (WATCHDOG_KICK, R658). -/
  | watchdogKick (w : Writer)
  /-- A self-test of the standby ends; `errors` are the PRBS errors it counted (SELFTEST_RUN, R644). -/
  | selftestRun (t : SelfTest) (ok : Bool) (errors : Nat)
  /-- HOLD seconds READY have passed without a break (REVERT_HOLD_END, R656). -/
  | revertHoldEnd
  /-- An UPD_CHUNK cell of the active unit (UPD_CHUNK_CELL_RX, R711). -/
  | updChunkCellRx (index : Nat) (ofs : Nat) (data : List Byte) (tag : TagCheck)
  /-- A write of PWR_CMD with state RUN (PWR_CMD_RUN, R669). -/
  | pwrCmdRun (w : Writer)
  /-- A write of PWR_CMD with state IDLE (PWR_CMD_IDLE, R669). -/
  | pwrCmdIdle (w : Writer)
  /-- A write of PWR_CMD with state SLEEP; `wake` is the level of WAKE (PWR_CMD_SLEEP, R665). -/
  | pwrCmdSleep (wake : Bool) (w : Writer)
  /-- A write of PWR_CMD with state DEEP (PWR_CMD_DEEP, R666). -/
  | pwrCmdDeep (wake : Bool) (w : Writer)
  /-- A write of PWR_CMD with state OFF (PWR_CMD_OFF, R667). -/
  | pwrCmdOff (wake : Bool) (w : Writer)
  /-- The next frame start of plane PWR_CFG.TP (SLEEP_COMMIT, R665). -/
  | sleepCommit
  /-- 1 ms after the datapath stopped (SLEEP_QUADS_OFF, R665). -/
  | sleepQuadsOff (wake : Bool)
  /-- The forced checkpoint is complete (DEEP_COMMIT, R666). -/
  | deepCommit
  /-- 1 ms after the lanes stopped; on the way to OFF, the journal is sealed (DEEP_REGULATORS_OFF, R666). -/
  | deepRegulatorsOff
  /-- The regulators have acknowledged (DEEP_REACHED, R666). -/
  | deepReached
  /-- A wake ends: the next frame start, or the last step of R672 (TRANSITION_END, R668). -/
  | transitionEnd (wake : Bool)
  /-- WAKE has been high for 100 µs; always-on ticks since the count was latched, and whether a write-back is verified by its CRC (WAKE_PIN, R674). -/
  | wakePin (ticks : Nat) (saved : Bool)
  /-- PWR_WAKE_TIMER ticks have passed since entry (WAKE_TIMER, R669). -/
  | wakeTimer (ticks : Nat) (saved : Bool)
  /-- A write of PWR_OP_CMD; whether the VDD_CORE regulator that the Chart declares answers at its address (OP_CHANGE, R678). -/
  | opChange (point : Fin 4) (answers : Bool) (w : Writer)
  /-- VDD_CORE is confirmed at the requested point, at `mv` mV (OP_CHANGE_CONFIRMED, R679). -/
  | opChangeConfirmed (mv : Fin 4096) (wake : Bool)
  /-- PMB_TIMEOUT ms have passed without a confirmation (PMB_TIMEOUT, R681). -/
  | pmbTimeout (wake : Bool)
  /-- PMB_ALERT_N is asserted; the words read from the regulator of a rail (PMB_ALERT, R681). -/
  | pmbAlert (rail : Fin 8) (word : Fin 65536) (vout : Fin 256)
  /-- A write of HAL_CMD with OP SELFTEST (HAL_SELFTEST, R697). -/
  | halSelftest (w : Writer)
  /-- The self-tests end: the failing test if any, and whether it is an entropy test (HAL_SELFTEST_DONE, R697). -/
  | halSelftestDone (fail : Option (Fin 256)) (entropy : Bool)
  /-- An entropy health test or a pairwise consistency test fails (HALLMARK_FAILURE, R697). -/
  | hallmarkFailure (kind : HalFailure) (code : Fin 256)
  /-- A write of HAL_CMD with OP ZEROIZE (ZEROIZE, R700). -/
  | zeroize (w : Writer)
  /-- ZEROIZE_N has been low for 10 ms (ZEROIZE_N_ASSERT, R699). -/
  | zeroizeNAssert
  /-- Both key-store copies are erased in SPI NOR (KEYSTORE_ERASED, R700). -/
  | keystoreErased
  /-- A write of HAL_CMD with OP AUDIT_SIGN and the range its argument names (AUDIT_SIGN, R705). -/
  | auditSign (first : Nat) (last : Nat) (w : Writer)
  /-- A write of HAL_CMD with OP SLOT_PROGRAM: slot, key hash and signer of its argument (SLOT_PROGRAM, R691). -/
  | slotProgram (slot : Fin 4) (hash : Nat) (signer : CmdSig) (w : Writer)
  /-- A write of HAL_CMD with OP SLOT_REVOKE (SLOT_REVOKE, R691). -/
  | slotRevoke (slot : Fin 4) (signer : CmdSig) (w : Writer)
  /-- A write of HAL_CMD with OP TEST_ACCESS: its signer, and whether it names this device's identity key (TEST_ACCESS, R702). -/
  | testAccess (signer : CmdSig) (identOk : Bool) (w : Writer)
  /-- A write of HAL_CMD with OP GEN_TLS: the certificate request that the new key gives, and the level of ZEROIZE_N (GEN_TLS, R693). -/
  | genTls (csr : List Byte) (zeroLow : Bool) (w : Writer)
  /-- A write of HAL_CMD with OP CERT_SET: whether the certificate is for the TLS key held (CERT_SET, R693). -/
  | certSet (ok : Bool) (cells : List Host.Cell) (w : Writer)
  /-- A hierarchy or twin key arrives in a session; `slot` is the owner slot its client certificate chains to, `zeroLow` the level of ZEROIZE_N (KEY_INSTALL, R692). -/
  | keyInstall (twin : Bool) (session : Fin 8) (slot : Option (Fin 4)) (zeroLow : Bool)
  /-- 10 s have passed since the last install, and one waits (KEY_INSTALL_DELAYED, R692). -/
  | keyInstallDelayed
  /-- A read of HAL_AUDIT_WR_LO (AUDIT_WR_READ, R728). -/
  | auditWrRead
  /-- A write of 1 to UPD_CHUNK_GO.GO; `man` is what the manifest says once this chunk completes it (UPD_CHUNK_GO, R709). -/
  | updChunkGo (man : Option Manifest) (cells : List Host.Cell) (w : Writer)
  /-- A write of an index to UPD_MISS_NEXT (UPD_MISS_NEXT_WRITE, R710). -/
  | updMissNextWrite (idx : Fin 65536) (w : Writer)
  /-- A write of UPD_CMD with OP STAGE (UPD_STAGE, R715). -/
  | updStage (w : Writer)
  /-- Verification into bank B ends: the failing part, if any (UPD_VERIFY_DONE, R715). -/
  | updVerifyDone (failed : Option (Fin 16))
  /-- A write of UPD_CMD with OP COMMIT, in the frame of a slot or UPD_LEAD.COMMIT frames ahead (UPD_COMMIT, R717). -/
  | updCommit (slot : Option (Fin 16)) (w : Writer)
  /-- A write of UPD_CMD with OP CANCEL (UPD_CANCEL, R719). -/
  | updCancel (w : Writer)
  /-- A write of UPD_CMD with OP FAIL (UPD_FAIL, R721). -/
  | updFail (w : Writer)
  /-- A write of UPD_CMD with OP FINALISE (UPD_FINALISE, R724). -/
  | updFinalise (w : Writer)
  /-- A write of UPD_CMD with OP ROLLBACK (UPD_ROLLBACK, R725). -/
  | updRollback (w : Writer)
  /-- A write of UPD_CMD with OP ABORT (UPD_ABORT, R712). -/
  | updAbort (w : Writer)
  /-- 2 frames before the commit coordinate (UPD_ACK_DEADLINE, R718). -/
  | updAckDeadline
  /-- The commit coordinate is reached (UPD_COMMIT_COORDINATE, R720). -/
  | updCommitCoordinate
  /-- The new images run: Hallmark and control cores have restarted (UPD_RESTART_DONE, R720). -/
  | updRestartDone
  /-- 2 s after the commit coordinate (UPD_VERSION_DEADLINE, R721). -/
  | updVersionDeadline
  /-- The rollback coordinate is reached (ROLLBACK_COORDINATE, R722). -/
  | rollbackCoordinate
  /-- The first switch line of plane UPD_CFG.TP at which a local rollback is due (LOCAL_ROLLBACK, R723). -/
  | localRollback
  /-- UPD_CFG.PROBATION seconds from the commit coordinate (PROBATION_END, R724). -/
  | probationEnd
  /-- UPD_CFG.PROBATION ÷ 10 seconds after the end of the probation (UNDECIDED, R725). -/
  | undecided
  /-- PWR_GOOD rises (PWR_GOOD_RISE, R732). -/
  | pwrGoodRise
  /-- PWR_GOOD has been low for 1 µs (PWR_GOOD_LOSS, R732). -/
  | pwrGoodLoss
  /-- RESET_N has been low for 10 µs (RESET_N_ASSERT, R733). -/
  | resetNAssert
  /-- RESET_N is released; the straps and what the boot chain then finds (RESET_N_RELEASE, R735). -/
  | resetNRelease (straps : Straps) (find : BootFind)
  /-- Firmware reads the Chart copies; always-on ticks since the count was latched (none when VDD_AON was lost), and rails whose declared regulator does not answer (CHART_CHOOSE, R741). -/
  | chartChoose (ticks : Option Nat) (silent : List (Fin 8))
  /-- Step 9 of R608 is reached; DRAM channels that failed boot training, and ms from PWR_GOOD (RESTORE_COMPLETE, R608). -/
  | restoreComplete (failed : List (Fin 8)) (ms : Nat)
  /-- A write of SYS_RESET_CTRL with OP WARM and GO 1; what the boot chain then finds (SYS_RESET_WARM, R750). -/
  | sysResetWarm (find : BootFind) (w : Writer)
  /-- A write of SYS_RESET_CTRL with OP CORES and GO 1 (SYS_RESET_CORES, R750). -/
  | sysResetCores (w : Writer)
  /-- The control cores run again (CORE_RESTART_DONE, R750). -/
  | coreRestartDone
  /-- PE_PERST_N, a hot reset or a function-level reset (ENDPOINT_RESET, R750). -/
  | endpointReset
  /-- PCI Express link training completes; `enabled` says whether the function may then send messages (PCIE_LINK_UP, R740). -/
  | pcieLinkUp (enabled : Bool)
  /-- The running PLL of quad q loses lock (QUAD_PLL_UNLOCK, R195). -/
  | quadPllUnlock (q : Fin 49)
  /-- The measured offset of LN_REFCLK[k], in 0.01 ppm, has left ±100 ppm (REFCLK_OOT, R193). -/
  | refclkOot (k : Fin 12) (ofs : Int)
  /-- A measured reference frequency leaves its limits (CANDIDATE_FREQ_OOT, R61). -/
  | candidateFreqOot (c : RefClock)
  /-- The PCI Express link goes down (PCIE_LINK_DOWN, R161). -/
  | pcieLinkDown
  /-- A host write of a word of the MSI-X table (MSIX_TABLE_WRITE, R161). -/
  | msixTableWrite (index : Fin 256) (v : Word)
  /-- The junction temperature reaches 105 °C (THERM, R683). -/
  | therm
  /-- A measurement of the timing margin at OP2, ps (AGE_MARGIN, R682). -/
  | ageMargin (margin : Fin 65536)
  /-- The LLDP service's send interval (LLDP_TRANSMIT, R281). -/
  | lldpTransmit
  deriving DecidableEq, Repr

end Sys2Proof
end

