-- ==== Sys2Proof/Decode.lean ====
section
/-!
DEFINITION. The commands that a word spells. No row of spec/opcode_table.json gives its command bits: a command of this block
is an access or an event, not an encoded word.
-/

namespace Sys2Proof

/-- The command that a word of a table row spells; no row has bits, so no word spells one. -/
def decodeTableWord (_nbits _w : Nat) : Option Instr := none

end Sys2Proof
end

