-- ==== Sys2Proof/Config.lean ====
section
/-!
DEFINITION. What the spec leaves open, as constants with no body: nothing can be proved of their values.
Each is named in the assumption log.
-/

namespace Sys2Proof.Config

/-- Free values: the n-th value the machine takes where the spec states that a value results but not which. -/
opaque freeValue : Nat → Nat

/-- The proportional-integral filter of R79 and R113: correction (10⁻¹²) from LOOP_BW, the phase error (0.25 ns) and
the correction in force. The spec gives its period and bandwidth, not its gains. -/
opaque piFilter : Nat → Int → Int → Int

/-- The least-squares rate of R115 over the last 16 offsets (device time ns, offset 0.25 ns), in 10⁻¹². -/
opaque rateFit : List (Nat × Int) → Int

/-- This device's PTP clockIdentity, clockAccuracy and offsetScaledLogVariance (IEEE 1588-2019), which the spec does not
give. -/
opaque clockIdentity : Nat
opaque clockAccuracy : Nat
opaque clockVariance : Nat

/-- Conversion of a pixel (R449, R488): from RGB, colorimetry, full range, to RGB, full range, depth of both in bits, and the
three components. The spec names the matrix and gives no arithmetic. -/
opaque convert : Bool → Nat → Bool → Bool → Bool → Nat → (Nat × Nat × Nat) → (Nat × Nat × Nat)

/-- Is a matrix input silent (AUD_IN_STAT, R535)? From its magnitudes of the last 100 ms and the samples since its last
preamble; R530 gives thresholds to outputs and ports only. -/
opaque inputSilent : List Nat → Nat → Bool

/-- Offset of the phase interpolator of a RAW transmitter, in 0.1 ppm, 16 bits (LN_RAW_STAT, R184): lane and device time. The
spec gives its range, not its value. -/
opaque rawInterp : Nat → Nat → Nat

/-- CRC-32 of R158 over bytes. The spec names it and gives no polynomial. -/
opaque crc32 : List (BitVec 8) → Nat

/-- SHA-384 over bytes: 48 bytes (R172, R706). -/
opaque sha384 : List (BitVec 8) → List (BitVec 8)

/-- Does an ECDSA P-384 signature verify under the key in an owner slot (R172, R691)? Slot, signed bytes, signature. -/
opaque ecdsaOk : Nat → List (BitVec 8) → List (BitVec 8) → Bool

/-- The signature, 96 bytes as a number, that the identity key makes over bytes (R705). -/
opaque identSign : List (BitVec 8) → Nat

/-- The chain tag of an audit entry, 16 bytes as a number (R704). -/
opaque auditTag : List (BitVec 8) → Nat

/-- The tag of a health report, 8 bytes as a number (R626, R645). -/
opaque claspTag : List Word → Nat

end Sys2Proof.Config
end

