-- ==== Sys2Proof/Machine/Bits.lean ====
section
/-!
DEFINITION. Bit fields of a 32-bit word, numbered as the spec numbers them ([hi:lo], bit 0 least significant), signed
fields, and the little-endian byte order of multi-byte values (spec/04_register_pages_and_host.md, R174).
-/

namespace Sys2Proof.Machine

/-- The bits [hi:lo] of a word, as ones. -/
def fieldMask (hi lo : Nat) : Word := BitVec.ofNat 32 ((2 ^ (hi + 1 - lo) - 1) * 2 ^ lo)

/-- The field [hi:lo] of a word as a number. -/
def bits (w : Word) (hi lo : Nat) : Nat := (w.toNat / 2 ^ lo) % 2 ^ (hi + 1 - lo)

/-- The word with the field [hi:lo] replaced by `v` (modulo the width of the field). -/
def setBits (w : Word) (hi lo v : Nat) : Word :=
  (w &&& ~~~ fieldMask hi lo) ||| (BitVec.ofNat 32 ((v % 2 ^ (hi + 1 - lo)) * 2 ^ lo))

/-- Bit n of a word. -/
def bit (w : Word) (n : Nat) : Bool := w.getLsbD n

/-- A number read as a two's-complement value of `width` bits. -/
def toSigned (width v : Nat) : Int :=
  let m := v % 2 ^ width
  if m < 2 ^ (width - 1) then (m : Int) else (m : Int) - (2 : Int) ^ width

/-- An integer as a two's-complement field of `width` bits. -/
def ofSigned (width : Nat) (v : Int) : Nat := (v % (2 : Int) ^ width).toNat

/-- An integer clamped to the range of a signed field of `width` bits ("saturating"). -/
def satSigned (width : Nat) (v : Int) : Int :=
  let m : Int := (2 : Int) ^ (width - 1)
  if v < -m then -m else if v > m - 1 then m - 1 else v

/-- A number clamped to an unsigned field of `width` bits ("saturating"). -/
def satNat (width v : Nat) : Nat := min v (2 ^ width - 1)

/-- `n` bytes of a number, lowest first. -/
def bytesLE : (n : Nat) → Nat → List Byte
  | 0, _ => []
  | n + 1, v => BitVec.ofNat 8 v :: bytesLE n (v / 256)

/-- The number a little-endian list of bytes holds. -/
def natLE : List Byte → Nat
  | [] => 0
  | b :: t => b.toNat + 256 * natLE t

/-- A Boolean as a bit value. -/
def b2n (b : Bool) : Nat := if b then 1 else 0

end Sys2Proof.Machine
end

