-- ==== Sys2Proof/Machine/Directory.lean ====
section
/-!
DEFINITION. The register directory (spec/22_register_directory.md, R756 to R763): which page type occupies each 4 KB
page, and for each register of each page type its offset, strides, reset value and the access type of its bits
(spec/04_register_pages_and_host.md, R137). One row per register row of the spec's tables; the rule that owns the
table stands above it. A reset value the spec gives as "from Chart", "restored", "from boot" or "—" is 0 here
(notes/assumptions/3.md).
-/

namespace Sys2Proof.Machine

/-- One register row: offset of index 0, up to two strides with their counts (a count of 1 for none), the reset value
and the bits of each writable access type of R137; every other bit is read-only or reserved. -/
structure RegRow where
  off : Nat
  stride : Nat
  count : Nat
  stride2 : Nat
  count2 : Nat
  reset : Nat
  rw : Nat
  rs : Nat
  sh : Nat
  tr : Nat
  deriving DecidableEq, Repr

/-- Block-specific registers of the DIR page (R757). -/
def rowsDIR : List RegRow := [
  ⟨0x40, 0x0, 1, 0x0, 1, 0x23, 0x0, 0x0, 0x0, 0x0⟩,  -- DIR_COUNT
  ⟨0x80, 0x8, 64, 0x0, 1, 0x0, 0x0, 0x0, 0x0, 0x0⟩,  -- DIR_ENTRYi_A (reset: per R756)
  ⟨0x84, 0x8, 64, 0x0, 1, 0x0, 0x0, 0x0, 0x0, 0x0⟩  -- DIR_ENTRYi_B (reset: per R756)
  ]

/-- Block-specific registers of the SYS page (R178, R754). -/
def rowsSYSPart0 : List RegRow := [
  ⟨0x40, 0x0, 1, 0x0, 1, 0x0, 0xFFFFFFFF, 0x0, 0x0, 0x0⟩,  -- SYS_BAR2_BASE_LO
  ⟨0x44, 0x0, 1, 0x0, 1, 0x0, 0xFFFFFFFF, 0x0, 0x0, 0x0⟩,  -- SYS_BAR2_BASE_HI
  ⟨0x48, 0x0, 1, 0x0, 1, 0x0, 0xFFFF, 0x0, 0x0, 0x0⟩,  -- SYS_OWNER_VIOL_CNT
  ⟨0x4C, 0x0, 1, 0x0, 1, 0x0, 0x0, 0x0, 0x0, 0x0⟩,  -- SYS_OWNER_VIOL_LAST
  ⟨0x50, 0x0, 1, 0x0, 1, 0x0, 0xFFFF, 0x0, 0x0, 0x0⟩,  -- SYS_ARMED_WR_CNT
  ⟨0x54, 0x0, 1, 0x0, 1, 0x0, 0x0, 0x0, 0x0, 0x0⟩,  -- SYS_COMMIT_LAST
  ⟨0x58, 0x0, 1, 0x0, 1, 0x0, 0x0, 0x0, 0x0, 0x3⟩,  -- SYS_SNAPSHOT
  ⟨0x60, 0x0, 1, 0x0, 1, 0x0, 0x0, 0x0, 0x0, 0x1F3⟩,  -- SYS_CENSUS_CTRL
  ⟨0x64, 0x0, 1, 0x0, 1, 0x0, 0xFFFFFFFF, 0x0, 0x0, 0x0⟩,  -- SYS_CENSUS_ADDR_LO
  ⟨0x68, 0x0, 1, 0x0, 1, 0x0, 0xFFFFFFFF, 0x0, 0x0, 0x0⟩,  -- SYS_CENSUS_ADDR_HI
  ⟨0x6C, 0x0, 1, 0x0, 1, 0x0, 0xFFFFFFFF, 0x0, 0x0, 0x0⟩,  -- SYS_CENSUS_LIMIT
  ⟨0x70, 0x0, 1, 0x0, 1, 0x0, 0x0, 0x0, 0x0, 0x0⟩,  -- SYS_CENSUS_STAT
  ⟨0x74, 0x0, 1, 0x0, 1, 0x0, 0x0, 0x0, 0x0, 0x0⟩,  -- SYS_CENSUS_LEN
  ⟨0x80, 0x0, 1, 0x0, 1, 0x0, 0x0, 0x0, 0x0, 0x0⟩,  -- SYS_EVT_WR (reset: restored)
  ⟨0x84, 0x0, 1, 0x0, 1, 0x0, 0xFFFFFFFF, 0x0, 0x0, 0x0⟩,  -- SYS_EVT_RD
  ⟨0x88, 0x0, 1, 0x0, 1, 0x0, 0x0, 0x0, 0x0, 0x0⟩,  -- SYS_EVT_STAT
  ⟨0xA0, 0x4, 8, 0x0, 1, 0x0, 0x0, 0x0, 0x0, 0x0⟩,  -- SYS_EVT_DATAi
  ⟨0xC0, 0x0, 1, 0x0, 1, 0x0, 0xFFFFFFFF, 0x0, 0x0, 0x0⟩,  -- SYS_IRQN_MASK_LO
  ⟨0xC4, 0x0, 1, 0x0, 1, 0x0, 0xFFFFFFFF, 0x0, 0x0, 0x0⟩,  -- SYS_IRQN_MASK_HI
  ⟨0xD0, 0x0, 1, 0x0, 1, 0x0, 0x0, 0x0, 0x0, 0xF3⟩,  -- SYS_CHART_CTRL
  ⟨0xD4, 0x0, 1, 0x0, 1, 0x0, 0xFFFFFFFF, 0x0, 0x0, 0x0⟩,  -- SYS_CHART_ADDR_LO
  ⟨0xD8, 0x0, 1, 0x0, 1, 0x0, 0xFFFFFFFF, 0x0, 0x0, 0x0⟩,  -- SYS_CHART_ADDR_HI
  ⟨0xDC, 0x0, 1, 0x0, 1, 0x0, 0x0, 0x0, 0x0, 0x0⟩,  -- SYS_CHART_STAT
  ⟨0xE0, 0x0, 1, 0x0, 1, 0x0, 0x0, 0x0, 0x0, 0x0⟩,  -- SYS_CHART_HASH_LO (reset: from Chart)
  ⟨0xE4, 0x0, 1, 0x0, 1, 0x0, 0x0, 0x0, 0x0, 0x0⟩,  -- SYS_CHART_HASH_HI (reset: from Chart)
  ⟨0xE8, 0x0, 1, 0x0, 1, 0x0, 0x0, 0x0, 0x0, 0x0⟩,  -- SYS_CHART_SEQ (reset: from Chart)
  ⟨0x100, 0x10, 16, 0x0, 1, 0x0, 0xFFFFFFFF, 0x0, 0x0, 0x0⟩,  -- SYS_CSLOTk_F_LO
  ⟨0x104, 0x10, 16, 0x0, 1, 0x0, 0x8007FFFF, 0x0, 0x0, 0x0⟩,  -- SYS_CSLOTk_F_HI
  ⟨0x108, 0x10, 16, 0x0, 1, 0x0, 0x3FFF1FFF, 0x0, 0x0, 0x0⟩,  -- SYS_CSLOTk_LS
  ⟨0x10C, 0x10, 16, 0x0, 1, 0x0, 0x0, 0x0, 0x0, 0x0⟩  -- SYS_CSLOTk_STAT
  ]

/-- SYS, continued. -/
def rowsSYSPart1 : List RegRow := [
  ⟨0x200, 0x0, 1, 0x0, 1, 0x0, 0x0, 0x0, 0x0, 0x0⟩,  -- SYS_BOOT_STAT (reset: from boot)
  ⟨0x204, 0x0, 1, 0x0, 1, 0x0, 0x0, 0x0, 0x0, 0x0⟩,  -- SYS_BOOT_TIME (reset: from boot)
  ⟨0x208, 0x0, 1, 0x0, 1, 0x0, 0x0, 0x0, 0x0, 0x7⟩,  -- SYS_RESET_CTRL
  ⟨0x20C, 0x0, 1, 0x0, 1, 0x0, 0x0, 0x0, 0x0, 0x0⟩  -- SYS_RESET_CAUSE (reset: from boot)
  ]

/-- All block-specific registers of the SYS page. -/
def rowsSYS : List RegRow := rowsSYSPart0 ++ rowsSYSPart1

/-- Block-specific registers of the REF page (R94). -/
def rowsREF : List RegRow := [
  ⟨0x40, 0x0, 1, 0x0, 1, 0x1, 0x0, 0x0, 0x73, 0x0⟩,  -- REF_CTRL
  ⟨0x44, 0x0, 1, 0x0, 1, 0x0, 0x0, 0x0, 0x0, 0x0⟩,  -- REF_STATE
  ⟨0x48, 0x0, 1, 0x0, 1, 0xA, 0x0, 0x0, 0x3FF, 0x0⟩,  -- REF_HOLDOFF
  ⟨0x4C, 0x0, 1, 0x0, 1, 0xF000A, 0x0, 0x0, 0x7F007F, 0x0⟩,  -- REF_LIMITS
  ⟨0x50, 0x0, 1, 0x0, 1, 0x3E80064, 0x0, 0x0, 0xFFFFFFFF, 0x0⟩,  -- REF_LOCK_THR
  ⟨0x54, 0x0, 1, 0x0, 1, 0x64, 0x0, 0x0, 0x3FF, 0x0⟩,  -- REF_SW_PERIOD
  ⟨0x58, 0x0, 1, 0x0, 1, 0x0, 0x0, 0x0, 0x0, 0x0⟩,  -- REF_PHERR
  ⟨0x5C, 0x0, 1, 0x0, 1, 0x0, 0xFFFFFFFF, 0x0, 0x0, 0x0⟩,  -- REF_FREQ_CORR
  ⟨0x60, 0x0, 1, 0x0, 1, 0x0, 0x0, 0x0, 0x0, 0x0⟩,  -- REF_FREQ_NOW
  ⟨0x64, 0x0, 1, 0x0, 1, 0x0, 0x0, 0x0, 0x0, 0x0⟩,  -- REF_HO_MEM (reset: restored)
  ⟨0x68, 0x0, 1, 0x0, 1, 0x1003C, 0x3FFFF, 0x0, 0x0, 0x80000000⟩,  -- REF_HO_CTRL
  ⟨0x6C, 0x0, 1, 0x0, 1, 0x32, 0xFFFF, 0x0, 0x0, 0x0⟩,  -- REF_DISAGREE
  ⟨0x70, 0x0, 1, 0x0, 1, 0x0, 0x73, 0x0, 0x0, 0x0⟩,  -- REF_CLKOUT0
  ⟨0x74, 0x0, 1, 0x0, 1, 0x0, 0x73, 0x0, 0x0, 0x0⟩,  -- REF_CLKOUT1
  ⟨0x78, 0x0, 1, 0x0, 1, 0xA0000, 0x81FFFFFF, 0x0, 0x0, 0x0⟩,  -- REF_PPS_OUT
  ⟨0x7C, 0x0, 1, 0x0, 1, 0x0, 0x0, 0x0, 0x0, 0x0⟩,  -- REF_STEP_LAST
  ⟨0x80, 0x10, 4, 0x0, 1, 0x2200F, 0x0, 0x0, 0xFF3F37FF, 0x0⟩,  -- REF_CANDn_CTRL
  ⟨0xC0, 0x10, 1, 0x0, 1, 0x702200F, 0x0, 0x0, 0xFF3F37FF, 0x0⟩,  -- REF_CANDn_CTRL (reset: n = 4)
  ⟨0xD0, 0x10, 2, 0x0, 1, 0x2200F, 0x0, 0x0, 0xFF3F37FF, 0x0⟩,  -- REF_CANDn_CTRL (reset: n = 5, 6)
  ⟨0xF0, 0x10, 1, 0x0, 1, 0x2000F, 0x0, 0x0, 0xFF3F37FF, 0x0⟩,  -- REF_CANDn_CTRL (reset: n = 7)
  ⟨0x84, 0x10, 8, 0x0, 1, 0x1, 0x0, 0x0, 0x0, 0x0⟩,  -- REF_CANDn_STAT
  ⟨0x88, 0x10, 8, 0x0, 1, 0x0, 0x0, 0x0, 0x0, 0x0⟩,  -- REF_CANDn_FOFS
  ⟨0x8C, 0x10, 8, 0x0, 1, 0x0, 0x0, 0x0, 0x0, 0x0⟩,  -- REF_CANDn_POFS
  ⟨0x100, 0x10, 8, 0x0, 1, 0x0, 0x0, 0x0, 0xFFFFFFFF, 0x0⟩,  -- REF_TPn_CFG (reset: from Chart)
  ⟨0x104, 0x10, 8, 0x0, 1, 0x0, 0x0, 0x0, 0xFFFFFFFF, 0x0⟩,  -- REF_TPn_OFS (reset: from Chart)
  ⟨0x108, 0x10, 8, 0x0, 1, 0x0, 0x0, 0x0, 0x0, 0x0⟩,  -- REF_TPn_F_LO (reset: —)
  ⟨0x10C, 0x10, 8, 0x0, 1, 0x0, 0x0, 0x0, 0x0, 0x0⟩  -- REF_TPn_F_HI (reset: —)
  ]

/-- Block-specific registers of the PTP page (R126). -/
def rowsPTP : List RegRow := [
  ⟨0x40, 0x0, 1, 0x0, 1, 0x9, 0x0, 0x0, 0xD, 0x0⟩,  -- PTP_CTRL
  ⟨0x44, 0x0, 1, 0x0, 1, 0x0, 0x0, 0x0, 0x0, 0x0⟩,  -- PTP_STATE
  ⟨0x48, 0x0, 1, 0x0, 1, 0x0, 0x0, 0x0, 0x0, 0x0⟩,  -- PTP_TIME_LO (reset: —)
  ⟨0x4C, 0x0, 1, 0x0, 1, 0x0, 0x0, 0x0, 0x0, 0x0⟩,  -- PTP_TIME_HI (reset: —)
  ⟨0x50, 0x0, 1, 0x0, 1, 0x0, 0x0, 0x0, 0x0, 0x0⟩,  -- PTP_TIME_FRAC (reset: —)
  ⟨0x54, 0x0, 1, 0x0, 1, 0x0, 0x0, 0x0, 0x0, 0x0⟩,  -- PTP_OFS_LAST
  ⟨0x58, 0x0, 1, 0x0, 1, 0x0, 0x0, 0x0, 0x0, 0x0⟩,  -- PTP_MPD
  ⟨0x5C, 0x0, 1, 0x0, 1, 0x80807F, 0x0, 0x0, 0x1FFFFFF, 0x0⟩,  -- PTP_DS
  ⟨0x60, 0x0, 1, 0x0, 1, 0x3DDE, 0x0, 0x0, 0xFFFF, 0x0⟩,  -- PTP_INTERVALS
  ⟨0x64, 0x0, 1, 0x0, 1, 0x34070D, 0x0, 0x0, 0xFFFFFF, 0x0⟩,  -- PTP_CLASS
  ⟨0x68, 0x0, 1, 0x0, 1, 0x0, 0x0, 0x0, 0x0, 0x0⟩,  -- PTP_GM_ID_LO
  ⟨0x6C, 0x0, 1, 0x0, 1, 0x0, 0x0, 0x0, 0x0, 0x0⟩,  -- PTP_GM_ID_HI
  ⟨0x70, 0x0, 1, 0x0, 1, 0xFF, 0x0, 0x0, 0x0, 0x0⟩,  -- PTP_GM_INFO
  ⟨0x74, 0x0, 1, 0x0, 1, 0x0, 0x0, 0x0, 0x0, 0x0⟩,  -- PTP_UTC
  ⟨0x78, 0x0, 1, 0x0, 1, 0x0, 0x0, 0x0, 0x0, 0x0⟩,  -- PTP_UNC
  ⟨0x7C, 0x0, 1, 0x0, 1, 0x77359400, 0x0, 0x0, 0x0, 0x0⟩,  -- PTP_AON_RATIO
  ⟨0x80, 0x10, 16, 0x0, 1, 0x0, 0x0, 0x0, 0x800001FF, 0x0⟩,  -- PTP_PORTp_CFG
  ⟨0x84, 0x10, 16, 0x0, 1, 0x0, 0x0, 0x0, 0xFFFFFFFF, 0x0⟩,  -- PTP_PORTp_ASYM
  ⟨0x88, 0x10, 16, 0x0, 1, 0x3, 0x0, 0x0, 0x0, 0x0⟩,  -- PTP_PORTp_STAT
  ⟨0x8C, 0x10, 16, 0x0, 1, 0x0, 0x0, 0x0, 0x0, 0x0⟩,  -- PTP_PORTp_CNT
  ⟨0x180, 0x0, 1, 0x0, 1, 0x0, 0x0, 0x0, 0x0, 0x0⟩,  -- PTP_TT_STAT
  ⟨0x184, 0x0, 1, 0x0, 1, 0x0, 0x0, 0x0, 0x0, 0x0⟩,  -- PTP_TT_OFS
  ⟨0x188, 0x0, 1, 0x0, 1, 0x0, 0x0, 0x0, 0x0, 0x0⟩  -- PTP_TT_DELAY
  ]

/-- Block-specific registers of the HRT page (R366). -/
def rowsHRT : List RegRow := [
  ⟨0x40, 0x0, 1, 0x0, 1, 0x0, 0x0, 0x0, 0x0, 0x0⟩,  -- HRT_IN_RATE
  ⟨0x44, 0x0, 1, 0x0, 1, 0x0, 0x0, 0x0, 0x0, 0x0⟩,  -- HRT_OUT_RATE
  ⟨0x48, 0x0, 1, 0x0, 1, 0x0, 0x0, 0x0, 0x0, 0x0⟩,  -- HRT_USED
  ⟨0x4C, 0x0, 1, 0x0, 1, 0x0, 0x3FF, 0x0, 0x0, 0x0⟩,  -- HRT_SRC_SEL
  ⟨0x50, 0x0, 1, 0x0, 1, 0x0, 0x0, 0x0, 0x0, 0x0⟩,  -- HRT_SRC_STAT
  ⟨0x54, 0x0, 1, 0x0, 1, 0x0, 0x0, 0x0, 0x0, 0x0⟩,  -- HRT_SRC_OFS
  ⟨0x58, 0x0, 1, 0x0, 1, 0x0, 0x0, 0x0, 0x0, 0x0⟩,  -- HRT_SRC_RATE
  ⟨0x5C, 0x0, 1, 0x0, 1, 0x0, 0x0, 0x0, 0x0, 0x0⟩,  -- HRT_SRC_READERS
  ⟨0x60, 0x4, 8, 0x0, 1, 0x0, 0x0, 0x0, 0x0, 0x0⟩,  -- HRT_SRC_DESCi
  ⟨0x80, 0x0, 1, 0x0, 1, 0x0, 0xFFFFFFFF, 0x0, 0x0, 0x0⟩,  -- HRT_HDR_ERR
  ⟨0x84, 0x0, 1, 0x0, 1, 0x0, 0xFFFFFFFF, 0x0, 0x0, 0x0⟩  -- HRT_LATE
  ]

/-- Block-specific registers of the TAKE_CMD page (R367). -/
def rowsTAKECMD : List RegRow := [
  ⟨0x40, 0x0, 1, 0x0, 1, 0x0, 0x87FF, 0x0, 0x0, 0x0⟩,  -- TAKE_REQ_DST
  ⟨0x44, 0x0, 1, 0x0, 1, 0x0, 0x83FF, 0x0, 0x0, 0x0⟩,  -- TAKE_REQ_SRC
  ⟨0x48, 0x0, 1, 0x0, 1, 0x0, 0xFFFFFFFF, 0x0, 0x0, 0x0⟩,  -- TAKE_REQ_F_LO
  ⟨0x4C, 0x0, 1, 0x0, 1, 0x0, 0x107FFFF, 0x0, 0x0, 0x0⟩,  -- TAKE_REQ_F_HI
  ⟨0x50, 0x0, 1, 0x0, 1, 0x0, 0xF, 0x0, 0x0, 0x0⟩,  -- TAKE_REQ_OP
  ⟨0x54, 0x0, 1, 0x0, 1, 0x0, 0x0, 0x0, 0x0, 0x1⟩,  -- TAKE_REQ_GO
  ⟨0x58, 0x0, 1, 0x0, 1, 0x0, 0x0, 0x0, 0x0, 0x0⟩,  -- TAKE_REQ_RESULT
  ⟨0x5C, 0x0, 1, 0x0, 1, 0x0, 0x0, 0x0, 0x0, 0x0⟩,  -- TAKE_REQ_TICKET
  ⟨0x80, 0x0, 1, 0x0, 1, 0x0, 0xFFFFFFFF, 0x0, 0x0, 0x0⟩,  -- TAKE_SALVO_ADDR_LO
  ⟨0x84, 0x0, 1, 0x0, 1, 0x0, 0xFFFFFFFF, 0x0, 0x0, 0x0⟩,  -- TAKE_SALVO_ADDR_HI
  ⟨0x88, 0x0, 1, 0x0, 1, 0x0, 0x1FFF, 0x0, 0x0, 0x0⟩,  -- TAKE_SALVO_COUNT
  ⟨0x8C, 0x0, 1, 0x0, 1, 0x0, 0xFFFFFFFF, 0x0, 0x0, 0x0⟩,  -- TAKE_SALVO_F_LO
  ⟨0x90, 0x0, 1, 0x0, 1, 0x0, 0x107FFFF, 0x0, 0x0, 0x0⟩,  -- TAKE_SALVO_F_HI
  ⟨0x94, 0x0, 1, 0x0, 1, 0x0, 0x0, 0x0, 0x0, 0x7⟩,  -- TAKE_SALVO_GO
  ⟨0x98, 0x0, 1, 0x0, 1, 0x0, 0x0, 0x0, 0x0, 0x0⟩,  -- TAKE_SALVO_RESULT
  ⟨0x9C, 0x0, 1, 0x0, 1, 0x0, 0xFFFFFFFF, 0x0, 0x0, 0x0⟩  -- TAKE_SALVO_TICKET
  ]

/-- Block-specific registers of the TAKE_CIRC page (R370). -/
def rowsTAKECIRC : List RegRow := [
  ⟨0x100, 0x8, 192, 0x0, 1, 0x0, 0x0, 0x0, 0x80071FFF, 0x0⟩,  -- TAKE_CIRCc_CFG
  ⟨0x104, 0x8, 192, 0x0, 1, 0x0, 0x0, 0x0, 0x0, 0x0⟩  -- TAKE_CIRCc_STAT
  ]

/-- Block-specific registers of the FAB page (R407). -/
def rowsFAB : List RegRow := [
  ⟨0x40, 0x0, 1, 0x0, 1, 0x0, 0x0, 0x0, 0xFFFF33, 0x0⟩,  -- FAB_CFG (reset: from Chart)
  ⟨0x44, 0x0, 1, 0x0, 1, 0x0, 0x0, 0x0, 0x0, 0x0⟩,  -- FAB_STAT
  ⟨0x48, 0x0, 1, 0x0, 1, 0x0, 0x0, 0x0, 0x0, 0x0⟩,  -- FAB_RSV
  ⟨0x4C, 0x0, 1, 0x0, 1, 0x0, 0xFF, 0x0, 0x0, 0x0⟩,  -- FAB_LN_SEL
  ⟨0x50, 0x0, 1, 0x0, 1, 0x0, 0xFFFFFFFF, 0x0, 0x0, 0x0⟩,  -- FAB_LN_CNT_FRAME
  ⟨0x54, 0x0, 1, 0x0, 1, 0x0, 0xFFFFFFFF, 0x0, 0x0, 0x0⟩,  -- FAB_LN_CNT_BAD
  ⟨0x58, 0x0, 1, 0x0, 1, 0x0, 0xFFFFFFFF, 0x0, 0x0, 0x0⟩,  -- FAB_LN_CNT_GAP
  ⟨0x5C, 0x0, 1, 0x0, 1, 0x0, 0xFFFFFFFF, 0x0, 0x0, 0x0⟩,  -- FAB_LN_CNT_CELLS
  ⟨0x60, 0x0, 1, 0x0, 1, 0x0, 0x0, 0x0, 0x0, 0x0⟩,  -- FAB_LN_ID_LO
  ⟨0x64, 0x0, 1, 0x0, 1, 0x0, 0x0, 0x0, 0x0, 0x0⟩,  -- FAB_LN_ID_HI
  ⟨0x68, 0x0, 1, 0x0, 1, 0x0, 0x0, 0x0, 0x0, 0x0⟩,  -- FAB_LN_LOAD
  ⟨0x70, 0x0, 1, 0x0, 1, 0x0, 0x0, 0x0, 0x0, 0x0⟩,  -- FAB_PLACE_STAT
  ⟨0x74, 0x0, 1, 0x0, 1, 0x0, 0x0, 0x0, 0x0, 0x0⟩,  -- FAB_PLACE_LAST
  ⟨0x78, 0x0, 1, 0x0, 1, 0x0, 0xFFFFFFFF, 0x0, 0x0, 0x0⟩,  -- FAB_MOVES
  ⟨0x7C, 0x0, 1, 0x0, 1, 0x0, 0x17F, 0x0, 0x0, 0x0⟩,  -- FAB_PLACE_SEL
  ⟨0x80, 0x0, 1, 0x0, 1, 0x0, 0x0, 0x0, 0x0, 0x0⟩,  -- FAB_PLACE_USE
  ⟨0x84, 0x0, 1, 0x0, 1, 0x0, 0x0, 0x0, 0x0, 0x0⟩,  -- FAB_CENTRE_SRC
  ⟨0x88, 0x0, 1, 0x0, 1, 0x0, 0x0, 0x0, 0x0, 0x0⟩,  -- FAB_ARR_STAT
  ⟨0x100, 0x8, 192, 0x0, 1, 0x0, 0x0, 0x0, 0x0, 0x0⟩,  -- FAB_LNn_STAT
  ⟨0x104, 0x8, 192, 0x0, 1, 0x0, 0x0, 0x0, 0x1, 0x0⟩  -- FAB_LNn_CFG
  ]

/-- Block-specific registers of the HIE page (R444). -/
def rowsHIEPart0 : List RegRow := [
  ⟨0x40, 0x0, 1, 0x0, 1, 0x0, 0x0, 0x0, 0x0, 0x0⟩,  -- HIE_ROLE (reset: restored)
  ⟨0x44, 0x0, 1, 0x0, 1, 0x0, 0x0, 0x0, 0x0, 0x0⟩,  -- HIE_EPOCH (reset: restored)
  ⟨0x48, 0x0, 1, 0x0, 1, 0x0, 0x0, 0x0, 0x0, 0x37F3⟩,  -- HIE_ROLE_CMD
  ⟨0x4C, 0x0, 1, 0x0, 1, 0x0, 0xFFFFFFFF, 0x0, 0x0, 0x0⟩,  -- HIE_ROLE_EPOCH
  ⟨0x50, 0x0, 1, 0x0, 1, 0x0, 0x0, 0x0, 0x0, 0x0⟩,  -- HIE_ROLE_RESULT
  ⟨0x54, 0x0, 1, 0x0, 1, 0x3, 0x0, 0x0, 0x3F, 0x0⟩,  -- HIE_LOSS_TIME
  ⟨0x58, 0x0, 1, 0x0, 1, 0x1, 0x0, 0x0, 0x3, 0x0⟩,  -- HIE_EVT_FWD
  ⟨0x5C, 0x0, 1, 0x0, 1, 0x0, 0x0, 0x0, 0x0, 0x1⟩,  -- HIE_CTRL
  ⟨0x60, 0x0, 1, 0x0, 1, 0x0, 0xFFFFFFFF, 0x0, 0x0, 0x0⟩,  -- HIE_MAP_ADDR_LO
  ⟨0x64, 0x0, 1, 0x0, 1, 0x0, 0xFFFFFFFF, 0x0, 0x0, 0x0⟩,  -- HIE_MAP_ADDR_HI
  ⟨0x68, 0x0, 1, 0x0, 1, 0x0, 0x0, 0x0, 0x0, 0x3⟩,  -- HIE_MAP_CTRL
  ⟨0x6C, 0x0, 1, 0x0, 1, 0x0, 0x0, 0x0, 0x0, 0x0⟩,  -- HIE_MAP_STAT
  ⟨0x70, 0x0, 1, 0x0, 1, 0x0, 0xFFFF, 0x0, 0x0, 0x0⟩,  -- HIE_REQ_DN
  ⟨0x74, 0x0, 1, 0x0, 1, 0x0, 0x8000FFFF, 0x0, 0x0, 0x0⟩,  -- HIE_REQ_SN
  ⟨0x78, 0x0, 1, 0x0, 1, 0x0, 0xFFFFFFFF, 0x0, 0x0, 0x0⟩,  -- HIE_REQ_F_LO
  ⟨0x7C, 0x0, 1, 0x0, 1, 0x0, 0x107FFFF, 0x0, 0x0, 0x0⟩,  -- HIE_REQ_F_HI
  ⟨0x80, 0x0, 1, 0x0, 1, 0x0, 0xF, 0x0, 0x0, 0x0⟩,  -- HIE_REQ_OP
  ⟨0x84, 0x0, 1, 0x0, 1, 0x0, 0x0, 0x0, 0x0, 0x1⟩,  -- HIE_REQ_GO
  ⟨0x88, 0x0, 1, 0x0, 1, 0x0, 0x0, 0x0, 0x0, 0x0⟩,  -- HIE_REQ_RESULT
  ⟨0x8C, 0x0, 1, 0x0, 1, 0x0, 0x0, 0x0, 0x0, 0x0⟩,  -- HIE_REQ_TICKET
  ⟨0x90, 0x0, 1, 0x0, 1, 0x0, 0xFFFFFFFF, 0x0, 0x0, 0x0⟩,  -- HIE_SALVO_ADDR_LO
  ⟨0x94, 0x0, 1, 0x0, 1, 0x0, 0xFFFFFFFF, 0x0, 0x0, 0x0⟩,  -- HIE_SALVO_ADDR_HI
  ⟨0x98, 0x0, 1, 0x0, 1, 0x0, 0x1FFF, 0x0, 0x0, 0x0⟩,  -- HIE_SALVO_COUNT
  ⟨0x9C, 0x0, 1, 0x0, 1, 0x0, 0xFFFFFFFF, 0x0, 0x0, 0x0⟩,  -- HIE_SALVO_F_LO
  ⟨0xA0, 0x0, 1, 0x0, 1, 0x0, 0x107FFFF, 0x0, 0x0, 0x0⟩,  -- HIE_SALVO_F_HI
  ⟨0xA4, 0x0, 1, 0x0, 1, 0x0, 0x0, 0x0, 0x0, 0x7⟩,  -- HIE_SALVO_GO
  ⟨0xA8, 0x0, 1, 0x0, 1, 0x0, 0x0, 0x0, 0x0, 0x0⟩,  -- HIE_SALVO_RESULT
  ⟨0xAC, 0x0, 1, 0x0, 1, 0x0, 0xFFFFFFFF, 0x0, 0x0, 0x0⟩,  -- HIE_SALVO_TICKET
  ⟨0xC0, 0x0, 1, 0x0, 1, 0x0, 0x7F, 0x0, 0x0, 0x0⟩,  -- HIE_PEER_SEL
  ⟨0xC4, 0x0, 1, 0x0, 1, 0x0, 0x0, 0x0, 0x0, 0x0⟩  -- HIE_PEER_STAT
  ]

/-- HIE, continued. -/
def rowsHIEPart1 : List RegRow := [
  ⟨0xC8, 0x0, 1, 0x0, 1, 0x0, 0xFFFFFFFF, 0x0, 0x0, 0x0⟩,  -- HIE_CNT_AUTH
  ⟨0xCC, 0x0, 1, 0x0, 1, 0x0, 0xFFFFFFFF, 0x0, 0x0, 0x0⟩,  -- HIE_CNT_NAK
  ⟨0xD0, 0x0, 1, 0x0, 1, 0x0, 0xFFFFFFFF, 0x0, 0x0, 0x0⟩,  -- HIE_CNT_RETX
  ⟨0xD4, 0x0, 1, 0x0, 1, 0x0, 0xFFFFFFFF, 0x0, 0x0, 0x0⟩  -- HIE_CNT_FWD
  ]

/-- All block-specific registers of the HIE page. -/
def rowsHIE : List RegRow := rowsHIEPart0 ++ rowsHIEPart1

/-- Block-specific registers of the FLW_ENG page (R322). -/
def rowsFLWENG : List RegRow := [
  ⟨0x40, 0x0, 1, 0x0, 1, 0x14, 0x0, 0x0, 0xFF, 0x0⟩,  -- FLW_ENG_HOLD
  ⟨0x44, 0x4, 5, 0x0, 1, 0x0, 0xFFFFFFFF, 0x0, 0x0, 0x0⟩,  -- FLW_ENG_CNTi
  ⟨0x100, 0x4, 192, 0x0, 1, 0x0, 0x0, 0x0, 0xFFFFFFFF, 0x0⟩  -- FLW_IFADDRn (reset: from Chart)
  ]

/-- Block-specific registers of the FS_ENG page (R477). -/
def rowsFSENG : List RegRow := [
  ⟨0x40, 0x0, 1, 0x0, 1, 0x0, 0x0, 0x0, 0x1FFFF, 0x0⟩,  -- FS_POOL_BASE (reset: from Chart)
  ⟨0x44, 0x0, 1, 0x0, 1, 0x0, 0x0, 0x0, 0x3FFFF, 0x0⟩,  -- FS_POOL_SIZE (reset: from Chart)
  ⟨0x48, 0x0, 1, 0x0, 1, 0x0, 0x0, 0x0, 0x0, 0x0⟩,  -- FS_POOL_USED
  ⟨0x4C, 0x0, 1, 0x0, 1, 0x0, 0x0, 0x0, 0x0, 0x0⟩,  -- FS_BW_USED
  ⟨0x50, 0x0, 1, 0x0, 1, 0x0, 0x0, 0x0, 0x0, 0x0⟩,  -- FS_BW_LIMIT (reset: from DRAM setup)
  ⟨0x54, 0x0, 1, 0x0, 1, 0x0, 0x0, 0x0, 0x0, 0x0⟩,  -- FS_STORES
  ⟨0x58, 0x0, 1, 0x0, 1, 0x0, 0x0, 0x0, 0x0, 0x0⟩  -- FS_SWG_FREE
  ]

/-- Block-specific registers of the AUD_ENG page (R535). -/
def rowsAUDENG : List RegRow := [
  ⟨0x40, 0x0, 1, 0x0, 1, 0x0, 0x0, 0x0, 0x3FFF1FFF, 0x0⟩,  -- AUD_POOL_IN (reset: from Chart)
  ⟨0x44, 0x0, 1, 0x0, 1, 0x0, 0x0, 0x0, 0x3FFF1FFF, 0x0⟩,  -- AUD_POOL_OUT (reset: from Chart)
  ⟨0x48, 0x0, 1, 0x0, 1, 0x0, 0x0, 0x0, 0x0, 0x0⟩,  -- AUD_POOL_USED
  ⟨0x4C, 0x0, 1, 0x0, 1, 0x0, 0x0, 0x0, 0x3FFFF, 0x0⟩,  -- AUD_DLY_AREA (reset: from Chart)
  ⟨0x50, 0x0, 1, 0x0, 1, 0x0, 0x0, 0x0, 0x0, 0x0⟩,  -- AUD_DLY_USED
  ⟨0x54, 0x0, 1, 0x0, 1, 0x0, 0x1FFF, 0x0, 0x0, 0x0⟩,  -- AUD_IN_SEL
  ⟨0x58, 0x0, 1, 0x0, 1, 0x0, 0x0, 0x0, 0x0, 0x0⟩,  -- AUD_IN_STAT
  ⟨0x5C, 0x0, 1, 0x0, 1, 0x0, 0x0, 0x0, 0x0, 0x0⟩,  -- AUD_IN_PEAK
  ⟨0x60, 0x0, 1, 0x0, 1, 0x0, 0x0, 0x0, 0x0, 0x0⟩,  -- AUD_GATED
  ⟨0x80, 0x4, 16, 0x0, 1, 0xA0046, 0x0, 0x0, 0xC3FF007F, 0x0⟩,  -- AUD_APTp_SIL
  ⟨0xC0, 0x4, 16, 0x0, 1, 0x0, 0x0, 0x0, 0x0, 0x0⟩  -- AUD_APTp_SSTAT
  ]

/-- Block-specific registers of the DDR_ENG page (R584). -/
def rowsDDRENG : List RegRow := [
  ⟨0x40, 0x0, 1, 0x0, 1, 0x0, 0x0, 0x0, 0x7173F, 0x0⟩,  -- DDR_CFG (reset: from Chart)
  ⟨0x44, 0x0, 1, 0x0, 1, 0x0, 0x0, 0x0, 0x0, 0x0⟩,  -- DDR_STAT
  ⟨0x48, 0x0, 1, 0x0, 1, 0x0, 0x0, 0x0, 0x0, 0x0⟩,  -- DDR_PEAK (reset: from DDR_CFG)
  ⟨0x4C, 0x0, 1, 0x0, 1, 0x80000018, 0x0, 0x0, 0x800000FF, 0x0⟩,  -- DDR_SCRUB
  ⟨0x50, 0x0, 1, 0x0, 1, 0xF8, 0x0, 0x0, 0x3FF, 0x0⟩,  -- DDR_TRAIN
  ⟨0x54, 0x0, 1, 0x0, 1, 0x0, 0x1F, 0x0, 0x0, 0x0⟩,  -- DDR_PSEL
  ⟨0x58, 0x0, 1, 0x0, 1, 0x0, 0x0, 0x0, 0x0, 0x0⟩,  -- DDR_PSTAT
  ⟨0x80, 0x4, 4, 0x0, 1, 0xA07D0, 0x0, 0x0, 0xFFFFF, 0x0⟩,  -- DDR_Pp_CFG (reset: p = 0 to 3)
  ⟨0x90, 0x4, 8, 0x0, 1, 0xC03E8, 0x0, 0x0, 0xFFFFF, 0x0⟩,  -- DDR_Pp_CFG (reset: p = 4 to 11)
  ⟨0xB0, 0x4, 1, 0x0, 1, 0xD01F4, 0x0, 0x0, 0xFFFFF, 0x0⟩,  -- DDR_Pp_CFG (reset: p = 12 to 12)
  ⟨0xB4, 0x4, 1, 0x0, 1, 0x81388, 0x0, 0x0, 0xFFFFF, 0x0⟩,  -- DDR_Pp_CFG (reset: p = 13 to 13)
  ⟨0xB8, 0x4, 1, 0x0, 1, 0xFFFF, 0x0, 0x0, 0xFFFFF, 0x0⟩,  -- DDR_Pp_CFG (reset: p = 14 to 14)
  ⟨0xBC, 0x4, 1, 0x0, 1, 0x607D0, 0x0, 0x0, 0xFFFFF, 0x0⟩,  -- DDR_Pp_CFG (reset: p = 15 to 15)
  ⟨0xC0, 0x4, 1, 0x0, 1, 0x901F4, 0x0, 0x0, 0xFFFFF, 0x0⟩,  -- DDR_Pp_CFG (reset: p = 16 to 16)
  ⟨0xC4, 0x4, 1, 0x0, 1, 0x42710, 0x0, 0x0, 0xFFFFF, 0x0⟩,  -- DDR_Pp_CFG (reset: p = 17 to 17)
  ⟨0xC8, 0x4, 1, 0x0, 1, 0x707D0, 0x0, 0x0, 0xFFFFF, 0x0⟩,  -- DDR_Pp_CFG (reset: p = 18 to 18)
  ⟨0xCC, 0x4, 1, 0x0, 1, 0x32710, 0x0, 0x0, 0xFFFFF, 0x0⟩,  -- DDR_Pp_CFG (reset: p = 19 to 19)
  ⟨0xD0, 0x4, 1, 0x0, 1, 0x22710, 0x0, 0x0, 0xFFFFF, 0x0⟩,  -- DDR_Pp_CFG (reset: p = 20 to 20)
  ⟨0xD4, 0x4, 1, 0x0, 1, 0x607D0, 0x0, 0x0, 0xFFFFF, 0x0⟩,  -- DDR_Pp_CFG (reset: p = 21 to 21)
  ⟨0xD8, 0x4, 1, 0x0, 1, 0x12710, 0x0, 0x0, 0xFFFFF, 0x0⟩,  -- DDR_Pp_CFG (reset: p = 22 to 22)
  ⟨0xDC, 0x4, 1, 0x0, 1, 0xFFFF, 0x0, 0x0, 0xFFFFF, 0x0⟩,  -- DDR_Pp_CFG (reset: p = 23 to 23)
  ⟨0xE0, 0x4, 24, 0x0, 1, 0x0, 0xFFFFFFFF, 0x0, 0x0, 0x0⟩  -- DDR_Pp_LATE
  ]

/-- Block-specific registers of the XBM page (R586). -/
def rowsXBM : List RegRow := [
  ⟨0x40, 0x0, 1, 0x0, 1, 0x0, 0xFFFFFFFF, 0x0, 0x0, 0x0⟩,  -- XBM_ERR_CNT
  ⟨0x44, 0x0, 1, 0x0, 1, 0x0, 0x0, 0x0, 0x0, 0x0⟩,  -- XBM_ERR_LAST
  ⟨0x48, 0x0, 1, 0x0, 1, 0x0, 0x0, 0x0, 0x0, 0x0⟩,  -- XBM_ERR_ADDR_LO
  ⟨0x4C, 0x0, 1, 0x0, 1, 0x0, 0x0, 0x0, 0x0, 0x0⟩,  -- XBM_ERR_ADDR_HI
  ⟨0x50, 0x0, 1, 0x0, 1, 0x0, 0xFFFFFFFF, 0x0, 0x0, 0x0⟩,  -- XBM_RST_CNT
  ⟨0x54, 0x0, 1, 0x0, 1, 0x0, 0x0, 0x0, 0x0, 0x0⟩,  -- XBM_RST_LAST
  ⟨0x58, 0x0, 1, 0x0, 1, 0x0, 0x0, 0x0, 0x0, 0x0⟩,  -- XBM_RST_ADDR_LO
  ⟨0x5C, 0x0, 1, 0x0, 1, 0x0, 0x0, 0x0, 0x0, 0x0⟩,  -- XBM_RST_ADDR_HI
  ⟨0x60, 0x0, 1, 0x0, 1, 0x0, 0xFFFFFFFF, 0x0, 0x0, 0x0⟩,  -- XBM_TO_CNT
  ⟨0x64, 0x0, 1, 0x0, 1, 0x0, 0xFF, 0x0, 0x0, 0x0⟩,  -- XBM_WAIT_SEL
  ⟨0x68, 0x0, 1, 0x0, 1, 0x0, 0x0, 0x0, 0x0, 0x0⟩,  -- XBM_WAIT_MAX
  ⟨0x100, 0x8, 11, 0x0, 1, 0x88888888, 0xFFFFFFFF, 0x0, 0x0, 0x0⟩,  -- XBM_Tt_PRI_LO
  ⟨0x104, 0x8, 11, 0x0, 1, 0x888888, 0xFFFFFFFF, 0x0, 0x0, 0x0⟩  -- XBM_Tt_PRI_HI
  ]

/-- Block-specific registers of the TMP page (R619). -/
def rowsTMP : List RegRow := [
  ⟨0x40, 0x0, 1, 0x0, 1, 0x0, 0x0, 0x0, 0x0, 0x0⟩,  -- TMP_STAT
  ⟨0x44, 0x0, 1, 0x0, 1, 0x0, 0x0, 0x0, 0x0, 0x0⟩,  -- TMP_JSEQ_LO (reset: restored)
  ⟨0x48, 0x0, 1, 0x0, 1, 0x0, 0x0, 0x0, 0x0, 0x0⟩,  -- TMP_JSEQ_HI (reset: restored)
  ⟨0x4C, 0x0, 1, 0x0, 1, 0x0, 0x0, 0x0, 0x0, 0x0⟩,  -- TMP_CKPT_SEQ (reset: restored)
  ⟨0x50, 0x0, 1, 0x0, 1, 0x0, 0x0, 0x0, 0x0, 0x1⟩,  -- TMP_CKPT_CTRL
  ⟨0x54, 0x0, 1, 0x0, 1, 0x0, 0x0, 0x0, 0x0, 0x0⟩,  -- TMP_RESTORE
  ⟨0x58, 0x0, 1, 0x0, 1, 0x0, 0x0, 0x0, 0x0, 0x0⟩,  -- TMP_REPLAY
  ⟨0x5C, 0x0, 1, 0x0, 1, 0x0, 0x0, 0x0, 0x0, 0x0⟩,  -- TMP_RATE
  ⟨0x60, 0x0, 1, 0x0, 1, 0x80000218, 0x0, 0x0, 0x800003FF, 0x0⟩,  -- TMP_SCRUB
  ⟨0x64, 0x0, 1, 0x0, 1, 0x0, 0x0, 0x0, 0x0, 0x0⟩,  -- TMP_SCRUB_POS
  ⟨0x68, 0x0, 1, 0x0, 1, 0x0, 0xFFFFFFFF, 0x0, 0x0, 0x0⟩,  -- TMP_CE
  ⟨0x6C, 0x0, 1, 0x0, 1, 0x0, 0xFFFFFFFF, 0x0, 0x0, 0x0⟩,  -- TMP_UE
  ⟨0x70, 0x0, 1, 0x0, 1, 0x10000, 0x0, 0x0, 0x0, 0x0⟩,  -- TMP_SPARE
  ⟨0x74, 0x0, 1, 0x0, 1, 0x0, 0x0, 0x0, 0x0, 0x0⟩,  -- TMP_WEAR (reset: restored)
  ⟨0x78, 0x0, 1, 0x0, 1, 0x0, 0x0, 0x0, 0x0, 0x0⟩,  -- TMP_HOLDUP (reset: from Chart)
  ⟨0x7C, 0x0, 1, 0x0, 1, 0x0, 0x0, 0x0, 0x0, 0x0⟩,  -- TMP_SEAL_TIME (reset: restored)
  ⟨0x80, 0x0, 1, 0x0, 1, 0x0, 0xFFFFFFFF, 0x0, 0x0, 0x0⟩,  -- TMP_EVT_DROP
  ⟨0x90, 0x4, 8, 0x0, 1, 0x0, 0x0, 0x0, 0x0, 0x0⟩  -- TMP_LIFEi (reset: restored)
  ]

/-- Block-specific registers of the CRU page (R620). -/
def rowsCRU : List RegRow := [
  ⟨0x40, 0x0, 1, 0x0, 1, 0x0, 0x0, 0x0, 0x0, 0x0⟩,  -- CRU_STAT
  ⟨0x44, 0x0, 1, 0x0, 1, 0x0, 0x0, 0x0, 0x0, 0x0⟩,  -- CRU_CAP
  ⟨0x48, 0x0, 1, 0x0, 1, 0x0, 0x0, 0x0, 0x0, 0x1⟩,  -- CRU_MIRROR_CTRL
  ⟨0x4C, 0x0, 1, 0x0, 1, 0x0, 0x0, 0x0, 0x0, 0x0⟩,  -- CRU_MIRROR_STAT (reset: restored)
  ⟨0x50, 0x0, 1, 0x0, 1, 0x0, 0x0, 0x0, 0x0, 0x7⟩,  -- CRU_LIB_CTRL
  ⟨0x54, 0x0, 1, 0x0, 1, 0x0, 0xFFFF, 0x0, 0x0, 0x0⟩,  -- CRU_LIB_NUM
  ⟨0x58, 0x0, 1, 0x0, 1, 0x0, 0xFFFFFFFF, 0x0, 0x0, 0x0⟩,  -- CRU_LIB_ADDR_LO
  ⟨0x5C, 0x0, 1, 0x0, 1, 0x0, 0xFFFFFFFF, 0x0, 0x0, 0x0⟩,  -- CRU_LIB_ADDR_HI
  ⟨0x60, 0x0, 1, 0x0, 1, 0x0, 0x0, 0x0, 0x0, 0x0⟩,  -- CRU_LIB_RESULT
  ⟨0x64, 0x0, 1, 0x0, 1, 0x0, 0x0, 0x0, 0x0, 0x0⟩,  -- CRU_LIB_COUNT
  ⟨0x68, 0x0, 1, 0x0, 1, 0x0, 0x0, 0x0, 0x0, 0x0⟩,  -- CRU_LIB_FREE
  ⟨0x6C, 0x0, 1, 0x0, 1, 0xFFFF, 0x0, 0x0, 0x0, 0x0⟩,  -- CRU_FORECAST
  ⟨0x70, 0x0, 1, 0x0, 1, 0x16D, 0x0, 0x0, 0xFFFF, 0x0⟩,  -- CRU_WARN
  ⟨0x74, 0x0, 1, 0x0, 1, 0x0, 0x0, 0x0, 0x0, 0x0⟩,  -- CRU_WEAR
  ⟨0x78, 0x0, 1, 0x0, 1, 0x0, 0x0, 0x0, 0x0, 0x0⟩,  -- CRU_BLOCKS
  ⟨0x7C, 0x0, 1, 0x0, 1, 0x0, 0xFFFFFFFF, 0x0, 0x0, 0x0⟩,  -- CRU_CORR
  ⟨0x80, 0x0, 1, 0x0, 1, 0x0, 0xFFFFFFFF, 0x0, 0x0, 0x0⟩,  -- CRU_UNCORR
  ⟨0x84, 0x0, 1, 0x0, 1, 0x0, 0xFFFFFFFF, 0x0, 0x0, 0x0⟩,  -- CRU_REFRESHED
  ⟨0x88, 0x0, 1, 0x0, 1, 0x5A, 0x0, 0x0, 0x1FF, 0x0⟩  -- CRU_REFRESH_CFG
  ]

/-- Block-specific registers of the TWN page (R658). -/
def rowsTWN : List RegRow := [
  ⟨0x40, 0x0, 1, 0x0, 1, 0x138, 0x0, 0x0, 0xFFFF01FF, 0x0⟩,  -- TWN_CFG (reset: rest from Chart)
  ⟨0x44, 0x0, 1, 0x0, 1, 0x1, 0x0, 0x0, 0x0, 0x0⟩,  -- TWN_STAT
  ⟨0x48, 0x0, 1, 0x0, 1, 0x0, 0x0, 0x0, 0x0, 0xF13⟩,  -- TWN_CMD
  ⟨0x4C, 0x0, 1, 0x0, 1, 0x0, 0x0, 0x0, 0x0, 0x0⟩,  -- TWN_CMD_RESULT
  ⟨0x50, 0x0, 1, 0x0, 1, 0x64, 0x0, 0x0, 0x80003FFF, 0x0⟩,  -- TWN_WDOG
  ⟨0x54, 0x0, 1, 0x0, 1, 0x0, 0x0, 0x0, 0x0, 0x1⟩,  -- TWN_WDOG_KICK
  ⟨0x58, 0x0, 1, 0x0, 1, 0x0, 0x0, 0x0, 0x0, 0x0⟩,  -- TWN_EPOCH_TX (reset: restored)
  ⟨0x5C, 0x0, 1, 0x0, 1, 0x0, 0x0, 0x0, 0x0, 0x0⟩,  -- TWN_EPOCH_RX (reset: restored)
  ⟨0x60, 0x0, 1, 0x0, 1, 0x0, 0xFFFFFFFF, 0x0, 0x0, 0x0⟩,  -- TWN_LAG
  ⟨0x64, 0x0, 1, 0x0, 1, 0x0, 0xFFFFFFFF, 0x0, 0x0, 0x0⟩,  -- TWN_HB_MISS
  ⟨0x68, 0x0, 1, 0x0, 1, 0x0, 0xFFFFFFFF, 0x0, 0x0, 0x0⟩,  -- TWN_SIG_CMP
  ⟨0x6C, 0x0, 1, 0x0, 1, 0x0, 0xFFFFFFFF, 0x0, 0x0, 0x0⟩,  -- TWN_SIG_BAD
  ⟨0x70, 0x0, 1, 0x0, 1, 0x0, 0x0, 0x0, 0x0, 0x0⟩,  -- TWN_SIG_LAST
  ⟨0x74, 0x0, 1, 0x0, 1, 0x0, 0x0, 0x0, 0x0, 0x0⟩,  -- TWN_HOLD_REMAIN
  ⟨0x78, 0x0, 1, 0x0, 1, 0x0, 0x0, 0x0, 0x0, 0x0⟩,  -- TWN_LAST_TAKEOVER (reset: restored)
  ⟨0x7C, 0x0, 1, 0x0, 1, 0x0, 0xFFFFFFFF, 0x0, 0x0, 0x0⟩,  -- TWN_COUNTS (reset: restored)
  ⟨0x80, 0x0, 1, 0x0, 1, 0x0, 0xFFFFFFFF, 0x0, 0x0, 0x0⟩,  -- TWN_STBY_WR
  ⟨0x84, 0x0, 1, 0x0, 1, 0x0, 0xFFFFFFFF, 0x0, 0x0, 0x0⟩,  -- TWN_AUTH_FAIL
  ⟨0x100, 0x4, 16, 0x0, 1, 0x0, 0x0, 0x0, 0x0, 0x0⟩,  -- TWN_HEALTHi
  ⟨0x140, 0x4, 16, 0x0, 1, 0x0, 0x0, 0x0, 0x0, 0x0⟩  -- TWN_PHEALTHi
  ]

/-- Block-specific registers of the PWR page (R684). -/
def rowsPWR : List RegRow := [
  ⟨0x40, 0x0, 1, 0x0, 1, 0x0, 0x0, 0x0, 0x0, 0x7⟩,  -- PWR_CMD
  ⟨0x44, 0x0, 1, 0x0, 1, 0x0, 0x0, 0x0, 0x0, 0x0⟩,  -- PWR_CMD_RESULT
  ⟨0x48, 0x0, 1, 0x0, 1, 0x0, 0x0, 0x0, 0x0, 0x0⟩,  -- PWR_STATE
  ⟨0x4C, 0x0, 1, 0x0, 1, 0x30, 0x0, 0x0, 0x137, 0x0⟩,  -- PWR_CFG (reset: rest from Chart)
  ⟨0x50, 0x0, 1, 0x0, 1, 0x0, 0x0, 0x0, 0xFFFFFFFF, 0x0⟩,  -- PWR_SLEEP_Q_LO (reset: from Chart)
  ⟨0x54, 0x0, 1, 0x0, 1, 0x0, 0x0, 0x0, 0x1FFFF, 0x0⟩,  -- PWR_SLEEP_Q_HI (reset: from Chart)
  ⟨0x58, 0x0, 1, 0x0, 1, 0x2, 0x0, 0x0, 0x0, 0x3⟩,  -- PWR_OP_CMD
  ⟨0x5C, 0x0, 1, 0x0, 1, 0x2, 0x0, 0x0, 0x0, 0x0⟩,  -- PWR_OP_STAT
  ⟨0x60, 0x0, 1, 0x0, 1, 0x0, 0xFFFFFFFF, 0x0, 0x0, 0x0⟩,  -- PWR_WAKE_TIMER
  ⟨0x64, 0x0, 1, 0x0, 1, 0x0, 0x0, 0x0, 0x0, 0x0⟩,  -- PWR_LAST_WAKE
  ⟨0x68, 0x0, 1, 0x0, 1, 0x0, 0x0, 0x0, 0x0, 0x0⟩,  -- PWR_WAKE_TIME_LO
  ⟨0x6C, 0x0, 1, 0x0, 1, 0x0, 0x0, 0x0, 0x0, 0x0⟩,  -- PWR_WAKE_TIME_HI
  ⟨0x70, 0x0, 1, 0x0, 1, 0x0, 0xFFFF, 0x0, 0x0, 0x0⟩,  -- PWR_REFUSE_CNT
  ⟨0x74, 0x0, 1, 0x0, 1, 0x0, 0x0, 0x0, 0x0, 0x0⟩,  -- PWR_REFUSE_LAST
  ⟨0x78, 0x0, 1, 0x0, 1, 0xA1405, 0x0, 0x0, 0xFFFFFF, 0x0⟩,  -- PWR_PMB_CFG
  ⟨0x7C, 0x0, 1, 0x0, 1, 0x0, 0x0, 0x0, 0x0, 0x0⟩,  -- PWR_PMB_STAT
  ⟨0x80, 0x0, 1, 0x0, 1, 0x0, 0x0, 0x0, 0x0, 0x0⟩,  -- PWR_AGE
  ⟨0x84, 0x0, 1, 0x0, 1, 0x14, 0x0, 0x0, 0xFFFF, 0x0⟩,  -- PWR_AGE_THR
  ⟨0x88, 0x0, 1, 0x0, 1, 0x0, 0x0, 0x0, 0x0, 0x0⟩,  -- PWR_TJ
  ⟨0x8C, 0x0, 1, 0x0, 1, 0x0, 0x0, 0x0, 0x0, 0x0⟩  -- PWR_SAVE_STAT
  ]

/-- Block-specific registers of the HAL page (R728). -/
def rowsHAL : List RegRow := [
  ⟨0x40, 0x0, 1, 0x0, 1, 0x0, 0x0, 0x0, 0x0, 0x0⟩,  -- HAL_STAT
  ⟨0x44, 0x0, 1, 0x0, 1, 0x0, 0x0, 0x0, 0x0, 0x0⟩,  -- HAL_SLOTS (reset: from fuses)
  ⟨0x48, 0x4, 12, 0x0, 1, 0x0, 0x0, 0x0, 0x0, 0x0⟩,  -- HAL_MEASi (reset: from boot)
  ⟨0x80, 0x0, 1, 0x0, 1, 0x0, 0x0, 0x0, 0x0, 0xF⟩,  -- HAL_CMD
  ⟨0x84, 0x0, 1, 0x0, 1, 0x0, 0xFFFFFFFF, 0x0, 0x0, 0x0⟩,  -- HAL_CMD_ADDR_LO
  ⟨0x88, 0x0, 1, 0x0, 1, 0x0, 0xFFFFFFFF, 0x0, 0x0, 0x0⟩,  -- HAL_CMD_ADDR_HI
  ⟨0x8C, 0x0, 1, 0x0, 1, 0x0, 0x0, 0x0, 0x0, 0x0⟩,  -- HAL_CMD_RESULT
  ⟨0x90, 0x0, 1, 0x0, 1, 0x0, 0x0, 0x0, 0x0, 0x0⟩,  -- HAL_AUDIT_WR_LO (reset: restored)
  ⟨0x94, 0x0, 1, 0x0, 1, 0x0, 0x0, 0x0, 0x0, 0x0⟩,  -- HAL_AUDIT_WR_HI (reset: restored)
  ⟨0x98, 0x0, 1, 0x0, 1, 0x0, 0x0, 0x0, 0x0, 0x0⟩,  -- HAL_ST_CNT
  ⟨0x9C, 0x0, 1, 0x0, 1, 0x0, 0xFFFF, 0x0, 0x0, 0x0⟩,  -- HAL_OLD_KEY
  ⟨0xA0, 0x0, 1, 0x0, 1, 0x0, 0x0, 0x0, 0x0, 0x0⟩  -- HAL_IDENT (reset: from fuses)
  ]

/-- Block-specific registers of the UPD page (R729). -/
def rowsUPD : List RegRow := [
  ⟨0x40, 0x0, 1, 0x0, 1, 0x0, 0x0, 0x0, 0x0, 0x0⟩,  -- UPD_STAT (reset: restored)
  ⟨0x44, 0x0, 1, 0x0, 1, 0x0, 0x0, 0x0, 0x0, 0x0⟩,  -- UPD_PKG_ID (reset: restored)
  ⟨0x48, 0x0, 1, 0x0, 1, 0x0, 0x0, 0x0, 0x0, 0x0⟩,  -- UPD_RUN_VER (reset: from boot)
  ⟨0x4C, 0x0, 1, 0x0, 1, 0x0, 0x0, 0x0, 0x0, 0x0⟩,  -- UPD_NEW_VER (reset: restored)
  ⟨0x50, 0x0, 1, 0x0, 1, 0x0, 0xFFFFFFFF, 0x0, 0x0, 0x0⟩,  -- UPD_CHUNK_ADDR_LO
  ⟨0x54, 0x0, 1, 0x0, 1, 0x0, 0xFFFFFFFF, 0x0, 0x0, 0x0⟩,  -- UPD_CHUNK_ADDR_HI
  ⟨0x58, 0x0, 1, 0x0, 1, 0x0, 0x1FFFF, 0x0, 0x0, 0x0⟩,  -- UPD_CHUNK_IDX
  ⟨0x5C, 0x0, 1, 0x0, 1, 0x0, 0x0, 0x0, 0x0, 0x1⟩,  -- UPD_CHUNK_GO
  ⟨0x60, 0x0, 1, 0x0, 1, 0x0, 0x0, 0x0, 0x0, 0x0⟩,  -- UPD_CHUNK_RESULT
  ⟨0x64, 0x0, 1, 0x0, 1, 0x0, 0x0, 0x0, 0x0, 0x0⟩,  -- UPD_BITMAP_CNT (reset: restored)
  ⟨0x68, 0x0, 1, 0x0, 1, 0x0, 0x0, 0x0, 0x0, 0x0⟩,  -- UPD_CHUNKS (reset: restored)
  ⟨0x6C, 0x0, 1, 0x0, 1, 0x0, 0xFFFF, 0x0, 0x0, 0x0⟩,  -- UPD_MISS_NEXT
  ⟨0x70, 0x0, 1, 0x0, 1, 0x0, 0x0, 0x0, 0x0, 0xF1F⟩,  -- UPD_CMD
  ⟨0x74, 0x0, 1, 0x0, 1, 0x0, 0x0, 0x0, 0x0, 0x0⟩,  -- UPD_CMD_RESULT
  ⟨0x78, 0x0, 1, 0x0, 1, 0x12C0010, 0x0, 0x0, 0xFFFF0017, 0x0⟩,  -- UPD_CFG
  ⟨0x7C, 0x0, 1, 0x0, 1, 0x8003C, 0x0, 0x0, 0xFFFFFFFF, 0x0⟩,  -- UPD_LEAD
  ⟨0x80, 0x0, 1, 0x0, 1, 0x0, 0x0, 0x0, 0x0, 0x0⟩,  -- UPD_COORD_F_LO (reset: restored)
  ⟨0x84, 0x0, 1, 0x0, 1, 0x0, 0x0, 0x0, 0x0, 0x0⟩,  -- UPD_COORD_F_HI (reset: restored)
  ⟨0x88, 0x0, 1, 0x0, 1, 0x0, 0x0, 0x0, 0x0, 0x0⟩,  -- UPD_PROB_REMAIN
  ⟨0x8C, 0x0, 1, 0x0, 1, 0x0, 0x0, 0x0, 0x0, 0x0⟩,  -- UPD_SLOTS (reset: restored)
  ⟨0x90, 0x0, 1, 0x0, 1, 0x0, 0xFF, 0x0, 0x0, 0x0⟩,  -- UPD_POS_SEL
  ⟨0x94, 0x0, 1, 0x0, 1, 0x0, 0x0, 0x0, 0x0, 0x0⟩  -- UPD_POS_STAT
  ]

/-- Block-specific registers of the DDR_CH page (R585). -/
def rowsDDRCH : List RegRow := [
  ⟨0x40, 0x0, 1, 0x0, 1, 0x0, 0x0, 0x0, 0x0, 0x0⟩,  -- DDR_CH_STAT
  ⟨0x44, 0x0, 1, 0x0, 1, 0x10400, 0x0, 0x0, 0x1FFFF, 0x0⟩,  -- DDR_CH_PD
  ⟨0x48, 0x0, 1, 0x0, 1, 0x0, 0xFFFFFFFF, 0x0, 0x0, 0x0⟩,  -- DDR_CH_CE
  ⟨0x4C, 0x0, 1, 0x0, 1, 0x0, 0xFFFFFFFF, 0x0, 0x0, 0x0⟩,  -- DDR_CH_UE
  ⟨0x50, 0x0, 1, 0x0, 1, 0x0, 0x0, 0x0, 0x0, 0x0⟩,  -- DDR_CH_ERR_ADDR_LO
  ⟨0x54, 0x0, 1, 0x0, 1, 0x0, 0x0, 0x0, 0x0, 0x0⟩,  -- DDR_CH_ERR_ADDR_HI
  ⟨0x58, 0x0, 1, 0x0, 1, 0x0, 0x0, 0x0, 0x0, 0x0⟩,  -- DDR_CH_SCRUB_POS
  ⟨0x5C, 0x0, 1, 0x0, 1, 0x0, 0xFFFFFFFF, 0x0, 0x0, 0x0⟩,  -- DDR_CH_TRAIN_CNT
  ⟨0x60, 0x0, 1, 0x0, 1, 0x0, 0xFFFFFFFF, 0x0, 0x0, 0x0⟩,  -- DDR_CH_PD_CNT
  ⟨0x64, 0x0, 1, 0x0, 1, 0x0, 0x0, 0x0, 0x0, 0x0⟩  -- DDR_CH_UTIL
  ]

/-- Block-specific registers of the AUD_SIL page (R537). -/
def rowsAUDSIL : List RegRow := [
  ⟨0x100, 0x8, 128, 0x0, 1, 0xA0046, 0x0, 0x0, 0xC3FF007F, 0x0⟩,  -- AUD_SILi_CFG
  ⟨0x104, 0x8, 128, 0x0, 1, 0x0, 0x0, 0x0, 0x0, 0x0⟩  -- AUD_SILi_STAT
  ]

/-- Block-specific registers of the SWG page (R478). -/
def rowsSWG : List RegRow := [
  ⟨0x40, 0x0, 1, 0x0, 1, 0x0, 0x0, 0x0, 0x1F, 0x0⟩,  -- SWG_CFG
  ⟨0x44, 0x0, 1, 0x0, 1, 0x0, 0x0, 0x0, 0x1F1FFF, 0x0⟩,  -- SWG_BIND
  ⟨0x48, 0x0, 1, 0x0, 1, 0x0, 0x0, 0x0, 0x1FFF1FFF, 0x0⟩,  -- SWG_IN_SIZE
  ⟨0x4C, 0x0, 1, 0x0, 1, 0x0, 0x0, 0x0, 0x1FFF1FFF, 0x0⟩,  -- SWG_OUT_SIZE
  ⟨0x50, 0x0, 1, 0x0, 1, 0x0, 0x0, 0x0, 0x0, 0x0⟩,  -- SWG_STAT
  ⟨0x54, 0x0, 1, 0x0, 1, 0x0, 0x0, 0x0, 0x0, 0x0⟩,  -- SWG_LBUF
  ⟨0x58, 0x0, 1, 0x0, 1, 0x0, 0x0, 0x0, 0x0, 0x0⟩  -- SWG_RATE
  ]

/-- Block-specific registers of the FIL page (R504). -/
def rowsFIL : List RegRow := [
  ⟨0x40, 0x0, 1, 0x0, 1, 0x0, 0x0, 0x0, 0xF077F, 0x0⟩,  -- FIL_OUT_CFG
  ⟨0x44, 0x0, 1, 0x0, 1, 0x1, 0x0, 0x0, 0x7F, 0x0⟩,  -- FIL_OUT_COLOR
  ⟨0x48, 0x0, 1, 0x0, 1, 0x0, 0x0, 0x0, 0x1FFF, 0x0⟩,  -- FIL_OUT_SWLINE
  ⟨0x4C, 0x0, 1, 0x0, 1, 0x20080040, 0x0, 0x0, 0x3FFFFFFF, 0x0⟩,  -- FIL_OUT_BG
  ⟨0x50, 0x0, 1, 0x0, 1, 0x0, 0x0, 0x0, 0x87FF87FF, 0x0⟩,  -- FIL_OUT_BIND
  ⟨0x54, 0x0, 1, 0x0, 1, 0x0, 0x0, 0x0, 0x0, 0x0⟩,  -- FIL_OUT_STAT
  ⟨0x58, 0x0, 1, 0x0, 1, 0x0, 0xFFFFFFFF, 0x0, 0x0, 0x0⟩,  -- FIL_LATE_CNT
  ⟨0x5C, 0x0, 1, 0x0, 1, 0x0, 0x0, 0x0, 0x0, 0x0⟩,  -- FIL_BW
  ⟨0x60, 0x0, 1, 0x0, 1, 0x0, 0x0, 0x0, 0x0, 0x0⟩,  -- FIL_EXT
  ⟨0x64, 0x0, 1, 0x0, 1, 0x0, 0x0, 0x0, 0x0, 0x0⟩,  -- FIL_LBUF
  ⟨0x100, 0x40, 8, 0x0, 1, 0x4000, 0x0, 0x0, 0x7FF7773, 0x0⟩,  -- FIL_Ll_CFG
  ⟨0x104, 0x40, 8, 0x0, 1, 0x0, 0x0, 0x0, 0xFFFF, 0x0⟩,  -- FIL_Ll_SURF
  ⟨0x108, 0x40, 8, 0x0, 1, 0x0, 0x0, 0x0, 0x3FFF3FFF, 0x0⟩,  -- FIL_Ll_POS
  ⟨0x10C, 0x40, 8, 0x0, 1, 0x0, 0x0, 0x0, 0x1FFF1FFF, 0x0⟩,  -- FIL_Ll_SIZE
  ⟨0x110, 0x40, 8, 0x0, 1, 0x3FF, 0x0, 0x0, 0x3FF, 0x0⟩,  -- FIL_Ll_ALPHA
  ⟨0x114, 0x40, 8, 0x0, 1, 0x0, 0x0, 0x0, 0x3FFFFFFF, 0x0⟩,  -- FIL_Ll_KEY0
  ⟨0x118, 0x40, 8, 0x0, 1, 0x0, 0x0, 0x0, 0x3FF, 0x0⟩,  -- FIL_Ll_KEY1
  ⟨0x11C, 0x40, 8, 0x0, 1, 0x0, 0x0, 0x0, 0x0, 0x0⟩  -- FIL_Ll_STAT
  ]

/-- Block-specific registers of the APT page (R557). -/
def rowsAPT : List RegRow := [
  ⟨0x40, 0x0, 1, 0x0, 1, 0x2000, 0x0, 0x0, 0x3FFF7, 0x0⟩,  -- APT_CFG (reset: rest from Chart)
  ⟨0x44, 0x0, 1, 0x0, 1, 0x40, 0x0, 0x0, 0x1FFF, 0x0⟩,  -- APT_LEAD
  ⟨0x48, 0x0, 1, 0x0, 1, 0x0, 0x0, 0x0, 0x1FFF, 0x0⟩,  -- APT_RX_BASE (reset: from Chart)
  ⟨0x4C, 0x0, 1, 0x0, 1, 0x0, 0x0, 0x0, 0x1FFF, 0x0⟩,  -- APT_TX_BASE (reset: from Chart)
  ⟨0x50, 0x0, 1, 0x0, 1, 0x0, 0x0, 0x0, 0xFFFFFFFF, 0x0⟩,  -- APT_RX_MASK
  ⟨0x54, 0x0, 1, 0x0, 1, 0x0, 0x0, 0x0, 0xFFFFFFFF, 0x0⟩,  -- APT_TX_MASK
  ⟨0x58, 0x0, 1, 0x0, 1, 0x0, 0x0, 0x0, 0xFFFFFFFF, 0x0⟩,  -- APT_MIR_MASK
  ⟨0x5C, 0x0, 1, 0x0, 1, 0x0, 0x0, 0x0, 0x0, 0x0⟩,  -- APT_MASK_APPLIED
  ⟨0x60, 0x0, 1, 0x0, 1, 0x0, 0x0, 0x0, 0x0, 0x0⟩,  -- APT_RATE
  ⟨0x64, 0x0, 1, 0x0, 1, 0x492B40, 0x0, 0x0, 0xFFFFFFFF, 0x0⟩,  -- APT_RATE_LO
  ⟨0x68, 0x0, 1, 0x0, 1, 0x4950C0, 0x0, 0x0, 0xFFFFFFFF, 0x0⟩,  -- APT_RATE_HI
  ⟨0x6C, 0x0, 1, 0x0, 1, 0x0, 0x0, 0x0, 0x0, 0x0⟩,  -- APT_STAT
  ⟨0x70, 0x0, 1, 0x0, 1, 0x0, 0xFFFFFFFF, 0x0, 0x0, 0x0⟩,  -- APT_SLIP
  ⟨0x74, 0x0, 1, 0x0, 1, 0x0, 0x0, 0x0, 0x3, 0x0⟩,  -- APT_MIR_CFG
  ⟨0x78, 0x0, 1, 0x0, 1, 0x0, 0x0, 0x0, 0xFFFFFFFF, 0x0⟩,  -- APT_MIR_BASE_LO
  ⟨0x7C, 0x0, 1, 0x0, 1, 0x0, 0x0, 0x0, 0xFFFFFFFF, 0x0⟩,  -- APT_MIR_BASE_HI
  ⟨0x80, 0x0, 1, 0x0, 1, 0x400, 0x0, 0x0, 0x1FFFF, 0x0⟩,  -- APT_MIR_FRAMES
  ⟨0x84, 0x0, 1, 0x0, 1, 0x0, 0x0, 0x0, 0x0, 0x0⟩,  -- APT_MIR_DEV
  ⟨0x88, 0x0, 1, 0x0, 1, 0x0, 0xFFFFFFFF, 0x0, 0x0, 0x0⟩,  -- APT_MIR_HOST
  ⟨0x8C, 0x0, 1, 0x0, 1, 0x0, 0xFFFFFFFF, 0x0, 0x0, 0x0⟩,  -- APT_MIR_DROP
  ⟨0x90, 0x0, 1, 0x0, 1, 0x30, 0x0, 0x0, 0xFFFF, 0x0⟩  -- APT_MIR_IRQ
  ]

/-- Block-specific registers of the MAC_RING page (R286). -/
def rowsMACRING : List RegRow := [
  ⟨0x40, 0x0, 1, 0x0, 1, 0x0, 0x0, 0x0, 0x7, 0x0⟩,  -- MAC_RING_RX_CFG
  ⟨0x44, 0x0, 1, 0x0, 1, 0x0, 0x0, 0x0, 0x1FFFF, 0x0⟩,  -- MAC_RING_RX_COUNT
  ⟨0x48, 0x0, 1, 0x0, 1, 0x800, 0x0, 0x0, 0x7FFF, 0x0⟩,  -- MAC_RING_RX_BUF
  ⟨0x4C, 0x0, 1, 0x0, 1, 0x0, 0x0, 0x0, 0xFFFFFFFF, 0x0⟩,  -- MAC_RING_RX_BASE_LO
  ⟨0x50, 0x0, 1, 0x0, 1, 0x0, 0x0, 0x0, 0xFFFFFFFF, 0x0⟩,  -- MAC_RING_RX_BASE_HI
  ⟨0x54, 0x0, 1, 0x0, 1, 0x0, 0x0, 0x0, 0x0, 0x0⟩,  -- MAC_RING_RX_HEAD
  ⟨0x58, 0x0, 1, 0x0, 1, 0x0, 0xFFFFFFFF, 0x0, 0x0, 0x0⟩,  -- MAC_RING_RX_TAIL
  ⟨0x5C, 0x0, 1, 0x0, 1, 0x0, 0xFFFFFFFF, 0x0, 0x0, 0x0⟩,  -- MAC_RING_RX_NOBUF
  ⟨0x60, 0x0, 1, 0x0, 1, 0x0, 0xFFFFFFFF, 0x0, 0x0, 0x0⟩,  -- MAC_RING_RX_TRUNC
  ⟨0x64, 0x0, 1, 0x0, 1, 0x1, 0x3FF00FF, 0x0, 0x0, 0x0⟩,  -- MAC_RING_RX_IRQ_MOD
  ⟨0x80, 0x0, 1, 0x0, 1, 0x0, 0x0, 0x0, 0xFF05, 0x0⟩,  -- MAC_RING_TX_CFG
  ⟨0x84, 0x0, 1, 0x0, 1, 0x0, 0x0, 0x0, 0x1FFFF, 0x0⟩,  -- MAC_RING_TX_COUNT
  ⟨0x88, 0x0, 1, 0x0, 1, 0x0, 0x0, 0x0, 0xFFFFFFFF, 0x0⟩,  -- MAC_RING_TX_BASE_LO
  ⟨0x8C, 0x0, 1, 0x0, 1, 0x0, 0x0, 0x0, 0xFFFFFFFF, 0x0⟩,  -- MAC_RING_TX_BASE_HI
  ⟨0x90, 0x0, 1, 0x0, 1, 0x0, 0x0, 0x0, 0x0, 0x0⟩,  -- MAC_RING_TX_HEAD
  ⟨0x94, 0x0, 1, 0x0, 1, 0x0, 0xFFFFFFFF, 0x0, 0x0, 0x0⟩,  -- MAC_RING_TX_TAIL
  ⟨0x98, 0x0, 1, 0x0, 1, 0x0, 0xFFFFFFFF, 0x0, 0x0, 0x0⟩  -- MAC_RING_TX_ERR_CNT
  ]

/-- Block-specific registers of the LN page (R212). -/
def rowsLN : List RegRow := [
  ⟨0x40, 0x0, 1, 0x0, 1, 0x0, 0x0, 0x0, 0x330F, 0x0⟩,  -- LN_CFG (reset: from Chart)
  ⟨0x44, 0x0, 1, 0x0, 1, 0x0, 0x0, 0x0, 0x0, 0x0⟩,  -- LN_STAT
  ⟨0x48, 0x0, 1, 0x0, 1, 0x0, 0x0, 0x0, 0x1F, 0x0⟩,  -- LN_CTLE (reset: from Chart)
  ⟨0x4C, 0x0, 1, 0x0, 1, 0x2, 0x0, 0x0, 0x73, 0x0⟩,  -- LN_TX_DRV
  ⟨0x50, 0x0, 1, 0x0, 1, 0x1F, 0x0, 0x0, 0x1F, 0x0⟩,  -- LN_SDI_HUNT
  ⟨0x54, 0x0, 1, 0x0, 1, 0x0, 0x0, 0x0, 0x0, 0x0⟩,  -- LN_RAW_STAT
  ⟨0x58, 0x0, 1, 0x0, 1, 0x0, 0xFFFFFFFF, 0x0, 0x0, 0x0⟩,  -- LN_LOCK_CNT
  ⟨0x60, 0x0, 1, 0x0, 1, 0x0, 0x0, 0x0, 0x1377, 0x0⟩,  -- LN_PRBS_CTRL
  ⟨0x64, 0x0, 1, 0x0, 1, 0x0, 0x0, 0x0, 0x0, 0x0⟩,  -- LN_PRBS_STAT
  ⟨0x68, 0x0, 1, 0x0, 1, 0x0, 0x0, 0x0, 0x0, 0x0⟩,  -- LN_PRBS_ERR_LO
  ⟨0x6C, 0x0, 1, 0x0, 1, 0x0, 0x0, 0x0, 0x0, 0x0⟩,  -- LN_PRBS_ERR_HI
  ⟨0x70, 0x0, 1, 0x0, 1, 0x0, 0x0, 0x0, 0x0, 0x0⟩,  -- LN_PRBS_BITS_LO
  ⟨0x74, 0x0, 1, 0x0, 1, 0x0, 0x0, 0x0, 0x0, 0x0⟩,  -- LN_PRBS_BITS_HI
  ⟨0x78, 0x0, 1, 0x0, 1, 0x0, 0x0, 0x0, 0x0, 0x3⟩,  -- LN_PRBS_CLR
  ⟨0x80, 0x0, 1, 0x0, 1, 0x0, 0x0, 0x0, 0x7, 0x0⟩,  -- LN_QUAD_CFG (reset: from Chart)
  ⟨0x84, 0x0, 1, 0x0, 1, 0x0, 0x0, 0x0, 0x0, 0x0⟩,  -- LN_QUAD_STAT
  ⟨0x88, 0x0, 1, 0x0, 1, 0x0, 0x0, 0x0, 0x0, 0x0⟩  -- LN_STEER
  ]

/-- Block-specific registers of the SDI page (R248). -/
def rowsSDI : List RegRow := [
  ⟨0x40, 0x0, 1, 0x0, 1, 0x100, 0x0, 0x0, 0x77F17, 0x0⟩,  -- SDI_RX_CFG (reset: rest from Chart)
  ⟨0x44, 0x0, 1, 0x0, 1, 0x0, 0x0, 0x0, 0x0, 0x0⟩,  -- SDI_RX_STAT
  ⟨0x48, 0x0, 1, 0x0, 1, 0x0, 0x0, 0x0, 0x0, 0x0⟩,  -- SDI_RX_PID
  ⟨0x4C, 0x0, 1, 0x0, 1, 0x0, 0x0, 0x0, 0x0, 0x0⟩,  -- SDI_RX_SRC
  ⟨0x50, 0x0, 1, 0x0, 1, 0x0, 0x0, 0x0, 0xF1FFF, 0x0⟩,  -- SDI_RX_AUD (reset: from Chart)
  ⟨0x54, 0x0, 1, 0x0, 1, 0x0, 0xFFFFFFFF, 0x0, 0x0, 0x0⟩,  -- SDI_RX_CRC_ERR
  ⟨0x58, 0x0, 1, 0x0, 1, 0x0, 0xFFFFFFFF, 0x0, 0x0, 0x0⟩,  -- SDI_RX_LN_ERR
  ⟨0x5C, 0x0, 1, 0x0, 1, 0x0, 0xFFFFFFFF, 0x0, 0x0, 0x0⟩,  -- SDI_RX_EVT_CNT
  ⟨0x60, 0x4, 8, 0x0, 1, 0x0, 0x0, 0x0, 0x0, 0x0⟩,  -- SDI_RX_DESCi
  ⟨0x80, 0x0, 1, 0x0, 1, 0x0, 0x0, 0x0, 0x3FFFFFF, 0x0⟩,  -- SDI_GROUP (reset: from Chart)
  ⟨0x84, 0x0, 1, 0x0, 1, 0x0, 0x0, 0x0, 0x0, 0x0⟩,  -- SDI_GROUP_STAT
  ⟨0xC0, 0x0, 1, 0x0, 1, 0x90000, 0x0, 0x0, 0x3F37FF, 0x0⟩,  -- SDI_TX_CFG (reset: rest from Chart)
  ⟨0xC4, 0x0, 1, 0x0, 1, 0x0, 0x0, 0x0, 0x3F1FFF, 0x0⟩,  -- SDI_TX_AUD (reset: from Chart)
  ⟨0xC8, 0x0, 1, 0x0, 1, 0x0, 0x0, 0x0, 0x0, 0x0⟩,  -- SDI_TX_STAT
  ⟨0xCC, 0x0, 1, 0x0, 1, 0x0, 0xFFFF, 0x0, 0x0, 0x0⟩,  -- SDI_TX_ANC_DROP
  ⟨0xD0, 0x0, 1, 0x0, 1, 0x0, 0x0, 0x0, 0x1FFFFFF, 0x0⟩  -- SDI_TX_GROUP (reset: from Chart)
  ]

/-- Block-specific registers of the MAC page (R129, R283). -/
def rowsMAC : List RegRow := [
  ⟨0x400, 0x0, 1, 0x0, 1, 0x0, 0x0, 0x0, 0x0, 0x0⟩,  -- MAC_TSQ_STAT
  ⟨0x404, 0x0, 1, 0x0, 1, 0x0, 0x0, 0x0, 0x0, 0x1⟩,  -- MAC_TSQ_POP
  ⟨0x408, 0x0, 1, 0x0, 1, 0x0, 0x0, 0x0, 0x0, 0x0⟩,  -- MAC_TSQ_TAG
  ⟨0x40C, 0x0, 1, 0x0, 1, 0x0, 0x0, 0x0, 0x0, 0x0⟩,  -- MAC_TSQ_NS_LO
  ⟨0x410, 0x0, 1, 0x0, 1, 0x0, 0x0, 0x0, 0x0, 0x0⟩,  -- MAC_TSQ_NS_HI
  ⟨0x414, 0x0, 1, 0x0, 1, 0x0, 0xFFFF, 0x0, 0x0, 0x0⟩,  -- MAC_TSQ_LOST
  ⟨0x40, 0x0, 1, 0x0, 1, 0x4, 0x0, 0x0, 0xF, 0x0⟩,  -- MAC_CFG (reset: rest from Chart)
  ⟨0x44, 0x0, 1, 0x0, 1, 0x0, 0x0, 0x0, 0x0, 0x0⟩,  -- MAC_STAT
  ⟨0x48, 0x0, 1, 0x0, 1, 0x0, 0x0, 0x0, 0xFFFFFFFF, 0x0⟩,  -- MAC_ADDR_LO (reset: from Chart)
  ⟨0x4C, 0x0, 1, 0x0, 1, 0x0, 0x0, 0x0, 0xFFFF, 0x0⟩,  -- MAC_ADDR_HI (reset: from Chart)
  ⟨0x50, 0x0, 1, 0x0, 1, 0x5F2, 0x0, 0x0, 0x3FFF, 0x0⟩,  -- MAC_MAX_FRAME
  ⟨0x54, 0x0, 1, 0x0, 1, 0x2, 0x0, 0x0, 0x3F03, 0x0⟩,  -- MAC_RX_DEF
  ⟨0x58, 0x0, 1, 0x0, 1, 0x10011, 0x0, 0x0, 0x3FFFFFF, 0x0⟩,  -- MAC_LPI_CFG
  ⟨0x5C, 0x0, 1, 0x0, 1, 0x0, 0x0, 0x0, 0x0, 0x0⟩,  -- MAC_LPI_STAT
  ⟨0x60, 0x0, 1, 0x0, 1, 0x0, 0xFFFFFFFF, 0x0, 0x0, 0x0⟩,  -- MAC_FEC_CORR
  ⟨0x64, 0x0, 1, 0x0, 1, 0x0, 0xFFFFFFFF, 0x0, 0x0, 0x0⟩,  -- MAC_FEC_UNCORR
  ⟨0x68, 0x0, 1, 0x0, 1, 0x0, 0x0, 0x0, 0x0, 0x0⟩,  -- MAC_PAUSE_LEFT
  ⟨0x80, 0x4, 19, 0x0, 1, 0x0, 0xFFFFFFFF, 0x0, 0x0, 0x0⟩  -- MAC_CNTi
  ]

/-- Block-specific registers of the MAC_FILT page (R285). -/
def rowsMACFILT : List RegRow := [
  ⟨0x40, 0x8, 128, 0x0, 1, 0x0, 0x0, 0x0, 0xFFFF7FFF, 0x0⟩,  -- MAC_FILTe_MATCH (reset: from Chart)
  ⟨0x44, 0x8, 128, 0x0, 1, 0x0, 0x0, 0x0, 0x803F0337, 0x0⟩,  -- MAC_FILTe_ACT (reset: from Chart)
  ⟨0x440, 0x4, 128, 0x0, 1, 0x0, 0xFFFFFFFF, 0x0, 0x0, 0x0⟩  -- MAC_FILTe_HITS
  ]

/-- Block-specific registers of the TAKE_DST page (R368). -/
def rowsTAKEDST : List RegRow := [
  ⟨0x100, 0x60, 16, 0x0, 1, 0x4800, 0x0, 0x0, 0xFF7F, 0x0⟩,  -- TAKE_DSTe_CFG
  ⟨0x104, 0x60, 16, 0x0, 1, 0x20000, 0x0, 0x0, 0xFF1FFF, 0x0⟩,  -- TAKE_DSTe_SWLINE
  ⟨0x108, 0x60, 16, 0x0, 1, 0x1, 0x0, 0x0, 0x7F, 0x0⟩,  -- TAKE_DSTe_COLOR
  ⟨0x10C, 0x60, 16, 0x0, 1, 0x0, 0x0, 0x0, 0x0, 0x0⟩,  -- TAKE_DSTe_SRC
  ⟨0x110, 0x60, 16, 0x0, 1, 0x0, 0x0, 0x0, 0x183FF, 0x0⟩,  -- TAKE_DSTe_BACKUP
  ⟨0x114, 0x60, 16, 0x0, 1, 0x50003, 0x0, 0x0, 0xF03FF, 0x0⟩,  -- TAKE_DSTe_PROT
  ⟨0x118, 0x60, 16, 0x0, 1, 0xBB8, 0x0, 0x0, 0xFFFF, 0x0⟩,  -- TAKE_DSTe_FLAPWIN
  ⟨0x11C, 0x60, 16, 0x0, 1, 0x0, 0x0, 0x0, 0x0, 0x0⟩,  -- TAKE_DSTe_HOLD
  ⟨0x120, 0x60, 16, 0x0, 1, 0x0, 0x0, 0x0, 0x0, 0x0⟩,  -- TAKE_DSTe_PEND
  ⟨0x124, 0x60, 16, 0x0, 1, 0x0, 0x0, 0x0, 0x0, 0x0⟩,  -- TAKE_DSTe_NEXT_F_LO
  ⟨0x128, 0x60, 16, 0x0, 1, 0x0, 0x0, 0x0, 0x0, 0x0⟩,  -- TAKE_DSTe_NEXT_F_HI
  ⟨0x12C, 0x60, 16, 0x0, 1, 0x0, 0x0, 0x0, 0x0, 0x0⟩,  -- TAKE_DSTe_LAST_F_LO
  ⟨0x130, 0x60, 16, 0x0, 1, 0x0, 0x0, 0x0, 0x0, 0x0⟩,  -- TAKE_DSTe_LAST_F_HI
  ⟨0x134, 0x60, 16, 0x0, 1, 0x0, 0x0, 0x0, 0x0, 0x0⟩,  -- TAKE_DSTe_LAST_REASON
  ⟨0x138, 0x60, 16, 0x0, 1, 0x0, 0xFFFFFFFF, 0x0, 0x0, 0x0⟩,  -- TAKE_DSTe_MISSING
  ⟨0x13C, 0x60, 16, 0x0, 1, 0x0, 0xFFFFFFFF, 0x0, 0x0, 0x0⟩,  -- TAKE_DSTe_SWITCHES
  ⟨0x140, 0x60, 16, 0x0, 1, 0x0, 0x0, 0x1FF, 0x0, 0x0⟩,  -- TAKE_DSTe_STICKY
  ⟨0x144, 0x60, 16, 0x0, 1, 0x0, 0x0, 0x0, 0x0, 0x0⟩  -- TAKE_DSTe_FLAPCNT
  ]

/-- Block-specific registers of the FS_DST page (R476). -/
def rowsFSDST : List RegRow := [
  ⟨0x100, 0x40, 16, 0x0, 1, 0x10008, 0x0, 0x0, 0x7FF003F, 0x0⟩,  -- FS_DSTe_CFG
  ⟨0x104, 0x40, 16, 0x0, 1, 0x0, 0x0, 0x0, 0xFFFF, 0x0⟩,  -- FS_DSTe_HOLD
  ⟨0x108, 0x40, 16, 0x0, 1, 0x20080040, 0x0, 0x0, 0x3FFFFFFF, 0x0⟩,  -- FS_DSTe_FIELD
  ⟨0x10C, 0x40, 16, 0x0, 1, 0x0, 0x0, 0x0, 0xFFFFFFFF, 0x0⟩,  -- FS_DSTe_SURF
  ⟨0x110, 0x40, 16, 0x0, 1, 0x0, 0x0, 0x0, 0x0, 0x0⟩,  -- FS_DSTe_PLACE
  ⟨0x114, 0x40, 16, 0x0, 1, 0x0, 0x0, 0x0, 0x0, 0x0⟩,  -- FS_DSTe_STAT
  ⟨0x118, 0x40, 16, 0x0, 1, 0x0, 0xFFFFFFFF, 0x0, 0x0, 0x0⟩,  -- FS_DSTe_CNT
  ⟨0x11C, 0x40, 16, 0x0, 1, 0x0, 0xFFFFFFFF, 0x0, 0x0, 0x0⟩,  -- FS_DSTe_LOST
  ⟨0x120, 0x40, 16, 0x0, 1, 0x0, 0xFFFFFFFF, 0x0, 0x0, 0x0⟩,  -- FS_DSTe_TEAR
  ⟨0x124, 0x40, 16, 0x0, 1, 0x0, 0x0, 0x0, 0x0, 0x0⟩,  -- FS_DSTe_EXT
  ⟨0x128, 0x40, 16, 0x0, 1, 0x0, 0x0, 0xFF, 0x0, 0x0⟩  -- FS_DSTe_STICKY
  ]

/-- Block-specific registers of the FLW_RX page (R320). -/
def rowsFLWRX : List RegRow := [
  ⟨0x100, 0x60, 16, 0x0, 1, 0x0, 0x0, 0x0, 0xFFF077F, 0x0⟩,  -- FLW_RXe_CFG
  ⟨0x104, 0x60, 16, 0x0, 1, 0x0, 0x0, 0x0, 0x7FFF, 0x0⟩,  -- FLW_RXe_MAC
  ⟨0x108, 0x60, 16, 0x0, 1, 0x0, 0x0, 0x0, 0xFFFFFFFF, 0x0⟩,  -- FLW_RXe_DADDR0
  ⟨0x10C, 0x60, 16, 0x0, 1, 0x0, 0x0, 0x0, 0xFFFFFFFF, 0x0⟩,  -- FLW_RXe_DADDR1
  ⟨0x110, 0x60, 16, 0x0, 1, 0x0, 0x0, 0x0, 0xFFFFFFFF, 0x0⟩,  -- FLW_RXe_DADDR2
  ⟨0x114, 0x60, 16, 0x0, 1, 0x0, 0x0, 0x0, 0xFFFFFFFF, 0x0⟩,  -- FLW_RXe_DADDR3
  ⟨0x118, 0x60, 16, 0x0, 1, 0x0, 0x0, 0x0, 0xFFFFFFFF, 0x0⟩,  -- FLW_RXe_SADDR0
  ⟨0x11C, 0x60, 16, 0x0, 1, 0x0, 0x0, 0x0, 0xFFFFFFFF, 0x0⟩,  -- FLW_RXe_SADDR1
  ⟨0x120, 0x60, 16, 0x0, 1, 0x0, 0x0, 0x0, 0xFFFFFFFF, 0x0⟩,  -- FLW_RXe_SADDR2
  ⟨0x124, 0x60, 16, 0x0, 1, 0x0, 0x0, 0x0, 0xFFFFFFFF, 0x0⟩,  -- FLW_RXe_SADDR3
  ⟨0x128, 0x60, 16, 0x0, 1, 0x0, 0x0, 0x0, 0xFFFF, 0x0⟩,  -- FLW_RXe_PORT
  ⟨0x12C, 0x60, 16, 0x0, 1, 0x0, 0x0, 0x0, 0x3F7F7F, 0x0⟩,  -- FLW_RXe_FMT
  ⟨0x130, 0x60, 16, 0x0, 1, 0x0, 0x0, 0x0, 0x1FFF8FFF, 0x0⟩,  -- FLW_RXe_BIND
  ⟨0x134, 0x60, 16, 0x0, 1, 0x32, 0x0, 0x0, 0x3FF, 0x0⟩,  -- FLW_RXe_SKEW
  ⟨0x138, 0x60, 16, 0x0, 1, 0x0, 0x0, 0x0, 0x0, 0x0⟩,  -- FLW_RXe_STAT
  ⟨0x13C, 0x60, 16, 0x0, 1, 0x0, 0xFFFFFFFF, 0x0, 0x0, 0x0⟩,  -- FLW_RXe_PKTS
  ⟨0x140, 0x60, 16, 0x0, 1, 0x0, 0xFFFFFFFF, 0x0, 0x0, 0x0⟩,  -- FLW_RXe_MISS
  ⟨0x144, 0x60, 16, 0x0, 1, 0x0, 0xFFFFFFFF, 0x0, 0x0, 0x0⟩,  -- FLW_RXe_LATE
  ⟨0x148, 0x60, 16, 0x0, 1, 0x0, 0xFFFFFFFF, 0x0, 0x0, 0x0⟩,  -- FLW_RXe_RECOV
  ⟨0x14C, 0x60, 16, 0x0, 1, 0x0, 0xFFFFFFFF, 0x0, 0x0, 0x0⟩,  -- FLW_RXe_FMTERR
  ⟨0x150, 0x60, 16, 0x0, 1, 0x0, 0x0, 0x0, 0x0, 0x0⟩,  -- FLW_RXe_TSOFS
  ⟨0x154, 0x60, 16, 0x0, 1, 0x0, 0x0, 0x1F, 0x0, 0x0⟩  -- FLW_RXe_STICKY
  ]

/-- Block-specific registers of the FLW_TX page (R321). -/
def rowsFLWTX : List RegRow := [
  ⟨0x100, 0x60, 16, 0x0, 1, 0x0, 0x0, 0x0, 0x7FF0F, 0x0⟩,  -- FLW_TXe_CFG
  ⟨0x104, 0x60, 16, 0x0, 1, 0x0, 0x0, 0x0, 0x7FFF, 0x0⟩,  -- FLW_TXe_MAC
  ⟨0x108, 0x60, 16, 0x0, 1, 0x0, 0x0, 0x0, 0xFFFFFFFF, 0x0⟩,  -- FLW_TXe_DADDR0
  ⟨0x10C, 0x60, 16, 0x0, 1, 0x0, 0x0, 0x0, 0xFFFFFFFF, 0x0⟩,  -- FLW_TXe_DADDR1
  ⟨0x110, 0x60, 16, 0x0, 1, 0x0, 0x0, 0x0, 0xFFFFFFFF, 0x0⟩,  -- FLW_TXe_DADDR2
  ⟨0x114, 0x60, 16, 0x0, 1, 0x0, 0x0, 0x0, 0xFFFFFFFF, 0x0⟩,  -- FLW_TXe_DADDR3
  ⟨0x118, 0x60, 16, 0x0, 1, 0x0, 0x0, 0x0, 0xFFFFFFFF, 0x0⟩,  -- FLW_TXe_SADDR0
  ⟨0x11C, 0x60, 16, 0x0, 1, 0x0, 0x0, 0x0, 0xFFFFFFFF, 0x0⟩,  -- FLW_TXe_SADDR1
  ⟨0x120, 0x60, 16, 0x0, 1, 0x0, 0x0, 0x0, 0xFFFFFFFF, 0x0⟩,  -- FLW_TXe_SADDR2
  ⟨0x124, 0x60, 16, 0x0, 1, 0x0, 0x0, 0x0, 0xFFFFFFFF, 0x0⟩,  -- FLW_TXe_SADDR3
  ⟨0x128, 0x60, 16, 0x0, 1, 0x0, 0x0, 0x0, 0xFFFFFFFF, 0x0⟩,  -- FLW_TXe_PORTS
  ⟨0x12C, 0x60, 16, 0x0, 1, 0x0, 0x0, 0x0, 0xFFFFFFFF, 0x0⟩,  -- FLW_TXe_SSRC
  ⟨0x130, 0x60, 16, 0x0, 1, 0x4B0, 0x0, 0x0, 0x17F07FF, 0x0⟩,  -- FLW_TXe_FMT
  ⟨0x134, 0x60, 16, 0x0, 1, 0x0, 0x0, 0x0, 0x1FFF, 0x0⟩,  -- FLW_TXe_AUD
  ⟨0x138, 0x60, 16, 0x0, 1, 0x0, 0x0, 0x0, 0x7FF, 0x0⟩,  -- FLW_TXe_TRO
  ⟨0x13C, 0x60, 16, 0x0, 1, 0xFF000000, 0x0, 0x0, 0xFF3FFFFF, 0x0⟩,  -- FLW_TXe_NET
  ⟨0x140, 0x60, 16, 0x0, 1, 0x0, 0x0, 0x0, 0x0, 0x0⟩,  -- FLW_TXe_STAT
  ⟨0x144, 0x60, 16, 0x0, 1, 0x0, 0xFFFFFFFF, 0x0, 0x0, 0x0⟩,  -- FLW_TXe_PKTS
  ⟨0x148, 0x60, 16, 0x0, 1, 0x0, 0x0, 0x0, 0x0, 0x0⟩,  -- FLW_TXe_SEQ
  ⟨0x14C, 0x60, 16, 0x0, 1, 0x0, 0xFFFFFFFF, 0x0, 0x0, 0x0⟩,  -- FLW_TXe_PAUSE_DROP
  ⟨0x150, 0x60, 16, 0x0, 1, 0x0, 0xFFFFFFFF, 0x0, 0x0, 0x0⟩,  -- FLW_TXe_LATE
  ⟨0x154, 0x60, 16, 0x0, 1, 0x0, 0x0, 0x3, 0x0, 0x0⟩  -- FLW_TXe_STICKY
  ]

/-- Block-specific registers of the AUD_OUT page (R536). -/
def rowsAUDOUT : List RegRow := [
  ⟨0x100, 0x40, 16, 0x0, 1, 0x0, 0x0, 0x0, 0x7FF7F3F, 0x0⟩,  -- AUD_Oe_CFG
  ⟨0x104, 0x40, 16, 0x4, 4, 0x0, 0x0, 0x0, 0x87FF9FFF, 0x0⟩,  -- AUD_Oe_INk
  ⟨0x114, 0x40, 16, 0x0, 1, 0x14000A, 0x0, 0x0, 0x3F03FF, 0x0⟩,  -- AUD_Oe_TIME
  ⟨0x118, 0x40, 16, 0x0, 1, 0x0, 0x0, 0x0, 0x1FFF, 0x0⟩,  -- AUD_Oe_DLY
  ⟨0x11C, 0x40, 16, 0x0, 1, 0x0, 0x0, 0x0, 0x0, 0x0⟩,  -- AUD_Oe_STAT
  ⟨0x120, 0x40, 16, 0x0, 1, 0x0, 0x0, 0x0, 0x0, 0x0⟩,  -- AUD_Oe_DLY_NOW
  ⟨0x124, 0x40, 16, 0x0, 1, 0x0, 0xFFFFFFFF, 0x0, 0x0, 0x0⟩,  -- AUD_Oe_CLIP
  ⟨0x128, 0x40, 16, 0x0, 1, 0x0, 0x0, 0x1F, 0x0, 0x0⟩  -- AUD_Oe_STICKY
  ]

/-- One row of the page map (R756): first page, number of instances, type code, the PG_STICKY bits that are of type RS
(bit 31 is OWNER_VIOL, R758), PG_CAP bits 1 to 4 (R759: SHADOW, OWN_LINE, ENTRIES, FIXED_OWNER) and the registers. -/
structure PageRow where
  first : Nat
  count : Nat
  code : Nat
  sticky : Nat
  cap : Nat
  rows : List RegRow
  deriving DecidableEq, Repr

/-- The page map, rows 0 to 17 (R756). -/
def pageMapPart0 : List PageRow := [
  ⟨0x0, 1, 0x0, 0x0, 0x10, rowsDIR⟩,  -- DIR
  ⟨0x1, 1, 0x1, 0x800003FF, 0x10, rowsSYS⟩,  -- SYS
  ⟨0x2, 1, 0x2, 0x80FF00FF, 0x2, rowsREF⟩,  -- REF
  ⟨0x3, 1, 0x3, 0x8000001F, 0x2, rowsPTP⟩,  -- PTP
  ⟨0x4, 1, 0x4, 0x80000007, 0x0, rowsHRT⟩,  -- HRT
  ⟨0x5, 1, 0x5, 0x80000003, 0x0, rowsTAKECMD⟩,  -- TAKE_CMD
  ⟨0x6, 1, 0x6, 0x80000007, 0xA, rowsTAKECIRC⟩,  -- TAKE_CIRC
  ⟨0x7, 1, 0x7, 0x800000FF, 0x2, rowsFAB⟩,  -- FAB
  ⟨0x8, 1, 0x8, 0x800001FF, 0x2, rowsHIE⟩,  -- HIE
  ⟨0x9, 1, 0x9, 0x8000000F, 0x2, rowsFLWENG⟩,  -- FLW_ENG
  ⟨0xA, 1, 0xA, 0x80000003, 0x2, rowsFSENG⟩,  -- FS_ENG
  ⟨0xB, 1, 0xB, 0x8000000F, 0x2, rowsAUDENG⟩,  -- AUD_ENG
  ⟨0xC, 1, 0xC, 0x80000001, 0x2, rowsDDRENG⟩,  -- DDR_ENG
  ⟨0xD, 1, 0xD, 0x8000000F, 0x0, rowsXBM⟩,  -- XBM
  ⟨0xE, 1, 0xE, 0x800007FF, 0x2, rowsTMP⟩,  -- TMP
  ⟨0xF, 1, 0xF, 0x800000FF, 0x2, rowsCRU⟩,  -- CRU
  ⟨0x10, 1, 0x10, 0x80001FFF, 0x2, rowsTWN⟩,  -- TWN
  ⟨0x11, 1, 0x11, 0x800000FF, 0x12, rowsPWR⟩  -- PWR
  ]

/-- The page map, rows 18 to 34 (R756). -/
def pageMapPart1 : List PageRow := [
  ⟨0x12, 1, 0x12, 0x8000007F, 0x10, rowsHAL⟩,  -- HAL
  ⟨0x13, 1, 0x13, 0x800001FF, 0x2, rowsUPD⟩,  -- UPD
  ⟨0x14, 8, 0x14, 0x8000000F, 0x2, rowsDDRCH⟩,  -- DDR_CH
  ⟨0x1C, 4, 0x15, 0x80000001, 0xA, rowsAUDSIL⟩,  -- AUD_SIL
  ⟨0x20, 32, 0x16, 0x80000003, 0x6, rowsSWG⟩,  -- SWG
  ⟨0x40, 16, 0x17, 0x8000FF1F, 0x6, rowsFIL⟩,  -- FIL
  ⟨0x50, 16, 0x18, 0x800000FF, 0x2, rowsAPT⟩,  -- APT
  ⟨0x60, 64, 0x19, 0x8000003F, 0x2, rowsMACRING⟩,  -- MAC_RING
  ⟨0x100, 196, 0x1A, 0x800000FF, 0x2, rowsLN⟩,  -- LN
  ⟨0x200, 192, 0x1B, 0x80000FFF, 0x2, rowsSDI⟩,  -- SDI
  ⟨0x300, 193, 0x1C, 0x800003FF, 0x2, rowsMAC⟩,  -- MAC
  ⟨0x400, 386, 0x1D, 0x80000000, 0xA, rowsMACFILT⟩,  -- MAC_FILT
  ⟨0x600, 128, 0x1E, 0x80000000, 0xA, rowsTAKEDST⟩,  -- TAKE_DST
  ⟨0x680, 128, 0x1F, 0x80000000, 0xE, rowsFSDST⟩,  -- FS_DST
  ⟨0x800, 256, 0x20, 0x80000000, 0xA, rowsFLWRX⟩,  -- FLW_RX
  ⟨0x900, 256, 0x21, 0x80000000, 0xA, rowsFLWTX⟩,  -- FLW_TX
  ⟨0xA00, 512, 0x22, 0x80000000, 0xA, rowsAUDOUT⟩  -- AUD_OUT
  ]

/-- The page map of R756, in page order. -/
def pageMap : List PageRow := pageMapPart0 ++ pageMapPart1

/-- The registers of the common header (R758, R759) that reset alike on every page. -/
def rowsHeader : List RegRow := [
  ⟨0x4, 0, 1, 0, 1, 0x1, 0x0, 0x0, 0, 0x0⟩,  -- PG_VER
  ⟨0xC, 0, 1, 0, 1, 0x0, 0x3F01, 0x0, 0, 0x2⟩,  -- PG_CTRL
  ⟨0x10, 0, 1, 0, 1, 0x0, 0x0, 0x0, 0, 0x0⟩,  -- PG_STAT
  ⟨0x18, 0, 1, 0, 1, 0x0, 0xFFFFFFFF, 0x0, 0, 0x0⟩,  -- PG_IRQ_EN
  ⟨0x1C, 0, 1, 0, 1, 0x0, 0xFFFFFFFF, 0x0, 0, 0x0⟩,  -- PG_IRQ_FORCE
  ⟨0x20, 0, 1, 0, 1, 0x0, 0xF2, 0x0, 0, 0x5⟩,  -- PG_COMMIT
  ⟨0x24, 0, 1, 0, 1, 0x0, 0x0, 0x0, 0, 0x0⟩,  -- PG_COMMIT_STAT
  ⟨0x28, 0, 1, 0, 1, 0x0, 0x0, 0x0, 0, 0x3⟩,  -- PG_SNAPSHOT
  ⟨0x2C, 0, 1, 0, 1, 0x0, 0x3, 0x0, 0, 0x0⟩  -- PG_OWNER
  ]

/-- Does this row hold the register at this offset of its page? -/
def RegRow.covers (r : RegRow) (off : Nat) : Bool :=
  if off < r.off then false
  else
    let k := if r.stride = 0 then 0 else min ((off - r.off) / r.stride) (r.count - 1)
    let rem := off - r.off - k * r.stride
    if r.stride2 = 0 then rem == 0
    else rem % r.stride2 == 0 && decide (rem / r.stride2 < r.count2)

/-- The page-map row of a page; `none` for a page number not in use (R133, R756). -/
def pageRow (page : Nat) : Option PageRow :=
  pageMap.find? fun p => decide (p.first ≤ page) && decide (page < p.first + p.count)

/-- The register row at an offset of a page, the common header included; `none` where no chapter assigns the offset. -/
def regRow (page off : Nat) : Option RegRow :=
  match pageRow page with
  | none => none
  | some p =>
    if off = 0x014 then some ⟨0x014, 0, 1, 0, 1, 0, 0, p.sticky, 0, 0⟩
    else if off < 0x040 then rowsHeader.find? fun r => r.covers off
    else p.rows.find? fun r => r.covers off

/-- Reset value of the directory registers of page 0 (R757): entry i describes row i of the page map. -/
def dirReset (off : Nat) : Nat :=
  if off < 0x080 then (if off = 0x040 then pageMap.length else 0)
  else
    match pageMap[(off - 0x080) / 8]? with
    | none => 0
    | some p => if off % 8 = 0 then p.first + p.count * 0x10000 else if off % 8 = 4 then p.code else 0

/-- What a word of BAR0 reads at reset: page and offset of R756. At o + 0x800 stands the live copy of the SH bits of
the register at o, and 0 where o holds none (R762). -/
def resetNat (page off : Nat) : Nat :=
  match pageRow page with
  | none => 0
  | some p =>
    if off = 0x000 then (page - p.first) + p.code * 0x10000
    else if off = 0x008 then p.cap + 1 + (if page = 1 then 0x10000 else 0)
    else if 0x1C0 ≤ page ∧ page ≤ 0x1C3 ∧ (off % 0x800 = 0x040 ∨ off % 0x800 = 0x080) then
      (if off % 0x800 = 0x040 then 7 else 5)  -- twin lanes: role CLASP, class FABRIC, both fixed (R186)
    else if page = 0 ∧ 0x040 ≤ off then (if off < 0x800 then dirReset off else 0)
    else if off < 0x800 then ((regRow page off).map RegRow.reset).getD 0
    else
      match regRow page (off - 0x800) with
      | none => 0
      | some r => r.reset &&& r.sh

/-- `resetNat` by BAR0 byte address (page p at offset p × 0x1000, R130). -/
def resetWord (a : Nat) : Word := BitVec.ofNat 32 (resetNat (a / 0x1000) (a % 0x1000))

end Sys2Proof.Machine
end

