-- ==== Sys2Proof/Machine/Names.lean ====
section
/-!
DEFINITION. The BAR0 byte address of every register, under the name the spec gives it (R763's index; page map R756).
A lower-case letter of the spec's name is an argument here; a register of an entry page takes the device-wide number
of the entry where the page holds 16 entries (entry e of instance i is number 16 × i + e).
-/

namespace Sys2Proof.Machine.Reg

/-- BAR0 byte address of offset `off` of page `page` (R130). -/
def pg (page off : Nat) : Nat := page * 0x1000 + off

/-- PG_ID of a page (R758). -/
def PG_ID (page : Nat) : Nat := page * 0x1000 + 0x000
/-- PG_VER of a page (R758). -/
def PG_VER (page : Nat) : Nat := page * 0x1000 + 0x004
/-- PG_CAP of a page (R758). -/
def PG_CAP (page : Nat) : Nat := page * 0x1000 + 0x008
/-- PG_CTRL of a page (R758). -/
def PG_CTRL (page : Nat) : Nat := page * 0x1000 + 0x00C
/-- PG_STAT of a page (R758). -/
def PG_STAT (page : Nat) : Nat := page * 0x1000 + 0x010
/-- PG_STICKY of a page (R758). -/
def PG_STICKY (page : Nat) : Nat := page * 0x1000 + 0x014
/-- PG_IRQ_EN of a page (R758). -/
def PG_IRQ_EN (page : Nat) : Nat := page * 0x1000 + 0x018
/-- PG_IRQ_FORCE of a page (R758). -/
def PG_IRQ_FORCE (page : Nat) : Nat := page * 0x1000 + 0x01C
/-- PG_COMMIT of a page (R758). -/
def PG_COMMIT (page : Nat) : Nat := page * 0x1000 + 0x020
/-- PG_COMMIT_STAT of a page (R758). -/
def PG_COMMIT_STAT (page : Nat) : Nat := page * 0x1000 + 0x024
/-- PG_SNAPSHOT of a page (R758). -/
def PG_SNAPSHOT (page : Nat) : Nat := page * 0x1000 + 0x028
/-- PG_OWNER of a page (R758). -/
def PG_OWNER (page : Nat) : Nat := page * 0x1000 + 0x02C

/-- The DIR page (R756). -/
def pageDIR : Nat := 0x0
/-- The SYS page (R756). -/
def pageSYS : Nat := 0x1
/-- The REF page (R756). -/
def pageREF : Nat := 0x2
/-- The PTP page (R756). -/
def pagePTP : Nat := 0x3
/-- The HRT page (R756). -/
def pageHRT : Nat := 0x4
/-- The TAKE_CMD page (R756). -/
def pageTAKECMD : Nat := 0x5
/-- The TAKE_CIRC page (R756). -/
def pageTAKECIRC : Nat := 0x6
/-- The FAB page (R756). -/
def pageFAB : Nat := 0x7
/-- The HIE page (R756). -/
def pageHIE : Nat := 0x8
/-- The FLW_ENG page (R756). -/
def pageFLWENG : Nat := 0x9
/-- The FS_ENG page (R756). -/
def pageFSENG : Nat := 0xA
/-- The AUD_ENG page (R756). -/
def pageAUDENG : Nat := 0xB
/-- The DDR_ENG page (R756). -/
def pageDDRENG : Nat := 0xC
/-- The XBM page (R756). -/
def pageXBM : Nat := 0xD
/-- The TMP page (R756). -/
def pageTMP : Nat := 0xE
/-- The CRU page (R756). -/
def pageCRU : Nat := 0xF
/-- The TWN page (R756). -/
def pageTWN : Nat := 0x10
/-- The PWR page (R756). -/
def pagePWR : Nat := 0x11
/-- The HAL page (R756). -/
def pageHAL : Nat := 0x12
/-- The UPD page (R756). -/
def pageUPD : Nat := 0x13
/-- The DDR_CH page of instance i. -/
def pageDDRCH (i : Nat) : Nat := 0x14 + i
/-- The AUD_SIL page of instance i. -/
def pageAUDSIL (i : Nat) : Nat := 0x1C + i
/-- The SWG page of instance i. -/
def pageSWG (i : Nat) : Nat := 0x20 + i
/-- The FIL page of instance i. -/
def pageFIL (i : Nat) : Nat := 0x40 + i
/-- The APT page of instance i. -/
def pageAPT (i : Nat) : Nat := 0x50 + i
/-- The MAC_RING page of instance i. -/
def pageMACRING (i : Nat) : Nat := 0x60 + i
/-- The LN page of instance i. -/
def pageLN (i : Nat) : Nat := 0x100 + i
/-- The SDI page of instance i. -/
def pageSDI (i : Nat) : Nat := 0x200 + i
/-- The MAC page of instance i. -/
def pageMAC (i : Nat) : Nat := 0x300 + i
/-- The MAC_FILT page of instance i. -/
def pageMACFILT (i : Nat) : Nat := 0x400 + i
/-- The TAKE_DST page that holds entry number k. -/
def pageTAKEDST (k : Nat) : Nat := 0x600 + k / 16
/-- The FS_DST page that holds entry number k. -/
def pageFSDST (k : Nat) : Nat := 0x680 + k / 16
/-- The FLW_RX page that holds entry number k. -/
def pageFLWRX (k : Nat) : Nat := 0x800 + k / 16
/-- The FLW_TX page that holds entry number k. -/
def pageFLWTX (k : Nat) : Nat := 0x900 + k / 16
/-- The AUD_OUT page that holds entry number k. -/
def pageAUDOUT (k : Nat) : Nat := 0xA00 + k / 16

/-- DIR_COUNT (R757). -/
def DIR_COUNT : Nat := 0x40
/-- DIR_ENTRYi_A (R757). -/
def DIR_ENTRY_A (i : Nat) : Nat := 0x80 + i * 0x8
/-- DIR_ENTRYi_B (R757). -/
def DIR_ENTRY_B (i : Nat) : Nat := 0x84 + i * 0x8
/-- SYS_BAR2_BASE_LO (R178). -/
def SYS_BAR2_BASE_LO : Nat := 0x1040
/-- SYS_BAR2_BASE_HI (R178). -/
def SYS_BAR2_BASE_HI : Nat := 0x1044
/-- SYS_OWNER_VIOL_CNT (R178). -/
def SYS_OWNER_VIOL_CNT : Nat := 0x1048
/-- SYS_OWNER_VIOL_LAST (R178). -/
def SYS_OWNER_VIOL_LAST : Nat := 0x104C
/-- SYS_ARMED_WR_CNT (R178). -/
def SYS_ARMED_WR_CNT : Nat := 0x1050
/-- SYS_COMMIT_LAST (R178). -/
def SYS_COMMIT_LAST : Nat := 0x1054
/-- SYS_SNAPSHOT (R178). -/
def SYS_SNAPSHOT : Nat := 0x1058
/-- SYS_CENSUS_CTRL (R178). -/
def SYS_CENSUS_CTRL : Nat := 0x1060
/-- SYS_CENSUS_ADDR_LO (R178). -/
def SYS_CENSUS_ADDR_LO : Nat := 0x1064
/-- SYS_CENSUS_ADDR_HI (R178). -/
def SYS_CENSUS_ADDR_HI : Nat := 0x1068
/-- SYS_CENSUS_LIMIT (R178). -/
def SYS_CENSUS_LIMIT : Nat := 0x106C
/-- SYS_CENSUS_STAT (R178). -/
def SYS_CENSUS_STAT : Nat := 0x1070
/-- SYS_CENSUS_LEN (R178). -/
def SYS_CENSUS_LEN : Nat := 0x1074
/-- SYS_EVT_WR (R178). -/
def SYS_EVT_WR : Nat := 0x1080
/-- SYS_EVT_RD (R178). -/
def SYS_EVT_RD : Nat := 0x1084
/-- SYS_EVT_STAT (R178). -/
def SYS_EVT_STAT : Nat := 0x1088
/-- SYS_EVT_DATAi (R178). -/
def SYS_EVT_DATA (i : Nat) : Nat := 0x10A0 + i * 0x4
/-- SYS_IRQN_MASK_LO (R178). -/
def SYS_IRQN_MASK_LO : Nat := 0x10C0
/-- SYS_IRQN_MASK_HI (R178). -/
def SYS_IRQN_MASK_HI : Nat := 0x10C4
/-- SYS_CHART_CTRL (R178). -/
def SYS_CHART_CTRL : Nat := 0x10D0
/-- SYS_CHART_ADDR_LO (R178). -/
def SYS_CHART_ADDR_LO : Nat := 0x10D4
/-- SYS_CHART_ADDR_HI (R178). -/
def SYS_CHART_ADDR_HI : Nat := 0x10D8
/-- SYS_CHART_STAT (R178). -/
def SYS_CHART_STAT : Nat := 0x10DC
/-- SYS_CHART_HASH_LO (R178). -/
def SYS_CHART_HASH_LO : Nat := 0x10E0
/-- SYS_CHART_HASH_HI (R178). -/
def SYS_CHART_HASH_HI : Nat := 0x10E4
/-- SYS_CHART_SEQ (R178). -/
def SYS_CHART_SEQ : Nat := 0x10E8
/-- SYS_CSLOTk_F_LO (R178). -/
def SYS_CSLOT_F_LO (k : Nat) : Nat := 0x1100 + k * 0x10
/-- SYS_CSLOTk_F_HI (R178). -/
def SYS_CSLOT_F_HI (k : Nat) : Nat := 0x1104 + k * 0x10
/-- SYS_CSLOTk_LS (R178). -/
def SYS_CSLOT_LS (k : Nat) : Nat := 0x1108 + k * 0x10
/-- SYS_CSLOTk_STAT (R178). -/
def SYS_CSLOT_STAT (k : Nat) : Nat := 0x110C + k * 0x10
/-- SYS_BOOT_STAT (R754). -/
def SYS_BOOT_STAT : Nat := 0x1200
/-- SYS_BOOT_TIME (R754). -/
def SYS_BOOT_TIME : Nat := 0x1204
/-- SYS_RESET_CTRL (R754). -/
def SYS_RESET_CTRL : Nat := 0x1208
/-- SYS_RESET_CAUSE (R754). -/
def SYS_RESET_CAUSE : Nat := 0x120C
/-- REF_CTRL (R94). -/
def REF_CTRL : Nat := 0x2040
/-- REF_STATE (R94). -/
def REF_STATE : Nat := 0x2044
/-- REF_HOLDOFF (R94). -/
def REF_HOLDOFF : Nat := 0x2048
/-- REF_LIMITS (R94). -/
def REF_LIMITS : Nat := 0x204C
/-- REF_LOCK_THR (R94). -/
def REF_LOCK_THR : Nat := 0x2050
/-- REF_SW_PERIOD (R94). -/
def REF_SW_PERIOD : Nat := 0x2054
/-- REF_PHERR (R94). -/
def REF_PHERR : Nat := 0x2058
/-- REF_FREQ_CORR (R94). -/
def REF_FREQ_CORR : Nat := 0x205C
/-- REF_FREQ_NOW (R94). -/
def REF_FREQ_NOW : Nat := 0x2060
/-- REF_HO_MEM (R94). -/
def REF_HO_MEM : Nat := 0x2064
/-- REF_HO_CTRL (R94). -/
def REF_HO_CTRL : Nat := 0x2068
/-- REF_DISAGREE (R94). -/
def REF_DISAGREE : Nat := 0x206C
/-- REF_CLKOUT0 (R94). -/
def REF_CLKOUT0 : Nat := 0x2070
/-- REF_CLKOUT1 (R94). -/
def REF_CLKOUT1 : Nat := 0x2074
/-- REF_PPS_OUT (R94). -/
def REF_PPS_OUT : Nat := 0x2078
/-- REF_STEP_LAST (R94). -/
def REF_STEP_LAST : Nat := 0x207C
/-- REF_CANDn_CTRL (R94). -/
def REF_CAND_CTRL (n : Nat) : Nat := 0x2080 + n * 0x10
/-- REF_CANDn_STAT (R94). -/
def REF_CAND_STAT (n : Nat) : Nat := 0x2084 + n * 0x10
/-- REF_CANDn_FOFS (R94). -/
def REF_CAND_FOFS (n : Nat) : Nat := 0x2088 + n * 0x10
/-- REF_CANDn_POFS (R94). -/
def REF_CAND_POFS (n : Nat) : Nat := 0x208C + n * 0x10
/-- REF_TPn_CFG (R94). -/
def REF_TP_CFG (n : Nat) : Nat := 0x2100 + n * 0x10
/-- REF_TPn_OFS (R94). -/
def REF_TP_OFS (n : Nat) : Nat := 0x2104 + n * 0x10
/-- REF_TPn_F_LO (R94). -/
def REF_TP_F_LO (n : Nat) : Nat := 0x2108 + n * 0x10
/-- REF_TPn_F_HI (R94). -/
def REF_TP_F_HI (n : Nat) : Nat := 0x210C + n * 0x10
/-- PTP_CTRL (R126). -/
def PTP_CTRL : Nat := 0x3040
/-- PTP_STATE (R126). -/
def PTP_STATE : Nat := 0x3044
/-- PTP_TIME_LO (R126). -/
def PTP_TIME_LO : Nat := 0x3048
/-- PTP_TIME_HI (R126). -/
def PTP_TIME_HI : Nat := 0x304C
/-- PTP_TIME_FRAC (R126). -/
def PTP_TIME_FRAC : Nat := 0x3050
/-- PTP_OFS_LAST (R126). -/
def PTP_OFS_LAST : Nat := 0x3054
/-- PTP_MPD (R126). -/
def PTP_MPD : Nat := 0x3058
/-- PTP_DS (R126). -/
def PTP_DS : Nat := 0x305C
/-- PTP_INTERVALS (R126). -/
def PTP_INTERVALS : Nat := 0x3060
/-- PTP_CLASS (R126). -/
def PTP_CLASS : Nat := 0x3064
/-- PTP_GM_ID_LO (R126). -/
def PTP_GM_ID_LO : Nat := 0x3068
/-- PTP_GM_ID_HI (R126). -/
def PTP_GM_ID_HI : Nat := 0x306C
/-- PTP_GM_INFO (R126). -/
def PTP_GM_INFO : Nat := 0x3070
/-- PTP_UTC (R126). -/
def PTP_UTC : Nat := 0x3074
/-- PTP_UNC (R126). -/
def PTP_UNC : Nat := 0x3078
/-- PTP_AON_RATIO (R126). -/
def PTP_AON_RATIO : Nat := 0x307C
/-- PTP_PORTp_CFG (R126). -/
def PTP_PORT_CFG (p : Nat) : Nat := 0x3080 + p * 0x10
/-- PTP_PORTp_ASYM (R126). -/
def PTP_PORT_ASYM (p : Nat) : Nat := 0x3084 + p * 0x10
/-- PTP_PORTp_STAT (R126). -/
def PTP_PORT_STAT (p : Nat) : Nat := 0x3088 + p * 0x10
/-- PTP_PORTp_CNT (R126). -/
def PTP_PORT_CNT (p : Nat) : Nat := 0x308C + p * 0x10
/-- PTP_TT_STAT (R126). -/
def PTP_TT_STAT : Nat := 0x3180
/-- PTP_TT_OFS (R126). -/
def PTP_TT_OFS : Nat := 0x3184
/-- PTP_TT_DELAY (R126). -/
def PTP_TT_DELAY : Nat := 0x3188
/-- HRT_IN_RATE (R366). -/
def HRT_IN_RATE : Nat := 0x4040
/-- HRT_OUT_RATE (R366). -/
def HRT_OUT_RATE : Nat := 0x4044
/-- HRT_USED (R366). -/
def HRT_USED : Nat := 0x4048
/-- HRT_SRC_SEL (R366). -/
def HRT_SRC_SEL : Nat := 0x404C
/-- HRT_SRC_STAT (R366). -/
def HRT_SRC_STAT : Nat := 0x4050
/-- HRT_SRC_OFS (R366). -/
def HRT_SRC_OFS : Nat := 0x4054
/-- HRT_SRC_RATE (R366). -/
def HRT_SRC_RATE : Nat := 0x4058
/-- HRT_SRC_READERS (R366). -/
def HRT_SRC_READERS : Nat := 0x405C
/-- HRT_SRC_DESCi (R366). -/
def HRT_SRC_DESC (i : Nat) : Nat := 0x4060 + i * 0x4
/-- HRT_HDR_ERR (R366). -/
def HRT_HDR_ERR : Nat := 0x4080
/-- HRT_LATE (R366). -/
def HRT_LATE : Nat := 0x4084
/-- TAKE_REQ_DST (R367). -/
def TAKE_REQ_DST : Nat := 0x5040
/-- TAKE_REQ_SRC (R367). -/
def TAKE_REQ_SRC : Nat := 0x5044
/-- TAKE_REQ_F_LO (R367). -/
def TAKE_REQ_F_LO : Nat := 0x5048
/-- TAKE_REQ_F_HI (R367). -/
def TAKE_REQ_F_HI : Nat := 0x504C
/-- TAKE_REQ_OP (R367). -/
def TAKE_REQ_OP : Nat := 0x5050
/-- TAKE_REQ_GO (R367). -/
def TAKE_REQ_GO : Nat := 0x5054
/-- TAKE_REQ_RESULT (R367). -/
def TAKE_REQ_RESULT : Nat := 0x5058
/-- TAKE_REQ_TICKET (R367). -/
def TAKE_REQ_TICKET : Nat := 0x505C
/-- TAKE_SALVO_ADDR_LO (R367). -/
def TAKE_SALVO_ADDR_LO : Nat := 0x5080
/-- TAKE_SALVO_ADDR_HI (R367). -/
def TAKE_SALVO_ADDR_HI : Nat := 0x5084
/-- TAKE_SALVO_COUNT (R367). -/
def TAKE_SALVO_COUNT : Nat := 0x5088
/-- TAKE_SALVO_F_LO (R367). -/
def TAKE_SALVO_F_LO : Nat := 0x508C
/-- TAKE_SALVO_F_HI (R367). -/
def TAKE_SALVO_F_HI : Nat := 0x5090
/-- TAKE_SALVO_GO (R367). -/
def TAKE_SALVO_GO : Nat := 0x5094
/-- TAKE_SALVO_RESULT (R367). -/
def TAKE_SALVO_RESULT : Nat := 0x5098
/-- TAKE_SALVO_TICKET (R367). -/
def TAKE_SALVO_TICKET : Nat := 0x509C
/-- TAKE_CIRCc_CFG (R370). -/
def TAKE_CIRC_CFG (c : Nat) : Nat := 0x6100 + c * 0x8
/-- TAKE_CIRCc_STAT (R370). -/
def TAKE_CIRC_STAT (c : Nat) : Nat := 0x6104 + c * 0x8
/-- FAB_CFG (R407). -/
def FAB_CFG : Nat := 0x7040
/-- FAB_STAT (R407). -/
def FAB_STAT : Nat := 0x7044
/-- FAB_RSV (R407). -/
def FAB_RSV : Nat := 0x7048
/-- FAB_LN_SEL (R407). -/
def FAB_LN_SEL : Nat := 0x704C
/-- FAB_LN_CNT_FRAME (R407). -/
def FAB_LN_CNT_FRAME : Nat := 0x7050
/-- FAB_LN_CNT_BAD (R407). -/
def FAB_LN_CNT_BAD : Nat := 0x7054
/-- FAB_LN_CNT_GAP (R407). -/
def FAB_LN_CNT_GAP : Nat := 0x7058
/-- FAB_LN_CNT_CELLS (R407). -/
def FAB_LN_CNT_CELLS : Nat := 0x705C
/-- FAB_LN_ID_LO (R407). -/
def FAB_LN_ID_LO : Nat := 0x7060
/-- FAB_LN_ID_HI (R407). -/
def FAB_LN_ID_HI : Nat := 0x7064
/-- FAB_LN_LOAD (R407). -/
def FAB_LN_LOAD : Nat := 0x7068
/-- FAB_PLACE_STAT (R407). -/
def FAB_PLACE_STAT : Nat := 0x7070
/-- FAB_PLACE_LAST (R407). -/
def FAB_PLACE_LAST : Nat := 0x7074
/-- FAB_MOVES (R407). -/
def FAB_MOVES : Nat := 0x7078
/-- FAB_PLACE_SEL (R407). -/
def FAB_PLACE_SEL : Nat := 0x707C
/-- FAB_PLACE_USE (R407). -/
def FAB_PLACE_USE : Nat := 0x7080
/-- FAB_CENTRE_SRC (R407). -/
def FAB_CENTRE_SRC : Nat := 0x7084
/-- FAB_ARR_STAT (R407). -/
def FAB_ARR_STAT : Nat := 0x7088
/-- FAB_LNn_STAT (R407). -/
def FAB_LN_STAT (n : Nat) : Nat := 0x7100 + n * 0x8
/-- FAB_LNn_CFG (R407). -/
def FAB_LN_CFG (n : Nat) : Nat := 0x7104 + n * 0x8
/-- HIE_ROLE (R444). -/
def HIE_ROLE : Nat := 0x8040
/-- HIE_EPOCH (R444). -/
def HIE_EPOCH : Nat := 0x8044
/-- HIE_ROLE_CMD (R444). -/
def HIE_ROLE_CMD : Nat := 0x8048
/-- HIE_ROLE_EPOCH (R444). -/
def HIE_ROLE_EPOCH : Nat := 0x804C
/-- HIE_ROLE_RESULT (R444). -/
def HIE_ROLE_RESULT : Nat := 0x8050
/-- HIE_LOSS_TIME (R444). -/
def HIE_LOSS_TIME : Nat := 0x8054
/-- HIE_EVT_FWD (R444). -/
def HIE_EVT_FWD : Nat := 0x8058
/-- HIE_CTRL (R444). -/
def HIE_CTRL : Nat := 0x805C
/-- HIE_MAP_ADDR_LO (R444). -/
def HIE_MAP_ADDR_LO : Nat := 0x8060
/-- HIE_MAP_ADDR_HI (R444). -/
def HIE_MAP_ADDR_HI : Nat := 0x8064
/-- HIE_MAP_CTRL (R444). -/
def HIE_MAP_CTRL : Nat := 0x8068
/-- HIE_MAP_STAT (R444). -/
def HIE_MAP_STAT : Nat := 0x806C
/-- HIE_REQ_DN (R444). -/
def HIE_REQ_DN : Nat := 0x8070
/-- HIE_REQ_SN (R444). -/
def HIE_REQ_SN : Nat := 0x8074
/-- HIE_REQ_F_LO (R444). -/
def HIE_REQ_F_LO : Nat := 0x8078
/-- HIE_REQ_F_HI (R444). -/
def HIE_REQ_F_HI : Nat := 0x807C
/-- HIE_REQ_OP (R444). -/
def HIE_REQ_OP : Nat := 0x8080
/-- HIE_REQ_GO (R444). -/
def HIE_REQ_GO : Nat := 0x8084
/-- HIE_REQ_RESULT (R444). -/
def HIE_REQ_RESULT : Nat := 0x8088
/-- HIE_REQ_TICKET (R444). -/
def HIE_REQ_TICKET : Nat := 0x808C
/-- HIE_SALVO_ADDR_LO (R444). -/
def HIE_SALVO_ADDR_LO : Nat := 0x8090
/-- HIE_SALVO_ADDR_HI (R444). -/
def HIE_SALVO_ADDR_HI : Nat := 0x8094
/-- HIE_SALVO_COUNT (R444). -/
def HIE_SALVO_COUNT : Nat := 0x8098
/-- HIE_SALVO_F_LO (R444). -/
def HIE_SALVO_F_LO : Nat := 0x809C
/-- HIE_SALVO_F_HI (R444). -/
def HIE_SALVO_F_HI : Nat := 0x80A0
/-- HIE_SALVO_GO (R444). -/
def HIE_SALVO_GO : Nat := 0x80A4
/-- HIE_SALVO_RESULT (R444). -/
def HIE_SALVO_RESULT : Nat := 0x80A8
/-- HIE_SALVO_TICKET (R444). -/
def HIE_SALVO_TICKET : Nat := 0x80AC
/-- HIE_PEER_SEL (R444). -/
def HIE_PEER_SEL : Nat := 0x80C0
/-- HIE_PEER_STAT (R444). -/
def HIE_PEER_STAT : Nat := 0x80C4
/-- HIE_CNT_AUTH (R444). -/
def HIE_CNT_AUTH : Nat := 0x80C8
/-- HIE_CNT_NAK (R444). -/
def HIE_CNT_NAK : Nat := 0x80CC
/-- HIE_CNT_RETX (R444). -/
def HIE_CNT_RETX : Nat := 0x80D0
/-- HIE_CNT_FWD (R444). -/
def HIE_CNT_FWD : Nat := 0x80D4
/-- FLW_ENG_HOLD (R322). -/
def FLW_ENG_HOLD : Nat := 0x9040
/-- FLW_ENG_CNTi (R322). -/
def FLW_ENG_CNT (i : Nat) : Nat := 0x9044 + i * 0x4
/-- FLW_IFADDRn (R322). -/
def FLW_IFADDR (n : Nat) : Nat := 0x9100 + n * 0x4
/-- FS_POOL_BASE (R477). -/
def FS_POOL_BASE : Nat := 0xA040
/-- FS_POOL_SIZE (R477). -/
def FS_POOL_SIZE : Nat := 0xA044
/-- FS_POOL_USED (R477). -/
def FS_POOL_USED : Nat := 0xA048
/-- FS_BW_USED (R477). -/
def FS_BW_USED : Nat := 0xA04C
/-- FS_BW_LIMIT (R477). -/
def FS_BW_LIMIT : Nat := 0xA050
/-- FS_STORES (R477). -/
def FS_STORES : Nat := 0xA054
/-- FS_SWG_FREE (R477). -/
def FS_SWG_FREE : Nat := 0xA058
/-- AUD_POOL_IN (R535). -/
def AUD_POOL_IN : Nat := 0xB040
/-- AUD_POOL_OUT (R535). -/
def AUD_POOL_OUT : Nat := 0xB044
/-- AUD_POOL_USED (R535). -/
def AUD_POOL_USED : Nat := 0xB048
/-- AUD_DLY_AREA (R535). -/
def AUD_DLY_AREA : Nat := 0xB04C
/-- AUD_DLY_USED (R535). -/
def AUD_DLY_USED : Nat := 0xB050
/-- AUD_IN_SEL (R535). -/
def AUD_IN_SEL : Nat := 0xB054
/-- AUD_IN_STAT (R535). -/
def AUD_IN_STAT : Nat := 0xB058
/-- AUD_IN_PEAK (R535). -/
def AUD_IN_PEAK : Nat := 0xB05C
/-- AUD_GATED (R535). -/
def AUD_GATED : Nat := 0xB060
/-- AUD_APTp_SIL (R535). -/
def AUD_APT_SIL (p : Nat) : Nat := 0xB080 + p * 0x4
/-- AUD_APTp_SSTAT (R535). -/
def AUD_APT_SSTAT (p : Nat) : Nat := 0xB0C0 + p * 0x4
/-- DDR_CFG (R584). -/
def DDR_CFG : Nat := 0xC040
/-- DDR_STAT (R584). -/
def DDR_STAT : Nat := 0xC044
/-- DDR_PEAK (R584). -/
def DDR_PEAK : Nat := 0xC048
/-- DDR_SCRUB (R584). -/
def DDR_SCRUB : Nat := 0xC04C
/-- DDR_TRAIN (R584). -/
def DDR_TRAIN : Nat := 0xC050
/-- DDR_PSEL (R584). -/
def DDR_PSEL : Nat := 0xC054
/-- DDR_PSTAT (R584). -/
def DDR_PSTAT : Nat := 0xC058
/-- DDR_Pp_CFG (R584). -/
def DDR_P_CFG (p : Nat) : Nat := 0xC080 + p * 0x4
/-- DDR_Pp_LATE (R584). -/
def DDR_P_LATE (p : Nat) : Nat := 0xC0E0 + p * 0x4
/-- XBM_ERR_CNT (R586). -/
def XBM_ERR_CNT : Nat := 0xD040
/-- XBM_ERR_LAST (R586). -/
def XBM_ERR_LAST : Nat := 0xD044
/-- XBM_ERR_ADDR_LO (R586). -/
def XBM_ERR_ADDR_LO : Nat := 0xD048
/-- XBM_ERR_ADDR_HI (R586). -/
def XBM_ERR_ADDR_HI : Nat := 0xD04C
/-- XBM_RST_CNT (R586). -/
def XBM_RST_CNT : Nat := 0xD050
/-- XBM_RST_LAST (R586). -/
def XBM_RST_LAST : Nat := 0xD054
/-- XBM_RST_ADDR_LO (R586). -/
def XBM_RST_ADDR_LO : Nat := 0xD058
/-- XBM_RST_ADDR_HI (R586). -/
def XBM_RST_ADDR_HI : Nat := 0xD05C
/-- XBM_TO_CNT (R586). -/
def XBM_TO_CNT : Nat := 0xD060
/-- XBM_WAIT_SEL (R586). -/
def XBM_WAIT_SEL : Nat := 0xD064
/-- XBM_WAIT_MAX (R586). -/
def XBM_WAIT_MAX : Nat := 0xD068
/-- XBM_Tt_PRI_LO (R586). -/
def XBM_T_PRI_LO (t : Nat) : Nat := 0xD100 + t * 0x8
/-- XBM_Tt_PRI_HI (R586). -/
def XBM_T_PRI_HI (t : Nat) : Nat := 0xD104 + t * 0x8
/-- TMP_STAT (R619). -/
def TMP_STAT : Nat := 0xE040
/-- TMP_JSEQ_LO (R619). -/
def TMP_JSEQ_LO : Nat := 0xE044
/-- TMP_JSEQ_HI (R619). -/
def TMP_JSEQ_HI : Nat := 0xE048
/-- TMP_CKPT_SEQ (R619). -/
def TMP_CKPT_SEQ : Nat := 0xE04C
/-- TMP_CKPT_CTRL (R619). -/
def TMP_CKPT_CTRL : Nat := 0xE050
/-- TMP_RESTORE (R619). -/
def TMP_RESTORE : Nat := 0xE054
/-- TMP_REPLAY (R619). -/
def TMP_REPLAY : Nat := 0xE058
/-- TMP_RATE (R619). -/
def TMP_RATE : Nat := 0xE05C
/-- TMP_SCRUB (R619). -/
def TMP_SCRUB : Nat := 0xE060
/-- TMP_SCRUB_POS (R619). -/
def TMP_SCRUB_POS : Nat := 0xE064
/-- TMP_CE (R619). -/
def TMP_CE : Nat := 0xE068
/-- TMP_UE (R619). -/
def TMP_UE : Nat := 0xE06C
/-- TMP_SPARE (R619). -/
def TMP_SPARE : Nat := 0xE070
/-- TMP_WEAR (R619). -/
def TMP_WEAR : Nat := 0xE074
/-- TMP_HOLDUP (R619). -/
def TMP_HOLDUP : Nat := 0xE078
/-- TMP_SEAL_TIME (R619). -/
def TMP_SEAL_TIME : Nat := 0xE07C
/-- TMP_EVT_DROP (R619). -/
def TMP_EVT_DROP : Nat := 0xE080
/-- TMP_LIFEi (R619). -/
def TMP_LIFE (i : Nat) : Nat := 0xE090 + i * 0x4
/-- CRU_STAT (R620). -/
def CRU_STAT : Nat := 0xF040
/-- CRU_CAP (R620). -/
def CRU_CAP : Nat := 0xF044
/-- CRU_MIRROR_CTRL (R620). -/
def CRU_MIRROR_CTRL : Nat := 0xF048
/-- CRU_MIRROR_STAT (R620). -/
def CRU_MIRROR_STAT : Nat := 0xF04C
/-- CRU_LIB_CTRL (R620). -/
def CRU_LIB_CTRL : Nat := 0xF050
/-- CRU_LIB_NUM (R620). -/
def CRU_LIB_NUM : Nat := 0xF054
/-- CRU_LIB_ADDR_LO (R620). -/
def CRU_LIB_ADDR_LO : Nat := 0xF058
/-- CRU_LIB_ADDR_HI (R620). -/
def CRU_LIB_ADDR_HI : Nat := 0xF05C
/-- CRU_LIB_RESULT (R620). -/
def CRU_LIB_RESULT : Nat := 0xF060
/-- CRU_LIB_COUNT (R620). -/
def CRU_LIB_COUNT : Nat := 0xF064
/-- CRU_LIB_FREE (R620). -/
def CRU_LIB_FREE : Nat := 0xF068
/-- CRU_FORECAST (R620). -/
def CRU_FORECAST : Nat := 0xF06C
/-- CRU_WARN (R620). -/
def CRU_WARN : Nat := 0xF070
/-- CRU_WEAR (R620). -/
def CRU_WEAR : Nat := 0xF074
/-- CRU_BLOCKS (R620). -/
def CRU_BLOCKS : Nat := 0xF078
/-- CRU_CORR (R620). -/
def CRU_CORR : Nat := 0xF07C
/-- CRU_UNCORR (R620). -/
def CRU_UNCORR : Nat := 0xF080
/-- CRU_REFRESHED (R620). -/
def CRU_REFRESHED : Nat := 0xF084
/-- CRU_REFRESH_CFG (R620). -/
def CRU_REFRESH_CFG : Nat := 0xF088
/-- TWN_CFG (R658). -/
def TWN_CFG : Nat := 0x10040
/-- TWN_STAT (R658). -/
def TWN_STAT : Nat := 0x10044
/-- TWN_CMD (R658). -/
def TWN_CMD : Nat := 0x10048
/-- TWN_CMD_RESULT (R658). -/
def TWN_CMD_RESULT : Nat := 0x1004C
/-- TWN_WDOG (R658). -/
def TWN_WDOG : Nat := 0x10050
/-- TWN_WDOG_KICK (R658). -/
def TWN_WDOG_KICK : Nat := 0x10054
/-- TWN_EPOCH_TX (R658). -/
def TWN_EPOCH_TX : Nat := 0x10058
/-- TWN_EPOCH_RX (R658). -/
def TWN_EPOCH_RX : Nat := 0x1005C
/-- TWN_LAG (R658). -/
def TWN_LAG : Nat := 0x10060
/-- TWN_HB_MISS (R658). -/
def TWN_HB_MISS : Nat := 0x10064
/-- TWN_SIG_CMP (R658). -/
def TWN_SIG_CMP : Nat := 0x10068
/-- TWN_SIG_BAD (R658). -/
def TWN_SIG_BAD : Nat := 0x1006C
/-- TWN_SIG_LAST (R658). -/
def TWN_SIG_LAST : Nat := 0x10070
/-- TWN_HOLD_REMAIN (R658). -/
def TWN_HOLD_REMAIN : Nat := 0x10074
/-- TWN_LAST_TAKEOVER (R658). -/
def TWN_LAST_TAKEOVER : Nat := 0x10078
/-- TWN_COUNTS (R658). -/
def TWN_COUNTS : Nat := 0x1007C
/-- TWN_STBY_WR (R658). -/
def TWN_STBY_WR : Nat := 0x10080
/-- TWN_AUTH_FAIL (R658). -/
def TWN_AUTH_FAIL : Nat := 0x10084
/-- TWN_HEALTHi (R658). -/
def TWN_HEALTH (i : Nat) : Nat := 0x10100 + i * 0x4
/-- TWN_PHEALTHi (R658). -/
def TWN_PHEALTH (i : Nat) : Nat := 0x10140 + i * 0x4
/-- PWR_CMD (R684). -/
def PWR_CMD : Nat := 0x11040
/-- PWR_CMD_RESULT (R684). -/
def PWR_CMD_RESULT : Nat := 0x11044
/-- PWR_STATE (R684). -/
def PWR_STATE : Nat := 0x11048
/-- PWR_CFG (R684). -/
def PWR_CFG : Nat := 0x1104C
/-- PWR_SLEEP_Q_LO (R684). -/
def PWR_SLEEP_Q_LO : Nat := 0x11050
/-- PWR_SLEEP_Q_HI (R684). -/
def PWR_SLEEP_Q_HI : Nat := 0x11054
/-- PWR_OP_CMD (R684). -/
def PWR_OP_CMD : Nat := 0x11058
/-- PWR_OP_STAT (R684). -/
def PWR_OP_STAT : Nat := 0x1105C
/-- PWR_WAKE_TIMER (R684). -/
def PWR_WAKE_TIMER : Nat := 0x11060
/-- PWR_LAST_WAKE (R684). -/
def PWR_LAST_WAKE : Nat := 0x11064
/-- PWR_WAKE_TIME_LO (R684). -/
def PWR_WAKE_TIME_LO : Nat := 0x11068
/-- PWR_WAKE_TIME_HI (R684). -/
def PWR_WAKE_TIME_HI : Nat := 0x1106C
/-- PWR_REFUSE_CNT (R684). -/
def PWR_REFUSE_CNT : Nat := 0x11070
/-- PWR_REFUSE_LAST (R684). -/
def PWR_REFUSE_LAST : Nat := 0x11074
/-- PWR_PMB_CFG (R684). -/
def PWR_PMB_CFG : Nat := 0x11078
/-- PWR_PMB_STAT (R684). -/
def PWR_PMB_STAT : Nat := 0x1107C
/-- PWR_AGE (R684). -/
def PWR_AGE : Nat := 0x11080
/-- PWR_AGE_THR (R684). -/
def PWR_AGE_THR : Nat := 0x11084
/-- PWR_TJ (R684). -/
def PWR_TJ : Nat := 0x11088
/-- PWR_SAVE_STAT (R684). -/
def PWR_SAVE_STAT : Nat := 0x1108C
/-- HAL_STAT (R728). -/
def HAL_STAT : Nat := 0x12040
/-- HAL_SLOTS (R728). -/
def HAL_SLOTS : Nat := 0x12044
/-- HAL_MEASi (R728). -/
def HAL_MEAS (i : Nat) : Nat := 0x12048 + i * 0x4
/-- HAL_CMD (R728). -/
def HAL_CMD : Nat := 0x12080
/-- HAL_CMD_ADDR_LO (R728). -/
def HAL_CMD_ADDR_LO : Nat := 0x12084
/-- HAL_CMD_ADDR_HI (R728). -/
def HAL_CMD_ADDR_HI : Nat := 0x12088
/-- HAL_CMD_RESULT (R728). -/
def HAL_CMD_RESULT : Nat := 0x1208C
/-- HAL_AUDIT_WR_LO (R728). -/
def HAL_AUDIT_WR_LO : Nat := 0x12090
/-- HAL_AUDIT_WR_HI (R728). -/
def HAL_AUDIT_WR_HI : Nat := 0x12094
/-- HAL_ST_CNT (R728). -/
def HAL_ST_CNT : Nat := 0x12098
/-- HAL_OLD_KEY (R728). -/
def HAL_OLD_KEY : Nat := 0x1209C
/-- HAL_IDENT (R728). -/
def HAL_IDENT : Nat := 0x120A0
/-- UPD_STAT (R729). -/
def UPD_STAT : Nat := 0x13040
/-- UPD_PKG_ID (R729). -/
def UPD_PKG_ID : Nat := 0x13044
/-- UPD_RUN_VER (R729). -/
def UPD_RUN_VER : Nat := 0x13048
/-- UPD_NEW_VER (R729). -/
def UPD_NEW_VER : Nat := 0x1304C
/-- UPD_CHUNK_ADDR_LO (R729). -/
def UPD_CHUNK_ADDR_LO : Nat := 0x13050
/-- UPD_CHUNK_ADDR_HI (R729). -/
def UPD_CHUNK_ADDR_HI : Nat := 0x13054
/-- UPD_CHUNK_IDX (R729). -/
def UPD_CHUNK_IDX : Nat := 0x13058
/-- UPD_CHUNK_GO (R729). -/
def UPD_CHUNK_GO : Nat := 0x1305C
/-- UPD_CHUNK_RESULT (R729). -/
def UPD_CHUNK_RESULT : Nat := 0x13060
/-- UPD_BITMAP_CNT (R729). -/
def UPD_BITMAP_CNT : Nat := 0x13064
/-- UPD_CHUNKS (R729). -/
def UPD_CHUNKS : Nat := 0x13068
/-- UPD_MISS_NEXT (R729). -/
def UPD_MISS_NEXT : Nat := 0x1306C
/-- UPD_CMD (R729). -/
def UPD_CMD : Nat := 0x13070
/-- UPD_CMD_RESULT (R729). -/
def UPD_CMD_RESULT : Nat := 0x13074
/-- UPD_CFG (R729). -/
def UPD_CFG : Nat := 0x13078
/-- UPD_LEAD (R729). -/
def UPD_LEAD : Nat := 0x1307C
/-- UPD_COORD_F_LO (R729). -/
def UPD_COORD_F_LO : Nat := 0x13080
/-- UPD_COORD_F_HI (R729). -/
def UPD_COORD_F_HI : Nat := 0x13084
/-- UPD_PROB_REMAIN (R729). -/
def UPD_PROB_REMAIN : Nat := 0x13088
/-- UPD_SLOTS (R729). -/
def UPD_SLOTS : Nat := 0x1308C
/-- UPD_POS_SEL (R729). -/
def UPD_POS_SEL : Nat := 0x13090
/-- UPD_POS_STAT (R729). -/
def UPD_POS_STAT : Nat := 0x13094
/-- DDR_CH_STAT (R585). -/
def DDR_CH_STAT (i : Nat) : Nat := 0x14040 + i * 0x1000
/-- DDR_CH_PD (R585). -/
def DDR_CH_PD (i : Nat) : Nat := 0x14044 + i * 0x1000
/-- DDR_CH_CE (R585). -/
def DDR_CH_CE (i : Nat) : Nat := 0x14048 + i * 0x1000
/-- DDR_CH_UE (R585). -/
def DDR_CH_UE (i : Nat) : Nat := 0x1404C + i * 0x1000
/-- DDR_CH_ERR_ADDR_LO (R585). -/
def DDR_CH_ERR_ADDR_LO (i : Nat) : Nat := 0x14050 + i * 0x1000
/-- DDR_CH_ERR_ADDR_HI (R585). -/
def DDR_CH_ERR_ADDR_HI (i : Nat) : Nat := 0x14054 + i * 0x1000
/-- DDR_CH_SCRUB_POS (R585). -/
def DDR_CH_SCRUB_POS (i : Nat) : Nat := 0x14058 + i * 0x1000
/-- DDR_CH_TRAIN_CNT (R585). -/
def DDR_CH_TRAIN_CNT (i : Nat) : Nat := 0x1405C + i * 0x1000
/-- DDR_CH_PD_CNT (R585). -/
def DDR_CH_PD_CNT (i : Nat) : Nat := 0x14060 + i * 0x1000
/-- DDR_CH_UTIL (R585). -/
def DDR_CH_UTIL (i : Nat) : Nat := 0x14064 + i * 0x1000
/-- AUD_SILi_CFG (R537). -/
def AUD_SIL_CFG (i j : Nat) : Nat := 0x1C100 + i * 0x1000 + j * 0x8
/-- AUD_SILi_STAT (R537). -/
def AUD_SIL_STAT (i j : Nat) : Nat := 0x1C104 + i * 0x1000 + j * 0x8
/-- SWG_CFG (R478). -/
def SWG_CFG (i : Nat) : Nat := 0x20040 + i * 0x1000
/-- SWG_BIND (R478). -/
def SWG_BIND (i : Nat) : Nat := 0x20044 + i * 0x1000
/-- SWG_IN_SIZE (R478). -/
def SWG_IN_SIZE (i : Nat) : Nat := 0x20048 + i * 0x1000
/-- SWG_OUT_SIZE (R478). -/
def SWG_OUT_SIZE (i : Nat) : Nat := 0x2004C + i * 0x1000
/-- SWG_STAT (R478). -/
def SWG_STAT (i : Nat) : Nat := 0x20050 + i * 0x1000
/-- SWG_LBUF (R478). -/
def SWG_LBUF (i : Nat) : Nat := 0x20054 + i * 0x1000
/-- SWG_RATE (R478). -/
def SWG_RATE (i : Nat) : Nat := 0x20058 + i * 0x1000
/-- FIL_OUT_CFG (R504). -/
def FIL_OUT_CFG (i : Nat) : Nat := 0x40040 + i * 0x1000
/-- FIL_OUT_COLOR (R504). -/
def FIL_OUT_COLOR (i : Nat) : Nat := 0x40044 + i * 0x1000
/-- FIL_OUT_SWLINE (R504). -/
def FIL_OUT_SWLINE (i : Nat) : Nat := 0x40048 + i * 0x1000
/-- FIL_OUT_BG (R504). -/
def FIL_OUT_BG (i : Nat) : Nat := 0x4004C + i * 0x1000
/-- FIL_OUT_BIND (R504). -/
def FIL_OUT_BIND (i : Nat) : Nat := 0x40050 + i * 0x1000
/-- FIL_OUT_STAT (R504). -/
def FIL_OUT_STAT (i : Nat) : Nat := 0x40054 + i * 0x1000
/-- FIL_LATE_CNT (R504). -/
def FIL_LATE_CNT (i : Nat) : Nat := 0x40058 + i * 0x1000
/-- FIL_BW (R504). -/
def FIL_BW (i : Nat) : Nat := 0x4005C + i * 0x1000
/-- FIL_EXT (R504). -/
def FIL_EXT (i : Nat) : Nat := 0x40060 + i * 0x1000
/-- FIL_LBUF (R504). -/
def FIL_LBUF (i : Nat) : Nat := 0x40064 + i * 0x1000
/-- FIL_Ll_CFG (R504). -/
def FIL_L_CFG (i l : Nat) : Nat := 0x40100 + i * 0x1000 + l * 0x40
/-- FIL_Ll_SURF (R504). -/
def FIL_L_SURF (i l : Nat) : Nat := 0x40104 + i * 0x1000 + l * 0x40
/-- FIL_Ll_POS (R504). -/
def FIL_L_POS (i l : Nat) : Nat := 0x40108 + i * 0x1000 + l * 0x40
/-- FIL_Ll_SIZE (R504). -/
def FIL_L_SIZE (i l : Nat) : Nat := 0x4010C + i * 0x1000 + l * 0x40
/-- FIL_Ll_ALPHA (R504). -/
def FIL_L_ALPHA (i l : Nat) : Nat := 0x40110 + i * 0x1000 + l * 0x40
/-- FIL_Ll_KEY0 (R504). -/
def FIL_L_KEY0 (i l : Nat) : Nat := 0x40114 + i * 0x1000 + l * 0x40
/-- FIL_Ll_KEY1 (R504). -/
def FIL_L_KEY1 (i l : Nat) : Nat := 0x40118 + i * 0x1000 + l * 0x40
/-- FIL_Ll_STAT (R504). -/
def FIL_L_STAT (i l : Nat) : Nat := 0x4011C + i * 0x1000 + l * 0x40
/-- APT_CFG (R557). -/
def APT_CFG (i : Nat) : Nat := 0x50040 + i * 0x1000
/-- APT_LEAD (R557). -/
def APT_LEAD (i : Nat) : Nat := 0x50044 + i * 0x1000
/-- APT_RX_BASE (R557). -/
def APT_RX_BASE (i : Nat) : Nat := 0x50048 + i * 0x1000
/-- APT_TX_BASE (R557). -/
def APT_TX_BASE (i : Nat) : Nat := 0x5004C + i * 0x1000
/-- APT_RX_MASK (R557). -/
def APT_RX_MASK (i : Nat) : Nat := 0x50050 + i * 0x1000
/-- APT_TX_MASK (R557). -/
def APT_TX_MASK (i : Nat) : Nat := 0x50054 + i * 0x1000
/-- APT_MIR_MASK (R557). -/
def APT_MIR_MASK (i : Nat) : Nat := 0x50058 + i * 0x1000
/-- APT_MASK_APPLIED (R557). -/
def APT_MASK_APPLIED (i : Nat) : Nat := 0x5005C + i * 0x1000
/-- APT_RATE (R557). -/
def APT_RATE (i : Nat) : Nat := 0x50060 + i * 0x1000
/-- APT_RATE_LO (R557). -/
def APT_RATE_LO (i : Nat) : Nat := 0x50064 + i * 0x1000
/-- APT_RATE_HI (R557). -/
def APT_RATE_HI (i : Nat) : Nat := 0x50068 + i * 0x1000
/-- APT_STAT (R557). -/
def APT_STAT (i : Nat) : Nat := 0x5006C + i * 0x1000
/-- APT_SLIP (R557). -/
def APT_SLIP (i : Nat) : Nat := 0x50070 + i * 0x1000
/-- APT_MIR_CFG (R557). -/
def APT_MIR_CFG (i : Nat) : Nat := 0x50074 + i * 0x1000
/-- APT_MIR_BASE_LO (R557). -/
def APT_MIR_BASE_LO (i : Nat) : Nat := 0x50078 + i * 0x1000
/-- APT_MIR_BASE_HI (R557). -/
def APT_MIR_BASE_HI (i : Nat) : Nat := 0x5007C + i * 0x1000
/-- APT_MIR_FRAMES (R557). -/
def APT_MIR_FRAMES (i : Nat) : Nat := 0x50080 + i * 0x1000
/-- APT_MIR_DEV (R557). -/
def APT_MIR_DEV (i : Nat) : Nat := 0x50084 + i * 0x1000
/-- APT_MIR_HOST (R557). -/
def APT_MIR_HOST (i : Nat) : Nat := 0x50088 + i * 0x1000
/-- APT_MIR_DROP (R557). -/
def APT_MIR_DROP (i : Nat) : Nat := 0x5008C + i * 0x1000
/-- APT_MIR_IRQ (R557). -/
def APT_MIR_IRQ (i : Nat) : Nat := 0x50090 + i * 0x1000
/-- MAC_RING_RX_CFG (R286). -/
def MAC_RING_RX_CFG (i : Nat) : Nat := 0x60040 + i * 0x1000
/-- MAC_RING_RX_COUNT (R286). -/
def MAC_RING_RX_COUNT (i : Nat) : Nat := 0x60044 + i * 0x1000
/-- MAC_RING_RX_BUF (R286). -/
def MAC_RING_RX_BUF (i : Nat) : Nat := 0x60048 + i * 0x1000
/-- MAC_RING_RX_BASE_LO (R286). -/
def MAC_RING_RX_BASE_LO (i : Nat) : Nat := 0x6004C + i * 0x1000
/-- MAC_RING_RX_BASE_HI (R286). -/
def MAC_RING_RX_BASE_HI (i : Nat) : Nat := 0x60050 + i * 0x1000
/-- MAC_RING_RX_HEAD (R286). -/
def MAC_RING_RX_HEAD (i : Nat) : Nat := 0x60054 + i * 0x1000
/-- MAC_RING_RX_TAIL (R286). -/
def MAC_RING_RX_TAIL (i : Nat) : Nat := 0x60058 + i * 0x1000
/-- MAC_RING_RX_NOBUF (R286). -/
def MAC_RING_RX_NOBUF (i : Nat) : Nat := 0x6005C + i * 0x1000
/-- MAC_RING_RX_TRUNC (R286). -/
def MAC_RING_RX_TRUNC (i : Nat) : Nat := 0x60060 + i * 0x1000
/-- MAC_RING_RX_IRQ_MOD (R286). -/
def MAC_RING_RX_IRQ_MOD (i : Nat) : Nat := 0x60064 + i * 0x1000
/-- MAC_RING_TX_CFG (R286). -/
def MAC_RING_TX_CFG (i : Nat) : Nat := 0x60080 + i * 0x1000
/-- MAC_RING_TX_COUNT (R286). -/
def MAC_RING_TX_COUNT (i : Nat) : Nat := 0x60084 + i * 0x1000
/-- MAC_RING_TX_BASE_LO (R286). -/
def MAC_RING_TX_BASE_LO (i : Nat) : Nat := 0x60088 + i * 0x1000
/-- MAC_RING_TX_BASE_HI (R286). -/
def MAC_RING_TX_BASE_HI (i : Nat) : Nat := 0x6008C + i * 0x1000
/-- MAC_RING_TX_HEAD (R286). -/
def MAC_RING_TX_HEAD (i : Nat) : Nat := 0x60090 + i * 0x1000
/-- MAC_RING_TX_TAIL (R286). -/
def MAC_RING_TX_TAIL (i : Nat) : Nat := 0x60094 + i * 0x1000
/-- MAC_RING_TX_ERR_CNT (R286). -/
def MAC_RING_TX_ERR_CNT (i : Nat) : Nat := 0x60098 + i * 0x1000
/-- LN_CFG (R212). -/
def LN_CFG (i : Nat) : Nat := 0x100040 + i * 0x1000
/-- LN_STAT (R212). -/
def LN_STAT (i : Nat) : Nat := 0x100044 + i * 0x1000
/-- LN_CTLE (R212). -/
def LN_CTLE (i : Nat) : Nat := 0x100048 + i * 0x1000
/-- LN_TX_DRV (R212). -/
def LN_TX_DRV (i : Nat) : Nat := 0x10004C + i * 0x1000
/-- LN_SDI_HUNT (R212). -/
def LN_SDI_HUNT (i : Nat) : Nat := 0x100050 + i * 0x1000
/-- LN_RAW_STAT (R212). -/
def LN_RAW_STAT (i : Nat) : Nat := 0x100054 + i * 0x1000
/-- LN_LOCK_CNT (R212). -/
def LN_LOCK_CNT (i : Nat) : Nat := 0x100058 + i * 0x1000
/-- LN_PRBS_CTRL (R212). -/
def LN_PRBS_CTRL (i : Nat) : Nat := 0x100060 + i * 0x1000
/-- LN_PRBS_STAT (R212). -/
def LN_PRBS_STAT (i : Nat) : Nat := 0x100064 + i * 0x1000
/-- LN_PRBS_ERR_LO (R212). -/
def LN_PRBS_ERR_LO (i : Nat) : Nat := 0x100068 + i * 0x1000
/-- LN_PRBS_ERR_HI (R212). -/
def LN_PRBS_ERR_HI (i : Nat) : Nat := 0x10006C + i * 0x1000
/-- LN_PRBS_BITS_LO (R212). -/
def LN_PRBS_BITS_LO (i : Nat) : Nat := 0x100070 + i * 0x1000
/-- LN_PRBS_BITS_HI (R212). -/
def LN_PRBS_BITS_HI (i : Nat) : Nat := 0x100074 + i * 0x1000
/-- LN_PRBS_CLR (R212). -/
def LN_PRBS_CLR (i : Nat) : Nat := 0x100078 + i * 0x1000
/-- LN_QUAD_CFG (R212). -/
def LN_QUAD_CFG (i : Nat) : Nat := 0x100080 + i * 0x1000
/-- LN_QUAD_STAT (R212). -/
def LN_QUAD_STAT (i : Nat) : Nat := 0x100084 + i * 0x1000
/-- LN_STEER (R212). -/
def LN_STEER (i : Nat) : Nat := 0x100088 + i * 0x1000
/-- SDI_RX_CFG (R248). -/
def SDI_RX_CFG (i : Nat) : Nat := 0x200040 + i * 0x1000
/-- SDI_RX_STAT (R248). -/
def SDI_RX_STAT (i : Nat) : Nat := 0x200044 + i * 0x1000
/-- SDI_RX_PID (R248). -/
def SDI_RX_PID (i : Nat) : Nat := 0x200048 + i * 0x1000
/-- SDI_RX_SRC (R248). -/
def SDI_RX_SRC (i : Nat) : Nat := 0x20004C + i * 0x1000
/-- SDI_RX_AUD (R248). -/
def SDI_RX_AUD (i : Nat) : Nat := 0x200050 + i * 0x1000
/-- SDI_RX_CRC_ERR (R248). -/
def SDI_RX_CRC_ERR (i : Nat) : Nat := 0x200054 + i * 0x1000
/-- SDI_RX_LN_ERR (R248). -/
def SDI_RX_LN_ERR (i : Nat) : Nat := 0x200058 + i * 0x1000
/-- SDI_RX_EVT_CNT (R248). -/
def SDI_RX_EVT_CNT (i : Nat) : Nat := 0x20005C + i * 0x1000
/-- SDI_RX_DESCi (R248). -/
def SDI_RX_DESC (i j : Nat) : Nat := 0x200060 + i * 0x1000 + j * 0x4
/-- SDI_GROUP (R248). -/
def SDI_GROUP (i : Nat) : Nat := 0x200080 + i * 0x1000
/-- SDI_GROUP_STAT (R248). -/
def SDI_GROUP_STAT (i : Nat) : Nat := 0x200084 + i * 0x1000
/-- SDI_TX_CFG (R248). -/
def SDI_TX_CFG (i : Nat) : Nat := 0x2000C0 + i * 0x1000
/-- SDI_TX_AUD (R248). -/
def SDI_TX_AUD (i : Nat) : Nat := 0x2000C4 + i * 0x1000
/-- SDI_TX_STAT (R248). -/
def SDI_TX_STAT (i : Nat) : Nat := 0x2000C8 + i * 0x1000
/-- SDI_TX_ANC_DROP (R248). -/
def SDI_TX_ANC_DROP (i : Nat) : Nat := 0x2000CC + i * 0x1000
/-- SDI_TX_GROUP (R248). -/
def SDI_TX_GROUP (i : Nat) : Nat := 0x2000D0 + i * 0x1000
/-- MAC_TSQ_STAT (R129). -/
def MAC_TSQ_STAT (i : Nat) : Nat := 0x300400 + i * 0x1000
/-- MAC_TSQ_POP (R129). -/
def MAC_TSQ_POP (i : Nat) : Nat := 0x300404 + i * 0x1000
/-- MAC_TSQ_TAG (R129). -/
def MAC_TSQ_TAG (i : Nat) : Nat := 0x300408 + i * 0x1000
/-- MAC_TSQ_NS_LO (R129). -/
def MAC_TSQ_NS_LO (i : Nat) : Nat := 0x30040C + i * 0x1000
/-- MAC_TSQ_NS_HI (R129). -/
def MAC_TSQ_NS_HI (i : Nat) : Nat := 0x300410 + i * 0x1000
/-- MAC_TSQ_LOST (R129). -/
def MAC_TSQ_LOST (i : Nat) : Nat := 0x300414 + i * 0x1000
/-- MAC_CFG (R283). -/
def MAC_CFG (i : Nat) : Nat := 0x300040 + i * 0x1000
/-- MAC_STAT (R283). -/
def MAC_STAT (i : Nat) : Nat := 0x300044 + i * 0x1000
/-- MAC_ADDR_LO (R283). -/
def MAC_ADDR_LO (i : Nat) : Nat := 0x300048 + i * 0x1000
/-- MAC_ADDR_HI (R283). -/
def MAC_ADDR_HI (i : Nat) : Nat := 0x30004C + i * 0x1000
/-- MAC_MAX_FRAME (R283). -/
def MAC_MAX_FRAME (i : Nat) : Nat := 0x300050 + i * 0x1000
/-- MAC_RX_DEF (R283). -/
def MAC_RX_DEF (i : Nat) : Nat := 0x300054 + i * 0x1000
/-- MAC_LPI_CFG (R283). -/
def MAC_LPI_CFG (i : Nat) : Nat := 0x300058 + i * 0x1000
/-- MAC_LPI_STAT (R283). -/
def MAC_LPI_STAT (i : Nat) : Nat := 0x30005C + i * 0x1000
/-- MAC_FEC_CORR (R283). -/
def MAC_FEC_CORR (i : Nat) : Nat := 0x300060 + i * 0x1000
/-- MAC_FEC_UNCORR (R283). -/
def MAC_FEC_UNCORR (i : Nat) : Nat := 0x300064 + i * 0x1000
/-- MAC_PAUSE_LEFT (R283). -/
def MAC_PAUSE_LEFT (i : Nat) : Nat := 0x300068 + i * 0x1000
/-- MAC_CNTi (R283). -/
def MAC_CNT (i j : Nat) : Nat := 0x300080 + i * 0x1000 + j * 0x4
/-- MAC_FILTe_MATCH (R285). -/
def MAC_FILT_MATCH (i e : Nat) : Nat := 0x400040 + i * 0x1000 + e * 0x8
/-- MAC_FILTe_ACT (R285). -/
def MAC_FILT_ACT (i e : Nat) : Nat := 0x400044 + i * 0x1000 + e * 0x8
/-- MAC_FILTe_HITS (R285). -/
def MAC_FILT_HITS (i e : Nat) : Nat := 0x400440 + i * 0x1000 + e * 0x4
/-- TAKE_DSTe_CFG (R368). -/
def TAKE_DST_CFG (k : Nat) : Nat := 0x600100 + (k / 16) * 0x1000 + (k % 16) * 0x60
/-- TAKE_DSTe_SWLINE (R368). -/
def TAKE_DST_SWLINE (k : Nat) : Nat := 0x600104 + (k / 16) * 0x1000 + (k % 16) * 0x60
/-- TAKE_DSTe_COLOR (R368). -/
def TAKE_DST_COLOR (k : Nat) : Nat := 0x600108 + (k / 16) * 0x1000 + (k % 16) * 0x60
/-- TAKE_DSTe_SRC (R368). -/
def TAKE_DST_SRC (k : Nat) : Nat := 0x60010C + (k / 16) * 0x1000 + (k % 16) * 0x60
/-- TAKE_DSTe_BACKUP (R368). -/
def TAKE_DST_BACKUP (k : Nat) : Nat := 0x600110 + (k / 16) * 0x1000 + (k % 16) * 0x60
/-- TAKE_DSTe_PROT (R368). -/
def TAKE_DST_PROT (k : Nat) : Nat := 0x600114 + (k / 16) * 0x1000 + (k % 16) * 0x60
/-- TAKE_DSTe_FLAPWIN (R368). -/
def TAKE_DST_FLAPWIN (k : Nat) : Nat := 0x600118 + (k / 16) * 0x1000 + (k % 16) * 0x60
/-- TAKE_DSTe_HOLD (R368). -/
def TAKE_DST_HOLD (k : Nat) : Nat := 0x60011C + (k / 16) * 0x1000 + (k % 16) * 0x60
/-- TAKE_DSTe_PEND (R368). -/
def TAKE_DST_PEND (k : Nat) : Nat := 0x600120 + (k / 16) * 0x1000 + (k % 16) * 0x60
/-- TAKE_DSTe_NEXT_F_LO (R368). -/
def TAKE_DST_NEXT_F_LO (k : Nat) : Nat := 0x600124 + (k / 16) * 0x1000 + (k % 16) * 0x60
/-- TAKE_DSTe_NEXT_F_HI (R368). -/
def TAKE_DST_NEXT_F_HI (k : Nat) : Nat := 0x600128 + (k / 16) * 0x1000 + (k % 16) * 0x60
/-- TAKE_DSTe_LAST_F_LO (R368). -/
def TAKE_DST_LAST_F_LO (k : Nat) : Nat := 0x60012C + (k / 16) * 0x1000 + (k % 16) * 0x60
/-- TAKE_DSTe_LAST_F_HI (R368). -/
def TAKE_DST_LAST_F_HI (k : Nat) : Nat := 0x600130 + (k / 16) * 0x1000 + (k % 16) * 0x60
/-- TAKE_DSTe_LAST_REASON (R368). -/
def TAKE_DST_LAST_REASON (k : Nat) : Nat := 0x600134 + (k / 16) * 0x1000 + (k % 16) * 0x60
/-- TAKE_DSTe_MISSING (R368). -/
def TAKE_DST_MISSING (k : Nat) : Nat := 0x600138 + (k / 16) * 0x1000 + (k % 16) * 0x60
/-- TAKE_DSTe_SWITCHES (R368). -/
def TAKE_DST_SWITCHES (k : Nat) : Nat := 0x60013C + (k / 16) * 0x1000 + (k % 16) * 0x60
/-- TAKE_DSTe_STICKY (R368). -/
def TAKE_DST_STICKY (k : Nat) : Nat := 0x600140 + (k / 16) * 0x1000 + (k % 16) * 0x60
/-- TAKE_DSTe_FLAPCNT (R368). -/
def TAKE_DST_FLAPCNT (k : Nat) : Nat := 0x600144 + (k / 16) * 0x1000 + (k % 16) * 0x60
/-- FS_DSTe_CFG (R476). -/
def FS_DST_CFG (k : Nat) : Nat := 0x680100 + (k / 16) * 0x1000 + (k % 16) * 0x40
/-- FS_DSTe_HOLD (R476). -/
def FS_DST_HOLD (k : Nat) : Nat := 0x680104 + (k / 16) * 0x1000 + (k % 16) * 0x40
/-- FS_DSTe_FIELD (R476). -/
def FS_DST_FIELD (k : Nat) : Nat := 0x680108 + (k / 16) * 0x1000 + (k % 16) * 0x40
/-- FS_DSTe_SURF (R476). -/
def FS_DST_SURF (k : Nat) : Nat := 0x68010C + (k / 16) * 0x1000 + (k % 16) * 0x40
/-- FS_DSTe_PLACE (R476). -/
def FS_DST_PLACE (k : Nat) : Nat := 0x680110 + (k / 16) * 0x1000 + (k % 16) * 0x40
/-- FS_DSTe_STAT (R476). -/
def FS_DST_STAT (k : Nat) : Nat := 0x680114 + (k / 16) * 0x1000 + (k % 16) * 0x40
/-- FS_DSTe_CNT (R476). -/
def FS_DST_CNT (k : Nat) : Nat := 0x680118 + (k / 16) * 0x1000 + (k % 16) * 0x40
/-- FS_DSTe_LOST (R476). -/
def FS_DST_LOST (k : Nat) : Nat := 0x68011C + (k / 16) * 0x1000 + (k % 16) * 0x40
/-- FS_DSTe_TEAR (R476). -/
def FS_DST_TEAR (k : Nat) : Nat := 0x680120 + (k / 16) * 0x1000 + (k % 16) * 0x40
/-- FS_DSTe_EXT (R476). -/
def FS_DST_EXT (k : Nat) : Nat := 0x680124 + (k / 16) * 0x1000 + (k % 16) * 0x40
/-- FS_DSTe_STICKY (R476). -/
def FS_DST_STICKY (k : Nat) : Nat := 0x680128 + (k / 16) * 0x1000 + (k % 16) * 0x40
/-- FLW_RXe_CFG (R320). -/
def FLW_RX_CFG (k : Nat) : Nat := 0x800100 + (k / 16) * 0x1000 + (k % 16) * 0x60
/-- FLW_RXe_MAC (R320). -/
def FLW_RX_MAC (k : Nat) : Nat := 0x800104 + (k / 16) * 0x1000 + (k % 16) * 0x60
/-- FLW_RXe_DADDR0 (R320). -/
def FLW_RX_DADDR0 (k : Nat) : Nat := 0x800108 + (k / 16) * 0x1000 + (k % 16) * 0x60
/-- FLW_RXe_DADDR1 (R320). -/
def FLW_RX_DADDR1 (k : Nat) : Nat := 0x80010C + (k / 16) * 0x1000 + (k % 16) * 0x60
/-- FLW_RXe_DADDR2 (R320). -/
def FLW_RX_DADDR2 (k : Nat) : Nat := 0x800110 + (k / 16) * 0x1000 + (k % 16) * 0x60
/-- FLW_RXe_DADDR3 (R320). -/
def FLW_RX_DADDR3 (k : Nat) : Nat := 0x800114 + (k / 16) * 0x1000 + (k % 16) * 0x60
/-- FLW_RXe_SADDR0 (R320). -/
def FLW_RX_SADDR0 (k : Nat) : Nat := 0x800118 + (k / 16) * 0x1000 + (k % 16) * 0x60
/-- FLW_RXe_SADDR1 (R320). -/
def FLW_RX_SADDR1 (k : Nat) : Nat := 0x80011C + (k / 16) * 0x1000 + (k % 16) * 0x60
/-- FLW_RXe_SADDR2 (R320). -/
def FLW_RX_SADDR2 (k : Nat) : Nat := 0x800120 + (k / 16) * 0x1000 + (k % 16) * 0x60
/-- FLW_RXe_SADDR3 (R320). -/
def FLW_RX_SADDR3 (k : Nat) : Nat := 0x800124 + (k / 16) * 0x1000 + (k % 16) * 0x60
/-- FLW_RXe_PORT (R320). -/
def FLW_RX_PORT (k : Nat) : Nat := 0x800128 + (k / 16) * 0x1000 + (k % 16) * 0x60
/-- FLW_RXe_FMT (R320). -/
def FLW_RX_FMT (k : Nat) : Nat := 0x80012C + (k / 16) * 0x1000 + (k % 16) * 0x60
/-- FLW_RXe_BIND (R320). -/
def FLW_RX_BIND (k : Nat) : Nat := 0x800130 + (k / 16) * 0x1000 + (k % 16) * 0x60
/-- FLW_RXe_SKEW (R320). -/
def FLW_RX_SKEW (k : Nat) : Nat := 0x800134 + (k / 16) * 0x1000 + (k % 16) * 0x60
/-- FLW_RXe_STAT (R320). -/
def FLW_RX_STAT (k : Nat) : Nat := 0x800138 + (k / 16) * 0x1000 + (k % 16) * 0x60
/-- FLW_RXe_PKTS (R320). -/
def FLW_RX_PKTS (k : Nat) : Nat := 0x80013C + (k / 16) * 0x1000 + (k % 16) * 0x60
/-- FLW_RXe_MISS (R320). -/
def FLW_RX_MISS (k : Nat) : Nat := 0x800140 + (k / 16) * 0x1000 + (k % 16) * 0x60
/-- FLW_RXe_LATE (R320). -/
def FLW_RX_LATE (k : Nat) : Nat := 0x800144 + (k / 16) * 0x1000 + (k % 16) * 0x60
/-- FLW_RXe_RECOV (R320). -/
def FLW_RX_RECOV (k : Nat) : Nat := 0x800148 + (k / 16) * 0x1000 + (k % 16) * 0x60
/-- FLW_RXe_FMTERR (R320). -/
def FLW_RX_FMTERR (k : Nat) : Nat := 0x80014C + (k / 16) * 0x1000 + (k % 16) * 0x60
/-- FLW_RXe_TSOFS (R320). -/
def FLW_RX_TSOFS (k : Nat) : Nat := 0x800150 + (k / 16) * 0x1000 + (k % 16) * 0x60
/-- FLW_RXe_STICKY (R320). -/
def FLW_RX_STICKY (k : Nat) : Nat := 0x800154 + (k / 16) * 0x1000 + (k % 16) * 0x60
/-- FLW_TXe_CFG (R321). -/
def FLW_TX_CFG (k : Nat) : Nat := 0x900100 + (k / 16) * 0x1000 + (k % 16) * 0x60
/-- FLW_TXe_MAC (R321). -/
def FLW_TX_MAC (k : Nat) : Nat := 0x900104 + (k / 16) * 0x1000 + (k % 16) * 0x60
/-- FLW_TXe_DADDR0 (R321). -/
def FLW_TX_DADDR0 (k : Nat) : Nat := 0x900108 + (k / 16) * 0x1000 + (k % 16) * 0x60
/-- FLW_TXe_DADDR1 (R321). -/
def FLW_TX_DADDR1 (k : Nat) : Nat := 0x90010C + (k / 16) * 0x1000 + (k % 16) * 0x60
/-- FLW_TXe_DADDR2 (R321). -/
def FLW_TX_DADDR2 (k : Nat) : Nat := 0x900110 + (k / 16) * 0x1000 + (k % 16) * 0x60
/-- FLW_TXe_DADDR3 (R321). -/
def FLW_TX_DADDR3 (k : Nat) : Nat := 0x900114 + (k / 16) * 0x1000 + (k % 16) * 0x60
/-- FLW_TXe_SADDR0 (R321). -/
def FLW_TX_SADDR0 (k : Nat) : Nat := 0x900118 + (k / 16) * 0x1000 + (k % 16) * 0x60
/-- FLW_TXe_SADDR1 (R321). -/
def FLW_TX_SADDR1 (k : Nat) : Nat := 0x90011C + (k / 16) * 0x1000 + (k % 16) * 0x60
/-- FLW_TXe_SADDR2 (R321). -/
def FLW_TX_SADDR2 (k : Nat) : Nat := 0x900120 + (k / 16) * 0x1000 + (k % 16) * 0x60
/-- FLW_TXe_SADDR3 (R321). -/
def FLW_TX_SADDR3 (k : Nat) : Nat := 0x900124 + (k / 16) * 0x1000 + (k % 16) * 0x60
/-- FLW_TXe_PORTS (R321). -/
def FLW_TX_PORTS (k : Nat) : Nat := 0x900128 + (k / 16) * 0x1000 + (k % 16) * 0x60
/-- FLW_TXe_SSRC (R321). -/
def FLW_TX_SSRC (k : Nat) : Nat := 0x90012C + (k / 16) * 0x1000 + (k % 16) * 0x60
/-- FLW_TXe_FMT (R321). -/
def FLW_TX_FMT (k : Nat) : Nat := 0x900130 + (k / 16) * 0x1000 + (k % 16) * 0x60
/-- FLW_TXe_AUD (R321). -/
def FLW_TX_AUD (k : Nat) : Nat := 0x900134 + (k / 16) * 0x1000 + (k % 16) * 0x60
/-- FLW_TXe_TRO (R321). -/
def FLW_TX_TRO (k : Nat) : Nat := 0x900138 + (k / 16) * 0x1000 + (k % 16) * 0x60
/-- FLW_TXe_NET (R321). -/
def FLW_TX_NET (k : Nat) : Nat := 0x90013C + (k / 16) * 0x1000 + (k % 16) * 0x60
/-- FLW_TXe_STAT (R321). -/
def FLW_TX_STAT (k : Nat) : Nat := 0x900140 + (k / 16) * 0x1000 + (k % 16) * 0x60
/-- FLW_TXe_PKTS (R321). -/
def FLW_TX_PKTS (k : Nat) : Nat := 0x900144 + (k / 16) * 0x1000 + (k % 16) * 0x60
/-- FLW_TXe_SEQ (R321). -/
def FLW_TX_SEQ (k : Nat) : Nat := 0x900148 + (k / 16) * 0x1000 + (k % 16) * 0x60
/-- FLW_TXe_PAUSE_DROP (R321). -/
def FLW_TX_PAUSE_DROP (k : Nat) : Nat := 0x90014C + (k / 16) * 0x1000 + (k % 16) * 0x60
/-- FLW_TXe_LATE (R321). -/
def FLW_TX_LATE (k : Nat) : Nat := 0x900150 + (k / 16) * 0x1000 + (k % 16) * 0x60
/-- FLW_TXe_STICKY (R321). -/
def FLW_TX_STICKY (k : Nat) : Nat := 0x900154 + (k / 16) * 0x1000 + (k % 16) * 0x60
/-- AUD_Oe_CFG (R536). -/
def AUD_O_CFG (k : Nat) : Nat := 0xA00100 + (k / 16) * 0x1000 + (k % 16) * 0x40
/-- AUD_Oe_INk (R536). -/
def AUD_O_IN (k j : Nat) : Nat := 0xA00104 + (k / 16) * 0x1000 + (k % 16) * 0x40 + j * 0x4
/-- AUD_Oe_TIME (R536). -/
def AUD_O_TIME (k : Nat) : Nat := 0xA00114 + (k / 16) * 0x1000 + (k % 16) * 0x40
/-- AUD_Oe_DLY (R536). -/
def AUD_O_DLY (k : Nat) : Nat := 0xA00118 + (k / 16) * 0x1000 + (k % 16) * 0x40
/-- AUD_Oe_STAT (R536). -/
def AUD_O_STAT (k : Nat) : Nat := 0xA0011C + (k / 16) * 0x1000 + (k % 16) * 0x40
/-- AUD_Oe_DLY_NOW (R536). -/
def AUD_O_DLY_NOW (k : Nat) : Nat := 0xA00120 + (k / 16) * 0x1000 + (k % 16) * 0x40
/-- AUD_Oe_CLIP (R536). -/
def AUD_O_CLIP (k : Nat) : Nat := 0xA00124 + (k / 16) * 0x1000 + (k % 16) * 0x40
/-- AUD_Oe_STICKY (R536). -/
def AUD_O_STICKY (k : Nat) : Nat := 0xA00128 + (k / 16) * 0x1000 + (k % 16) * 0x40

end Sys2Proof.Machine.Reg
end

