-- ==== Sys2Proof/Machine/Sparse.lean ====
section
/-!
DEFINITION. Sparse storage in one canonical form: a list of (key, value) pairs with strictly rising keys and no entry
equal to what an unlisted key reads as. The register file and the DRAM and host memories are kept so. `dflt` says what
an unlisted key reads as.
-/

namespace Sys2Proof.Machine.Sparse

/-- Value at a key. -/
def get {α : Type} (dflt : Nat → α) : List (Nat × α) → Nat → α
  | [], k => dflt k
  | (j, v) :: t, k => if k = j then v else get dflt t k

/-- Insert a pair before the first larger key. -/
def insert {α : Type} (k : Nat) (v : α) : List (Nat × α) → List (Nat × α)
  | [] => [(k, v)]
  | (j, w) :: t => if k < j then (k, v) :: (j, w) :: t else (j, w) :: insert k v t

/-- Write a value at a key; writing what the key reads as when unlisted removes the entry. -/
def set {α : Type} [DecidableEq α] (dflt : Nat → α) (l : List (Nat × α)) (k : Nat) (v : α) : List (Nat × α) :=
  let rest := l.filter fun p => p.1 != k
  if v = dflt k then rest else insert k v rest

/-- The canonical form. -/
def wf {α : Type} [DecidableEq α] (dflt : Nat → α) : List (Nat × α) → Bool
  | [] => true
  | (k, v) :: t => decide (v ≠ dflt k) && (t.all fun p => decide (k < p.1)) && wf dflt t

end Sys2Proof.Machine.Sparse
end

