-- ==== Sys2Proof/Machine/State.lean ====
section
/-!
DEFINITION. The state of the FDX-192 block as plain data. `Dev` is the device: its register pages and everything the
spec gives it that no register holds. `Mem` is the byte-addressed memory outside it that it reads and writes: DRAM and
host memory. `State` adds the queue of waiting commands, first in, first out.
-/

namespace Sys2Proof.Machine

open Sys2Proof

/-- Response of a bus transaction (R574, R578). -/
inductive BusResp where
  | ok
  | error
  | poisoned
  deriving DecidableEq, Repr

/-- The PMBus commands the device uses (R681): OPERATION, VOUT_COMMAND with its ULINEAR16 mantissa, CLEAR_FAULTS. -/
inductive PmbusCmd where
  | operation (v : Nat)
  | vout (v : Nat)
  | clearFaults
  deriving DecidableEq, Repr

/-- One reference candidate of the Bellows (R56) beyond its registers: the last measured phase (candidate minus device
time, units of 0.25 ns), the correction of LOSC_IN at which device time runs at its rate (units of 10⁻¹²), and its hold-off
(R66, R69). -/
structure Cand where
  phase : Int
  freq : Int
  holdoffRun : Bool
  holdoffDone : Bool
  deferred : Bool
  /-- device time at which its hold-off began, ns -/
  holdoffFrom : Nat
  deriving DecidableEq, Repr

/-- The Bellows beyond its registers (R65 to R93). -/
structure Bellows where
  /-- candidates 0 to 7 -/
  cands : List Cand
  /-- phase move of the slew in progress, 0.25 ns units (R81); `none` when not slewing -/
  slew : Option Int
  /-- step that waits for line 1 of plane STEP_TP, 0.25 ns units (R81) -/
  stepDue : Option Int
  /-- cumulative seconds LOCKED toward R77 -/
  lockedSec : Nat
  /-- holdover average, units of 10⁻¹² ÷ 2³²; `none` before its first update since CLEAR (R76) -/
  hoAvg : Option Int
  /-- a software correction arrived in this period (R84) -/
  swWritten : Bool
  /-- device time of the last PPS_OUT edge, ns (R93) -/
  ppsLast : Option Nat
  /-- LOSC_IN healthy (R73) -/
  loscOk : Bool
  /-- lock was lost with the active candidate, which may step once more (R116, R748) -/
  relock : Bool
  /-- the correction restored at the last start, that of FREE_RUN (R71), units of 10⁻¹² -/
  restored : Int
  /-- this HOLDOVER has lasted HO_LIMIT minutes (R75) -/
  longHold : Bool
  deriving DecidableEq, Repr

/-- Host transmit timestamp queue entry (R105). -/
structure TsqEntry where
  tag : Nat
  ns : Nat
  deriving DecidableEq, Repr

/-- The PTP service and time transfer beyond their registers (R96 to R129). -/
structure Ptp where
  /-- best Announce held per port 0 to 15 (R110) -/
  announce : List (Option Announce)
  /-- last path delays, newest first, at most 16, 0.25 ns units (R112) -/
  delays : List Int
  /-- last offsets with their device time ns, newest first, at most 16 (R115) -/
  offsets : List (Nat × Int)
  /-- grandmaster's logSyncInterval (R114) -/
  gmLogSync : Int
  /-- host transmit timestamp queues: (MAC, entries oldest first) (R105) -/
  tsq : List (Nat × List TsqEntry)
  /-- the control cores' 16-entry timestamp queue, oldest first (R107) -/
  coreTsq : List TsqEntry
  /-- time transfer lanes of the Chart's TIME_TREE with asym in 0.25 ns (R118) -/
  ttLanes : List (Nat × Int)
  /-- egress timestamp of the REQ in flight (R117) -/
  ttT1 : Option Int
  /-- last time transfer delays, newest first, at most 16, 0.25 ns units (R433) -/
  ttDelays : List Int
  /-- consecutive exchanges that did not complete, and consecutive delays off the mean (R433) -/
  ttMiss : Nat
  ttBad : Nat
  /-- device time (2⁻¹⁶ ns) latched with the always-on count at RESET_N, a power-fail warning or DEEP (R120, R751) -/
  aonBase : Option Nat
  deriving DecidableEq, Repr

/-- A candidate at reset: nothing measured, no hold-off. -/
def Cand.reset : Cand := ⟨0, 0, false, false, false, 0⟩

/-- The Bellows at first power-up: LOSC_IN healthy, nothing used yet. -/
def Bellows.reset : Bellows :=
  ⟨List.replicate 8 Cand.reset, none, none, 0, none, false, none, true, false, 0, false⟩

/-- The PTP service at first power-up. -/
def Ptp.reset : Ptp := ⟨List.replicate 16 none, [], [], 0, [], [], [], none, [], 0, 0, none⟩

/-- One entry of the event log (R163). -/
structure Event where
  code : Nat
  page : Nat
  seq : Nat
  time : Nat
  frame : Nat
  line : Nat
  plane : Nat
  sample : Nat
  uncertain : Bool
  forwarded : Bool
  position : Nat
  arg : Nat
  deriving DecidableEq, Repr

/-- A census in progress (R157): its slot when armed, the memory it goes to, and once started the frozen registers,
the device time and the coordinate of the image. -/
structure Census where
  slot : Option Nat
  toDram : Bool
  started : Bool
  image : List (Nat × Word)
  time : Nat
  plane : Nat
  frame : Nat
  deriving DecidableEq, Repr

/-- A Chart load that has been accepted for loading (R176): its address in DRAM, its slot when armed, whether it waits
for the 2 s hold, and whether it slipped; an image that came by BULK (R443) in place of one in DRAM. -/
structure ChartLoad where
  addr : Nat
  image : Option (List Byte)
  slot : Option Nat
  held : Bool
  slipped : Bool
  deriving DecidableEq, Repr

/-- An IS-05 activation (R169): the take or flow enable it makes, on a plane, at a TAI time in ns (`none` at once). -/
structure Is05Req where
  page : Nat
  writes : List (Nat × Word)
  plane : Nat
  at? : Option Nat
  deriving DecidableEq, Repr

/-- A frozen page image (R155): page and the words that differ from reset. -/
structure Frozen where
  page : Nat
  image : List (Nat × Word)
  deriving DecidableEq, Repr

/-- Host access and on-chip services beyond the registers (R130 to R179). -/
structure HostIf where
  /-- PCI Express link up, and message sending enabled -/
  linkUp : Bool
  msgEnable : Bool
  /-- MSI-X table of BAR4 by 32-bit word, 4 per vector, and the pending bit array (R130, R161) -/
  msixTable : List (Nat × Word)
  pba : BitVec 64
  /-- pending state of each vector after the last change (R161) -/
  vecPend : BitVec 64
  frozen : List Frozen
  /-- a SYS_SNAPSHOT freeze holds (R156) -/
  sysFrozen : Option (List (Nat × Word))
  commits : List CommitReq
  census : Option Census
  /-- Chart in force and the one before it (R590), Chart copies A and B of SPI NOR (R736) -/
  chart : Option Chart
  chartPrev : Option Chart
  spiChartA : Option Chart
  spiChartB : Option Chart
  /-- Chart being written before it takes effect, the load held or armed, and the 2 s hold (R176) -/
  chartNew : Option (Chart × Bool)
  chartLoad : Option ChartLoad
  chartHold : Bool
  /-- control protocol sessions 0 to 7 open (R168) -/
  sessions : List Bool
  is05 : List Is05Req
  deriving DecidableEq, Repr

/-- The event log of Temper (R163, R610): entries held, oldest first, and the second and count of the rate limit. -/
structure EventLog where
  entries : List Event
  second : Nat
  inSecond : Nat
  deriving DecidableEq, Repr

/-- The host interface at reset: link down, no page frozen or armed, no Chart, every MSI-X vector masked
(the table's own reset is in `msixWord`). -/
def HostIf.reset : HostIf :=
  ⟨false, false, [], 0, 0, [], none, [], none, none, none, none, none, none, none, false, List.replicate 8 false, []⟩

/-- The event log at first boot: empty (R164). -/
def EventLog.reset : EventLog := ⟨[], 0, 0⟩

/-- A lane beyond its registers: the hunt step being tried (R196), and the 48-bit PRBS counters, whose halves the
registers show as latched (R208); a RAW source more than 1,100 ppm from both rate
families (R184). -/
structure LaneX where
  huntStep : Nat
  prbsErr : Nat
  prbsBits : Nat
  rawBad : Bool
  deriving DecidableEq, Repr

/-- A lane at reset. -/
def LaneX.reset : LaneX := ⟨0, 0, 0, false⟩

/-- Fabric use and framing of a lane (R380 to R399). -/
structure FabLane where
  /-- LANE_ID halves: accepted values, the last value of each half and its run (R385) -/
  idLo : Nat
  idHi : Nat
  candLo : Nat
  runLo : Nat
  candHi : Nat
  runHi : Nat
  /-- last LSEQ received (R384) -/
  lseq : Option Nat
  /-- counters shown through FAB_LN_SEL: frame losses, bad blocks, gaps, cells -/
  cntFrame : Nat
  cntBad : Nat
  cntGap : Nat
  cntCells : Nat
  /-- share class and streams carried in the transmit direction (R393) -/
  share : Nat
  streams : List Nat
  /-- raw circuit: the last RAW_CTL bit counts received, newest first (R388) -/
  rawBits : List (Nat × Nat)
  /-- of a twin lane, which has no FAB_LNn_STAT: frame lock (1 HUNT, 2 LOCKED), identity agrees, in service (R626) -/
  frame : Nat
  idOk : Bool
  svc : Bool
  deriving DecidableEq, Repr

/-- A fabric lane at reset: nothing seen, nothing carried. -/
def FabLane.reset : FabLane := ⟨0, 0, 0, 0, 0, 0, none, 0, 0, 0, 0, 0, [], [], 1, false, false⟩

/-- The billet descriptor of R234. -/
structure Desc where
  width : Nat
  lines : Nat
  total : Nat
  spl : Nat
  rate : Nat
  interlaced : Bool
  psf : Bool
  tp : Nat
  sampling : Nat
  color : Nat
  xfer : Nat
  fullRange : Bool
  audio : Nat
  anc : Bool
  groupSize : Nat
  member : Nat
  square : Bool
  kind : Nat
  lead : Nat
  cells : Nat
  seq : Nat
  deriving DecidableEq, Repr

/-- A billet cell (R324): its header fields but HCRC, which `hcrcOf` computes, and its payload. `frame` is the full
frame number, whose low 16 bits the header carries. -/
structure Cell where
  typ : Nat
  tp : Nat
  frame : Nat
  line : Nat
  idx : Nat
  cc : Nat
  sol : Bool
  eol : Bool
  sof : Bool
  eof : Bool
  invalid : Bool
  subst : Bool
  dseq : Nat
  payload : List Byte
  deriving DecidableEq, Repr

/-- A source of the device (R13 to R17, R329): kind and origin, its plane, its reservation, its validity, its timing
offset, its group, its descriptor, the continuity count of each cell type and the cells the Hearth still keeps. -/
structure Source where
  kind : Nat
  origin : Nat
  second : Bool
  tp : Nat
  rate : Nat
  valid : Bool
  everValid : Bool
  ofs : Int
  groupSize : Nat
  member : Nat
  lead : Nat
  desc : Option Desc
  cc : List Nat
  cells : List Cell
  deriving DecidableEq, Repr

/-- What one line of a destination's output shows. A Swage's samples are not given by the spec (R467 names coefficient
sets and gives no coefficients), so `scaled` names the engine. -/
inductive Picture where
  | black
  | cells (l : List Cell)
  | field (c : Word)
  | surface (n : Nat)
  | scaled (swage : Nat) (l : List Cell)
  deriving DecidableEq, Repr

/-- A destination (R332) or circuit (R363) beyond its registers. -/
structure Dst where
  src : Option Nat
  primary : Option Nat
  pend : List PendTake
  hold : Option Hold
  /-- a hold that waits for a salvo's frame (R354) -/
  deferred : Option (Hold × Nat)
  bad : Nat
  good : Nat
  /-- frames of the flaps in the window (R356) -/
  flaps : List Nat
  latched : Bool
  /-- the last output line read: frame, line, picture, audio muted, ANC packets -/
  readF : Nat
  readL : Nat
  picture : Picture
  muted : Bool
  anc : List AncPacket
  /-- video cells of the line before, for R38 -/
  prev : List Cell
  /-- ANC packets of the frame being read and of the source's last complete frame, and the hold of R351 in progress: packets and frames left (0 until
  the next take) -/
  ancCur : List (Nat × AncPacket)
  ancFrame : List (Nat × AncPacket)
  ancHold : Option (List (Nat × AncPacket) × Option Nat)
  /-- an SDI encoder sends no audio in the line after this one (R244): the switch line of the last switch frame -/
  switchedF : Option Nat
  /-- output frames of takes that its store has yet to show (R345, R455) -/
  cuts : List Nat
  deriving DecidableEq, Repr

/-- The Hearth and the Anvil beyond their registers. -/
structure Anvil where
  /-- sources by SRC, sparse -/
  srcs : List (Nat × Option Source)
  /-- destinations 0 to 2047 and circuits from 2048, sparse -/
  dsts : List (Nat × Dst)
  nextTicket : Nat
  salvos : List Salvo
  deriving DecidableEq, Repr

/-- A destination with nothing on it. -/
def Dst.reset : Dst :=
  ⟨none, none, [], none, none, 0, 0, [], false, 0, 0, .black, true, [], [], [], [], none, none, []⟩

/-- The Hearth and the Anvil at reset: no source, no route, tickets from 1. -/
def Anvil.reset : Anvil := ⟨[], [], 1, []⟩

/-- A channel of an SDI stream's audio that waits for its cell (R239): words received, oldest first. -/
structure AudioChan where
  chan : Nat
  words : List Nat
  deriving DecidableEq, Repr

/-- An SDI input beyond its registers (R216 to R241). `fmt` is the detected format; `pid` the last ST 352 received, with
whether one came in this frame; `frameOk` says that every line of the frame so far is clean; `validFrom` is the first
frame whose cells are valid; `redesc` a colour change that waits for the next frame start (R225); `groups` the audio
groups of the last and of the present frame; `chans` audio waiting for its cells with the coordinate of each block's next
cell; `sampling` the sampling in force. -/
structure SdiIn where
  fmt : Option Raster
  sampling : Nat
  levelB : Bool
  pid : Option PayloadId
  pidFrame : Bool
  frameOk : Bool
  frame : Nat
  line : Nat
  noTrs : Nat
  validFrom : Nat
  redesc : Bool
  groups : List Nat
  groupsNow : List Nat
  unsup : List Nat
  anc : Bool
  ancNow : Bool
  orderBad : Bool
  skewBad : Bool
  skew : Nat
  chans : List AudioChan
  stamps : List (Nat × Nat × Nat × Nat)
  deriving DecidableEq, Repr

/-- An SDI output beyond its registers: the matrix sample count up to which it has embedded audio (R244), and ANC packets
that wait for a vertical blanking line (R245). -/
structure SdiOut where
  sent : Nat
  waiting : List AncPacket
  deriving DecidableEq, Repr

/-- An SDI input that has seen nothing. -/
def SdiIn.reset : SdiIn :=
  ⟨none, 0, false, none, false, false, 0, 0, 0, 0, false, [], [], [], false, false, false, false, 0, [], []⟩

/-- An SDI output that has sent nothing. -/
def SdiOut.reset : SdiOut := ⟨0, []⟩

/-- What a transmitted flow packet carries beside its RTP header (R306 to R312). -/
inductive FlowContent where
  | video (line ofs len : Nat) (p : Picture)
  | audio (periods : List (List Nat))
  | anc (items : List (Nat × AncPacket))
  deriving DecidableEq, Repr

/-- A packet of transmit flow `flow`: extended sequence number, timestamp, marker, frame bytes on the wire. -/
structure FlowSend where
  flow : Nat
  seq : Nat
  ts : Nat
  marker : Bool
  bytes : Nat
  content : FlowContent
  deriving DecidableEq, Repr

/-- A MAC beyond its registers: 64-bit byte counters whose high halves the registers show as latched (R283), flow packets
held by a pause with the device time (ns) at which each fell due (R313), the host ring served last (R277), and whether
it is waking from LPI (R282). -/
structure MacX where
  rxBytes : Nat
  txBytes : Nat
  held : List (Nat × FlowSend)
  lastRing : Nat
  waking : Bool
  deriving DecidableEq, Repr

/-- A host ring pair beyond its registers: frames written since the last RX_FRAME (R272), and a disable of the receive or
transmit ring that waits for its frame to complete (R271). -/
structure RingX where
  since : Nat
  rxOff : Bool
  deriving DecidableEq, Repr

/-- A MAC that has seen nothing. -/
def MacX.reset : MacX := ⟨0, 0, [], 0, false⟩

/-- A ring that has seen nothing. -/
def RingX.reset : RingX := ⟨0, false⟩

/-- What one frame of a receive flow has shown so far (R297, R298): a format error, its marker bit, a packet late or
missing. -/
structure FrameMark where
  f : Nat
  fmtErr : Bool
  marker : Bool
  spoiled : Bool
  deriving DecidableEq, Repr

/-- A receive flow beyond its registers (R289 to R305): lines being filled (frame, line, runs of sample words from an
offset), ANC packets by frame and line, frame marks, the position of the last line released, consecutive frames with a
format error, audio periods that wait for a cell and the coordinate (frame, line, sample) of the first, the highest extended
sequence number, a lost leg, sequence numbers in the merge window with their position and the legs that brought them, the
last number settled, membership reports still to repeat, and the first valid frame. -/
structure FlowIn where
  video : List (Nat × Nat × Nat × List Nat)
  anc : List (Nat × Nat × AncPacket)
  marks : List FrameMark
  released : Nat
  errFrames : Nat
  periods : List (List Nat)
  stamp : Option (Nat × Nat × Nat)
  seq : Option Nat
  legLost : Bool
  seen : List (Nat × Nat × Bool × Bool)
  settled : Option Nat
  repeats : Nat
  validFrom : Nat
  deriving DecidableEq, Repr

/-- A transmit flow beyond its registers: matrix samples sent (R312) and ANC packets of the present frame sent. -/
structure FlowOut where
  sent : Nat
  ancF : Nat
  ancSent : Nat
  deriving DecidableEq, Repr

/-- A receive flow that has seen nothing. -/
def FlowIn.reset : FlowIn := ⟨[], [], [], 0, 0, [], none, none, false, [], none, 0, 0⟩

/-- A transmit flow that has sent nothing. -/
def FlowOut.reset : FlowOut := ⟨0, 0, 0⟩

/-- The MACs and the flow engine beyond their registers. The control cores' rate limit counts frames of one second
(R263). -/
structure Media where
  macs : List (Nat × MacX)
  rings : List (Nat × RingX)
  coreSecond : Nat
  coreFrames : Nat
  flowsIn : List (Nat × FlowIn)
  flowsOut : List (Nat × FlowOut)
  deriving DecidableEq, Repr

/-- No frame seen. -/
def Media.reset : Media := ⟨[], [], 0, 0, [], []⟩

/-- A message sent and not yet acknowledged, its retransmissions so far (R423), and whether it has left: messages wait for the
Hallmark's self-test (R720). -/
structure Unacked where
  msg : TongsMsg
  tries : Nat
  sent : Bool
  deriving DecidableEq, Repr

/-- What a device keeps of a peer position (R419 to R423, R438): the SEQ count sent, the highest SEQ acted on, messages
ahead of a gap, unacknowledged messages oldest first, the lane its REQ blocks last arrived on, hops, the device time (ns)
of its last message, its last HEALTH, whether it was lost, whether an ACK is due (R422), and bodies to issue again once a
higher epoch is adopted (R425). -/
structure Peer where
  sent : Nat
  acted : Nat
  ahead : List TongsMsg
  unacked : List Unacked
  lane : Option Nat
  hops : Nat
  lastNs : Nat
  heard : Bool
  unreachable : Bool
  lost : Bool
  health : Option Health
  ackDue : Bool
  again : List TongsBody
  deriving DecidableEq, Repr

/-- A destination in the manager's global table, as a STATE entry reports it (R430, R440, R441), with its pending takes. -/
structure GlobalDst where
  pos : Nat
  key : Nat
  src : Option Nat
  onBackup : Bool
  backup : Nat
  protEn : Bool
  protRevert : Bool
  hold : Option Hold
  flaps : Nat
  latched : Bool
  lastF : Nat
  lastTicket : Nat
  pend : List TakeEntry
  deriving DecidableEq, Repr

/-- A hierarchy request on the manager (R435) that placement has not yet decided, or a member of a salvo that runs: DN, its
position and key, the source's position and index, class and port, the requested frame, the entry to send, and for a member the
salvo's ticket and the index in its list. -/
structure HieReq where
  ticket : Nat
  dn : Nat
  pos : Nat
  key : Nat
  src : Option (Nat × Nat)
  cls : Nat
  port : Nat
  f : Option Nat
  entry : TakeEntry
  salvo : Option Nat
  idx : Nat
  deriving DecidableEq, Repr

/-- A hierarchy salvo on the manager (R436): target, its members once placed, the positions, those that answered READY, those
that acknowledged COMMIT, the moves made, and whether COMMIT has been sent. -/
structure HieSalvo where
  ticket : Nat
  tp : Fin 8
  f : Nat
  members : List HieReq
  positions : List Nat
  ready : List Nat
  acked : List Nat
  moves : Nat
  committed : Bool
  cls : Nat
  port : Nat
  deriving DecidableEq, Repr

/-- A salvo that a device holds for the manager until SALVO_COMMIT (R436): its head, the parts received, whether its members are
pending, and whether COMMIT is held. -/
structure HeldSalvo where
  head : SalvoHead
  parts : List (Nat × List TakeEntry)
  pended : Bool
  committed : Bool
  deriving DecidableEq, Repr

/-- A BULK object being received (R431): object, chunk, total length and the bytes by offset. -/
structure BulkObj where
  object : Nat
  chunk : Nat
  total : Nat
  bytes : List (Nat × Byte)
  deriving DecidableEq, Repr

/-- The hierarchy beyond its registers (R409 to R445) and the placement view (R390 to R406). -/
structure Hie where
  table : RoleTable
  peers : List (Nat × Peer)
  /-- SN and DN map entries as words, sparse (R434) -/
  sn : List (Nat × Nat)
  dn : List (Nat × Nat)
  reqs : List HieReq
  salvos : List HieSalvo
  held : List HeldSalvo
  globals : List GlobalDst
  /-- positions that have reported since ASSUME (R441) -/
  reported : List Nat
  decision : Nat
  /-- PLACE items held until the message with LAST (R428), and items waiting for their frame -/
  placeParts : List (Nat × PlaceItem)
  placeDue : List PlaceItem
  bulk : List BulkObj
  crossings : List Crossing
  cross : List LocalCross
  moves : List Move
  /-- Chart load armed by CHART_COMMIT: sequence -/
  chartArmed : Option Nat
  /-- surfaces that PLACE items keep loaded (R428) -/
  surfs : List Nat
  /-- messages that wait for the Hallmark's self-test (R720): lane, message, tag, manifest of a chunk -/
  waitRx : List (Nat × TongsMsg × TagCheck × Option Manifest)
  /-- STATE entries of a RESYNC that wait for their switch line: destination, frame on its plane, entry (R430) -/
  resync : List (Nat × Nat × RouteEntry)
  /-- pages reclaimed under R439, and the frame and plane at which they return to MANAGER (R440) -/
  reclaimed : List Nat
  ownerBack : Option (Nat × Nat)
  /-- sequence of the next event to forward (R437) -/
  fwdSeq : Nat
  /-- bundles as placement last saw them (R394) -/
  view : List Bundle
  /-- entries of reports that are not complete yet, by position (R430) -/
  reports : List (Nat × RouteEntry)
  deriving DecidableEq, Repr

/-- A peer never heard of. -/
def Peer.reset : Peer := ⟨0, 0, [], [], none, 0, 0, false, false, false, none, false, []⟩

/-- The hierarchy at first power-up, before a Chart gives it a role table. -/
def Hie.reset : Hie := ⟨⟨0, 1, []⟩, [], [], [], [], [], [], [], [], 0, [], [], [], [], [], [], none, [], [], [], [], none, 0, [], []⟩

/-- One input frame held by a frame store (R450 to R459): its frame number, the device time at which its line 1 arrived,
its active lines written, and whether any of its video cells was INVALID. -/
structure StoreFrame where
  f : Nat
  arrived : Nat
  lines : List (Nat × List Cell)
  lost : Bool
  /-- the source in force at its line 1 was in time (R455) -/
  timed : Bool
  deriving DecidableEq, Repr

/-- What an output frame of a store shows (R457, R459). -/
inductive Shown where
  | frame (f : Nat) (torn : List Nat)
  | field
  | surface (n : Nat)
  deriving DecidableEq, Repr

/-- A frame store serving a destination (R450 to R460): depth, the frames held newest first, whether it is FILLING, the
input frame that the previous output frame read, the last output built from a good input frame, consecutive held
frames, whether it is in loss, and what the present output frame shows. -/
structure Store where
  depth : Nat
  frames : List StoreFrame
  filling : Bool
  written : Nat
  lastRead : Option Nat
  lastGood : Option Nat
  held : Nat
  inLoss : Bool
  shown : Shown
  /-- the input frame that the output frame before read, which serves torn lines (R453) -/
  before : Option Nat
  /-- the frame at whose switch line it leaves the path (R460) -/
  leaves : Option Nat
  /-- the source shown directly until the store's first output frame, which follows (R345, R455) -/
  pre : Option (Option Nat × Nat)
  deriving DecidableEq, Repr

/-- A surface of the library (R494, R613): its number and bytes. -/
structure Surface where
  num : Nat
  bytes : List Byte
  deriving DecidableEq, Repr

/-- A surface in DRAM or on its way (R498): loaded, or queued behind its commit coordinate. -/
structure Resident where
  num : Nat
  ready : Bool
  started : Bool
  due : Nat
  deriving DecidableEq, Repr

/-- Frame stores and surfaces beyond their registers. -/
structure Engines where
  stores : List (Nat × Option Store)
  library : List Surface
  resident : List Resident
  deriving DecidableEq, Repr

/-- No store in use, nothing in the library. -/
def Engines.reset : Engines := ⟨[], [], []⟩

/-- What a compositor layer shows: a library surface, or the pixels of a live source. -/
inductive LayerShow where
  | surface (n : Nat)
  | live (px : List (List Px))
  deriving DecidableEq, Repr

/-- A compositor beyond its registers (R501): what each layer showed in the last frame in which it was ready, and the
payloads of the last output frame by line. -/
structure FilX where
  held : List (Nat × LayerShow)
  last : List (Nat × List (List Byte))
  deriving DecidableEq, Repr

/-- A compositor that has shown nothing. -/
def FilX.reset : FilX := ⟨[], []⟩


/-- A matrix input beyond its registers (R506, R524): the last word taken, its NONPCM, samples since the last preamble, the
burst in progress (mode 0 none, 1 subframe, 2 frame; samples since its Pa; payload samples left; 24-bit words), PAIR96, and
the magnitudes of the last 100 ms, newest first. -/
structure AudIn where
  word : Nat
  nonpcm : Bool
  since : Nat
  mode : Nat
  pre : Nat
  left : Nat
  wide : Bool
  pair96 : Bool
  mags : List Nat
  deriving DecidableEq, Repr

/-- A term of an output's sum: an input in use and its coefficient, units of 2⁻²⁰ (R513). -/
structure AudTerm where
  inp : Option Nat
  g : Rat
  deriving DecidableEq, Repr

/-- A matrix output beyond its registers (R518 to R528): the class and the configuration in force, in a class P ramp the
coefficients it began at, the terms that fade out, its samples N and those done; in a wait its kind (1 zero crossing, 2 the
end of the old burst, 3 the first Pa of the new input), the samples waited and the last old sum; the delay line, newest
first. -/
structure AudOut where
  cls : Nat
  goal : List AudTerm
  start : List Rat
  fade : List AudTerm
  n : Nat
  i : Nat
  wait : Nat
  waited : Nat
  prev : Int
  line : List Nat
  /-- the source it followed and the words of its slot 0 at the last sample, which tell a change of R518 from a new
  descriptor -/
  seen : List Nat
  deriving DecidableEq, Repr

/-- An input nothing has come to. -/
def AudIn.reset : AudIn := ⟨0, false, 0, 0, 0, 0, false, false, []⟩

/-- An output that carries nothing. -/
def AudOut.reset : AudOut := ⟨0, [], [], [], 0, 0, 0, 0, 0, [], []⟩

/-- The audio matrix beyond its registers: inputs, outputs, the run of silent samples of each output group (0 to 511) and
port (512 on), and the ranges that placement has allocated for fabric sources and fabric exits (SRC or crossing, first,
count) (R507). -/
structure Audio where
  ins : List (Nat × AudIn)
  outs : List (Nat × AudOut)
  quiet : List (Nat × Nat)
  poolIn : List (Nat × Nat × Nat)
  poolOut : List (Nat × Nat × Nat)
  deriving DecidableEq, Repr

/-- The matrix at reset. -/
def Audio.reset : Audio := ⟨[], [], [], [], []⟩

/-- Slot masks and bases of an audio port (R554). -/
structure AptMasks where
  rx : Nat
  tx : Nat
  mir : Nat
  rxBase : Nat
  txBase : Nat
  deriving DecidableEq, Repr

/-- An audio port beyond its registers (R539 to R556): frames of lead-in or lead-out done, stopped by silence (R553), a
start queued during lead-out, lead-out to begin at the next frame start, received slots held after a loss (R548, R549), the
masks in force and those to come with the frames still to wait, and the last sample of each received, transmitted and played
slot; device time of the last frame start. -/
structure AptX where
  lead : Nat
  silent : Bool
  queued : Bool
  leadOutDue : Bool
  held : Bool
  masks : AptMasks
  next : Option (AptMasks × Nat)
  rxLast : List Nat
  playLast : List Nat
  lastTick : Nat
  deriving DecidableEq, Repr

/-- A port that has not run. -/
def AptX.reset : AptX := ⟨0, false, false, false, false, ⟨0, 0, 0, 0, 0⟩, none, [], [], 0⟩


/-- A request accepted by the DRAM controller (R564 to R567): port, address, length, data of a write, page hint OPEN, and
the device time of its acceptance. -/
structure DramReq where
  port : Nat
  p : Nat
  len : Nat
  data : Option (List Byte)
  keepOpen : Bool
  at_ : Nat
  deriving DecidableEq, Repr

/-- A transaction of the bus matrix (R576 to R583). -/
structure BusTx where
  master : Nat
  target : Nat
  addr : Nat
  len : Nat
  data : Option (List Byte)
  at_ : Nat
  deriving DecidableEq, Repr

/-- The DRAM controller and the bus matrix beyond their registers: accepted requests, oldest first; the open row of each
bank by channel, subchannel, rank and bank; refreshes owed per subchannel; longest age at issue per port (2⁻¹⁶ ns); the
subchannel next in the training rotation; consecutive training failures per subchannel; consecutive temperature readings at
or below 85 °C per channel; scrub position per channel in bytes; times of the accesses of the last second per channel;
transactions waiting for a grant, oldest first, those granted, by target, and the master each target granted last. -/
structure Dram where
  reqs : List DramReq
  rows : List (Nat × Nat)
  owed : List (Nat × Nat)
  longest : List (Nat × Nat)
  trainNext : Nat
  trainFails : List (Nat × Nat)
  cool : List (Nat × Nat)
  scrub : List (Nat × Nat)
  used : List (Nat × List Nat)
  waiting : List BusTx
  flight : List (Nat × BusTx)
  lastGrant : List (Nat × Nat)
  deriving DecidableEq, Repr

/-- Controller and matrix with nothing accepted. -/
def Dram.reset : Dram := ⟨[], [], [], [], 0, [], [], [], [], [], [], []⟩

/-- An entry of the audit log (R703, R704): sequence, device time, kind, class, result, owner slot, requester, detail, chain
tag. -/
structure AuditEntry where
  seq : Nat
  time : Nat
  kind : Nat
  cls : Nat
  result : Nat
  slot : Nat
  who : Nat
  detail : Nat
  tag : Nat
  deriving DecidableEq, Repr

/-- A checkpoint frame (R599): sequence, frame index, J_CUT + 1 (the SEQ that follows it), device time at J_CUT (ns), Chart
hash, whether it still reads well, and its body. -/
structure Ckpt where
  seq : Nat
  frame : Nat
  cut : Nat
  time : Nat
  hash : Nat
  ok : Bool
  image : Persist
  deriving DecidableEq, Repr

/-- A generation of the Crucible mirror (R614). -/
structure Mirror where
  ckpt : Ckpt
  events : List Event
  audit : List AuditEntry
  chart : Option Chart
  chartPrev : Option Chart
  upd : UpdImage
  deriving DecidableEq, Repr

/-- A library store or delete in progress (R615). -/
structure LibJob where
  num : Nat
  bytes : Option (List Byte)
  deriving DecidableEq, Repr

/-- Temper and Crucible beyond the journal, the logs and their registers (R588 to R618). -/
structure Temper where
  /-- complete checkpoints, newest first, at most one per frame; the one being written -/
  ckpts : List Ckpt
  writing : Option Ckpt
  /-- device time (ns) and cause of a power-fail warning in force -/
  warned : Option (Nat × Nat)
  /-- checkpoints written, seals and power-on time in ns over the device's life, and time with Tj above 95 °C -/
  ckptCount : Nat
  onNs : Nat
  hotNs : Nat
  /-- state has been held since manufacture, so that a boot restores (R609) -/
  everHeld : Bool
  /-- half of the Chart region that holds the Chart in force, halves that cannot be read, and whether the update region
  cannot -/
  chartHalf : Nat
  chartLost : List Nat
  updLost : Bool
  /-- the store salt is nonzero (R690) -/
  salt : Bool
  /-- mirror generations 0 and 1, newest first; the generation being written from a checkpoint; one that waits for its
  checkpoint; device time (ns) of the last -/
  mirrors : List (Nat × Mirror)
  mirrorRun : Option (Nat × Ckpt)
  mirrorWant : Bool
  mirrorAt : Nat
  /-- the library: store or delete in progress, capacity in bytes, surfaces that cannot be read -/
  lib : Option LibJob
  libBytes : Nat
  libBad : List Nat
  deriving DecidableEq, Repr

/-- A Temper that has never held state, beside 4 TB of flash of which LIBRARY takes what R613 leaves
(notes/assumptions/19.md). -/
def Temper.reset : Temper :=
  ⟨[], none, none, 0, 0, 0, false, 0, [], false, false, [], none, false, 0, none, 4263957632122, []⟩

/-- A device of the update as the manager sees it (R716 to R725): position and unit (1 partner), its last reported state, its
last reason, whether it is named and has acknowledged what was last sent, and the version it reported. -/
structure UpdDev where
  pos : Nat
  unit : Nat
  state : Nat
  reason : Nat
  named : Bool
  acked : Bool
  ver : Nat
  deriving DecidableEq, Repr

/-- The update engine beyond its registers: the update region, versions in firmware slots 0 to 3, the manager's devices, its
attempts at a commit coordinate (R718), a restart under way (0 none, 1 commit, 2 rollback, 3 local rollback), whether bank B
runs, the frame of a local rollback that is due (R723), a FAIL still to be reported (R721), and the bytes of the chunks held in
the firmware slot whose role is STAGE. -/
structure Upd where
  img : UpdImage
  fwVer : List Nat
  devs : List UpdDev
  tries : Nat
  restart : Nat
  bankB : Bool
  localF : Option Nat
  failDue : Bool
  chunks : List (Nat × List Byte)
  deriving DecidableEq, Repr

/-- No update. -/
def Upd.reset : Upd := ⟨UpdImage.reset, [0, 0, 0, 0], [], 0, 0, false, none, false, []⟩

/-- A key install that waits for the 10 s of R692 to pass: 0 hierarchy, 1 twin, 2 TLS. -/
structure KeyWait where
  kind : Nat
  session : Nat
  slot : Nat
  deriving DecidableEq, Repr

/-- The Hallmark beyond its registers (R686 to R705): hierarchy and twin key generations held (0 to 2), TLS key and
certificate held, generation of the key-store copies in SPI NOR that are readable, the last install (device time, ns), installs
that wait, owner slots 0 to 3 (key hash; state in HAL_SLOTS), test access, the audit log, its next sequence, the rate of R610, failures of the
present second by kind and source (R703), and a zeroisation that waits for the self-test, and the ZEROIZE_N level. -/
structure Hal where
  hierKeys : Nat
  twinKeys : Nat
  tlsKey : Bool
  cert : Bool
  store : Nat
  lastInstall : Option Nat
  waiting : List KeyWait
  slotHash : List Nat
  testAccess : Bool
  audit : List AuditEntry
  auditNext : Nat
  second : Nat
  inSecond : Nat
  failed : List (Nat × Nat × Nat)
  zeroAfter : Bool
  deriving DecidableEq, Repr

/-- The Hallmark before its first self-test: no key installed, every owner slot EMPTY. -/
def Hal.reset : Hal := ⟨0, 0, false, false, 0, none, [], [0, 0, 0, 0], false, [], 0, 0, 0, [], false⟩

/-- A handover proposed or accepted (R652 to R656): frame and plane, whether this unit proposed it, whether it is accepted, and
whether it is a revert. -/
structure Handover where
  f : Nat
  tp : Nat
  mine : Bool
  accepted : Bool
  revert : Bool
  deriving DecidableEq, Repr

/-- The twin pair beyond the TWN page (R622 to R659). -/
structure Twin where
  /-- TWIN_PREF pin: this unit is the preferred unit -/
  pref : Bool
  /-- last heartbeat of the partner, `none` before the first and after a loss; whether it is lost; TWIN_ARB high for 2 ms -/
  hb : Option Heartbeat
  lost : Bool
  arbHigh : Bool
  /-- cause of a takeover that waits for its instant (R647) -/
  takeover : Option Nat
  /-- standby: epoch cells received and not yet applied: epoch, INDEX, LAST, records -/
  rx : List (Nat × Nat × Bool × List JRecord)
  /-- active: epochs sent and not acknowledged; a copy waits for its checkpoint, or is under way -/
  unacked : List (Nat × List JRecord)
  copyWait : Bool
  copying : Bool
  handover : Option Handover
  /-- a HANDOVER CANCEL cell repeats in every heartbeat period (R655) -/
  cancelling : Bool
  /-- destinations' frames excluded from comparison (R638), and consecutive differing and matching frames by destination -/
  excluded : List (Nat × Nat)
  runs : List (Nat × Nat × Nat)
  sigFail : Bool
  /-- tests that have failed, with passes since (R644) -/
  failing : List (SelfTest × Nat)
  /-- time offset to the active unit, 0.25 ns (R628, R645) -/
  timeOfs : Int
  /-- seconds READY without a break -/
  readySec : Nat
  /-- frames compared and differing, self-tests run and failed, PRBS errors since the last report -/
  cmp : Nat
  bad : Nat
  tests : Nat
  fails : Nat
  prbs : Nat
  deriving DecidableEq, Repr

/-- A unit before its straps are latched: preferred (notes/assumptions/21.md), no partner seen. -/
def Twin.reset : Twin :=
  ⟨true, none, false, false, none, [], [], false, false, none, false, [], [], false, [], 0, 0, 0, 0, 0, 0, 0⟩

/-- What the device does with power and clocks: it runs; it is held in reset; it has halted (R739); it is in DEEP or OFF. -/
inductive Run where
  | up
  | held
  | halted
  | deep
  | off
  deriving DecidableEq, Repr

/-- The always-on SRAM beside the always-on counter (R670): the words saved of the PWR page and of the Hallmark, the MSI-X table
and pending bits, and message sending enabled. -/
structure Saved where
  regs : List (Nat × Word)
  msix : List (Nat × Word)
  pba : BitVec 64
  msgEnable : Bool
  deriving DecidableEq, Repr

/-- A request of PWR_CMD that waits (R668): the state and the requester's port. -/
structure PwrWait where
  state : Nat
  port : Nat
  deriving DecidableEq, Repr

/-- Power and boot beyond the PWR page (R660 to R682, R731 to R753). -/
structure Power where
  run : Run
  /-- boot: 0 over, 1 the control firmware is about to choose a Chart, 2 state is restored and RESTORE_COMPLETE is awaited -/
  boot : Nat
  /-- entry in progress: 0 none, 1 until the frame start of R665 step 3, 2 datapath stopped, 3 in SLEEP and the checkpoint of
  R666 forced, 4 past the commit point of DEEP and OFF, 5 regulators turned off -/
  step : Nat
  /-- state left by the entry in progress; sequence of the checkpoint it waits for -/
  left : Nat
  ckpt : Nat
  /-- the datapath is stopped; quads not kept in SLEEP are off -/
  stopped : Bool
  quadsOff : Bool
  /-- wake that runs: source of R669 and the state it goes to; one that follows an entry past its commit point -/
  wake : Option (Nat × Nat)
  wakeNext : Option (Nat × Nat)
  /-- the queued request, and the requester of the entry in progress -/
  queued : Option PwrWait
  saved : Option Saved
  /-- cause of the reset that the boot in progress follows (SYS_RESET_CAUSE), and control cores that restart (R750) -/
  cause : Nat
  cores : Bool
  /-- PWR_GOOD is high -/
  good : Bool
  deriving DecidableEq, Repr

/-- The device runs and no transition is in progress. -/
def Power.reset : Power := ⟨.up, 0, 0, 0, 0, false, false, none, none, none, none, 0, false, true⟩


/-- Who asked for a take or a hold, and so where its result is shown. -/
inductive Via where
  | page                       -- TAKE_REQ registers (R367)
  | none_                      -- the device itself
  | tongs (ticket : Nat)       -- a TAKE entry of the manager (R435)
  deriving DecidableEq, Repr


/-- The state change that a journal group makes once its last record is durable (R594). -/
inductive JEffect where
  /-- a take becomes pending (R343): requested output frame, `none` for NOW -/
  | take (key : Nat) (t : PendTake) (f : Option Nat) (via : Via)
  /-- a pending take is cancelled (R348) -/
  | takeCancel (key ticket : Nat) (via : Via)
  /-- a hold is set or released (R354); `after` is the salvo frame it waits for -/
  | hold (key : Nat) (h : Option Hold) (after : Option Nat) (via : Via)
  /-- a salvo is accepted (R358), or cancelled (R362) -/
  | salvo (s : Salvo) (now : Bool)
  | salvoCancel (ticket : Nat)
  deriving DecidableEq, Repr

/-- A journal group waiting to be durable. -/
structure JGroup where
  bodies : List JBody
  effect : JEffect
  deriving DecidableEq, Repr

/-- The Temper journal (R592 to R596): the ring oldest first, the next SEQ, the groups that wait, the number of restores,
the second and count of TMP_RATE, and the records of the epoch that is open
for the standby with the device time (ns) of the first (R635). -/
structure Journal where
  ring : List JRecord
  nextSeq : Nat
  queue : List JGroup
  segment : Nat
  second : Nat
  inSecond : Nat
  epoch : List JRecord
  epochAt : Nat
  deriving DecidableEq, Repr

/-- An empty journal at first boot. -/
def Journal.reset : Journal := ⟨[], 0, [], 0, 0, 0, [], 0⟩


/-- What the device sends to the outside: messages, frames, pulses. The model's own record of its outputs. -/
inductive Out where
  /-- an MSI-X message (R161) -/
  | msix (vector : Nat)
  /-- a rising edge of PPS_OUT (R93) -/
  | ppsOut
  /-- a PTP message of a port, with the clockClass an Announce carries (R109, R111) -/
  | ptpSend (port : Nat) (kind : PtpKind) (clockClass : Nat)
  /-- a time transfer block (R117) -/
  | timeXfer (lane : Nat) (x : TimeXfer)
  /-- the answer to a management command (R170) -/
  | mgmtReply (session : Nat) (notOwner : Bool)
  /-- a TLS session refused (R171) -/
  | tlsRefused (session : Nat)
  /-- a Tongs message onto a fabric lane; the Hallmark appends its TAG (R416, R417) -/
  | tongs (lane : Option Nat) (m : TongsMsg)
  /-- one line of an SDI output, with regenerated TRS, line number, CRC and ST 352 (R243) -/
  | sdiLine (lane member frame line : Nat) (p : Picture) (audio : List (List Nat)) (anc : List AncPacket)
  /-- a frame of the control cores or a host ring, padded, before the FCS that the MAC appends (R275, R277) -/
  | ethFrame (mac : Nat) (bytes : List Byte)
  /-- an RTP packet (R306) -/
  | flowPacket (mac : Nat) (p : FlowSend)
  /-- an LLDPDU with the EEE TLV (R281) -/
  | lldp (mac twAdv : Nat)
  /-- an IGMPv3 or MLDv2 report (R317) -/
  | membership (mac : Nat) (group : Nat) (source : Option Nat) (leave : Bool)
  /-- a billet cell onto a fabric lane under its lane tag (R33, R380) -/
  | fabCell (lane tag : Nat) (c : Cell)
  /-- bits of a raw circuit onto a RAW or fabric lane (R387, R388) -/
  | rawCell (lane bits : Nat) (payload : List Byte)
  /-- one bit of the generated PRBS inverted (R208) -/
  | prbsInvert (lane : Nat)
  /-- a RAW transmitter repeats the last 2,048 bits it sent (R389) -/
  | rawRepeat (lane : Nat)
  /-- the slots of one frame of an audio port, high impedance as none (R540, R543) -/
  | aptFrame (port count : Nat) (slots : List (Option Nat))
  /-- a RAW_CTL block passed on (R388) -/
  | rawCtl (lane : Nat) (x : RawCtl)
  /-- read data of a DRAM port (R574) -/
  | dramData (port p : Nat) (bytes : List Byte) (poisoned : Bool)
  /-- the completion of a bus transaction; read data for a read (R576 to R583) -/
  | busReply (master target addr : Nat) (bytes : Option (List Byte)) (resp : BusResp)
  /-- a Clasp cell with its tag, on a given Clasp lane or on any (R626) -/
  | clasp (lane : Option Nat) (c : ClaspBody)
  /-- an edge of TWIN_ACTIVE (R624) -/
  | twinActive (level : Bool)
  /-- TWIN_ARB driven low or released (R632) -/
  | twinArb (low : Bool)
  /-- a PMBus command to a 7-bit address (R666, R672, R680, R681) -/
  | pmbus (addr : Nat) (c : PmbusCmd)
  deriving DecidableEq, Repr

/-- The device. -/
structure Dev where
  /-- the register pages of BAR0 in canonical sparse form: shadow, status and header words at their offset, the live copy of a shadowed field at offset + 0x800 (R130, R138, R762); an unlisted word reads its reset value -/
  regs : List (Nat × Word)
  /-- the part fitted is the FDX-192-H (R2, R6) -/
  partH : Bool
  /-- device time, units of 2⁻¹⁶ ns (R96) -/
  time : Nat
  /-- fraction of 2⁻¹⁶ ns carried by the frequency correction, units of 10⁻¹² -/
  timeRem : Nat
  /-- the model's own field: how many free values have been used (Config.freeValue) -/
  freeCount : Nat
  /-- the model's own field: what the device has sent, oldest first -/
  outbox : List Out
  /-- PCI Express, MSI-X, commits, snapshots, census, Chart, services -/
  hostif : HostIf
  /-- event log ring of Temper -/
  evlog : EventLog
  /-- Bellows -/
  bellows : Bellows
  /-- PTP service, timestamp queues, time transfer -/
  ptp : Ptp
  /-- lanes beyond their registers, sparse (R196, R208) -/
  lanes : List (Nat × LaneX)
  /-- fabric lanes beyond their registers, sparse (R380 to R399) -/
  fabLanes : List (Nat × FabLane)
  /-- Hearth sources and cells, destinations, takes, holds and salvos -/
  anvil : Anvil
  /-- channel words (R239) received for each matrix input and not yet taken by the matrix, oldest first, sparse (R27, R506) -/
  audioIn : List (Nat × List Nat)
  /-- frame stores, surface library and surfaces in DRAM -/
  engines : Engines
  /-- Temper journal -/
  journal : Journal
  /-- roles, Tongs, SN and DN map, hierarchy requests and placement -/
  hie : Hie
  /-- SDI inputs beyond their registers, by lane, sparse -/
  sdiIn : List (Nat × SdiIn)
  /-- SDI outputs beyond their registers, by lane, sparse -/
  sdiOut : List (Nat × SdiOut)
  /-- channel words of each matrix output, newest first, at most 512, sparse (R506) -/
  audioOut : List (Nat × List Nat)
  /-- sample periods that the matrix has computed (R512, R513) -/
  audioCount : Nat
  /-- MACs, host rings and flow engine -/
  media : Media
  /-- compositors beyond their registers, sparse -/
  fil : List (Nat × FilX)
  /-- audio matrix -/
  audio : Audio
  /-- audio serial ports beyond their registers, sparse -/
  apts : List (Nat × AptX)
  /-- DRAM controller and bus matrix -/
  dram : Dram
  /-- Hallmark and update -/
  hal : Hal
  /-- Temper and Crucible beyond their registers -/
  temper : Temper
  /-- update engine beyond its registers -/
  upd : Upd
  /-- twin pair beyond its registers -/
  twin : Twin
  /-- power states and boot -/
  power : Power
  deriving DecidableEq, Repr

/-- The device right after its first power-up: every register at its reset value, every other field at the value named
beside it. -/
def Dev.reset : Dev :=
  { regs := []
    partH := false
    time := 0
    timeRem := 0
    freeCount := 0
    outbox := []
    hostif := HostIf.reset
    evlog := EventLog.reset
    bellows := Bellows.reset
    ptp := Ptp.reset
    lanes := []
    fabLanes := []
    anvil := Anvil.reset
    audioIn := []
    engines := Engines.reset
    journal := Journal.reset
    hie := Hie.reset
    sdiIn := []
    sdiOut := []
    audioOut := []
    audioCount := 0
    media := Media.reset
    fil := []
    audio := Audio.reset
    apts := []
    dram := Dram.reset
    hal := Hal.reset
    temper := Temper.reset
    upd := Upd.reset
    twin := Twin.reset
    power := Power.reset }

/-- The byte-addressed memories beside the device: DRAM (R560, R562) and host memory (R130), each in the canonical form
of `Sparse.wf` with 0 as what an unlisted byte reads as (notes/assumptions/4.md). -/
structure Mem where
  dram : List Host.Cell
  host : List Host.Cell
  deriving DecidableEq, Repr

/-- The machine. -/
structure State where
  /-- waiting commands, first in, first out -/
  pending : List Instr
  dev : Dev
  mem : Mem
  deriving DecidableEq, Repr

/-- Reasons the machine stops with a fault. -/
inductive Fault where
  /-- A command whose operands no bus of the hardware can carry (`Sys2Proof.wellFormed` is false of it), such as a
  register write whose address is not an aligned BAR0 word. Raised by `guarded` in Machine/Ops.lean on the conditions of Machine/Operands.lean. Safe: the hardware
  has no such command. -/
  | badOperand
  /-- A request at a DRAM port for an address beyond the fitted DRAM (R562). Raised by `execDramRequest` in Machine/Dram.lean.
  Safe: the address does not exist. -/
  | noDram
  deriving DecidableEq, Repr

/-- Reasons a command has no meaning. -/
inductive Refusal where
  /-- A command that is not modelled yet; raised only by an arm of `exec`. Safe. -/
  | notModelled (mnemonic : String)
  deriving DecidableEq, Repr

/-- The machine right after reset: the device at its first power-up, nothing in memory, nothing waiting. -/
def State.reset : State := ⟨[], Dev.reset, ⟨[], []⟩⟩

end Sys2Proof.Machine
end

