-- ==== Sys2Proof/Machine/Regs.lean ====
section
/-!
DEFINITION. Reading and writing registers and their fields, live copies of shadowed fields (R138), saturating counters
and LO/HI pairs. Every read or write of a register goes through these.
-/

namespace Sys2Proof.Machine

open Sys2Proof

/-! ### Registers -/

/-- The word stored at a BAR0 byte address: a shadow, status or header word, or the live copy at + 0x800. -/
def Dev.rd (d : Dev) (a : Nat) : Word := Sparse.get resetWord d.regs a

/-- Store a word at a BAR0 byte address. -/
def Dev.wr (d : Dev) (a : Nat) (v : Word) : Dev := { d with regs := Sparse.set resetWord d.regs a v }

/-- The field [hi:lo] of a stored word. -/
def Dev.fld (d : Dev) (a hi lo : Nat) : Nat := bits (d.rd a) hi lo

/-- The live field [hi:lo] of a shadowed register (R138). -/
def Dev.live (d : Dev) (a hi lo : Nat) : Nat := bits (d.rd (a + 0x800)) hi lo

/-- Bit n of a stored word. -/
def Dev.flag (d : Dev) (a n : Nat) : Bool := bit (d.rd a) n

/-- Bit n of the live copy of a shadowed register. -/
def Dev.liveFlag (d : Dev) (a n : Nat) : Bool := bit (d.rd (a + 0x800)) n

/-- Store the field [hi:lo] of a word. -/
def Dev.setFld (d : Dev) (a hi lo v : Nat) : Dev := d.wr a (setBits (d.rd a) hi lo v)

/-- Store bit n of a word. -/
def Dev.setFlag (d : Dev) (a n : Nat) (b : Bool) : Dev := d.setFld a n n (b2n b)

/-- Store a whole word given as a number. -/
def Dev.wrNat (d : Dev) (a v : Nat) : Dev := d.wr a (BitVec.ofNat 32 v)

/-- Store a signed number, saturating at 32 bits. -/
def Dev.wrSat (d : Dev) (a : Nat) (v : Int) : Dev := d.wrNat a (ofSigned 32 (satSigned 32 v))

/-- Add to a saturating counter field. -/
def Dev.bumpBy (d : Dev) (a hi lo n : Nat) : Dev := d.setFld a hi lo (min (d.fld a hi lo + n) (2 ^ (hi + 1 - lo) - 1))

/-- Increment a saturating counter field. -/
def Dev.bump (d : Dev) (a hi lo : Nat) : Dev := d.bumpBy a hi lo 1

/-- Store a 64-bit number in a LO/HI register pair. -/
def Dev.wr64 (d : Dev) (lo hi v : Nat) : Dev := (d.wrNat lo v).wrNat hi (v / 2 ^ 32)

/-- The 64-bit number of a LO/HI register pair. -/
def Dev.rd64 (d : Dev) (lo hi : Nat) : Nat := (d.rd lo).toNat + (d.rd hi).toNat * 2 ^ 32

/-- Device time in whole ns. -/
def Dev.nowNs (d : Dev) : Nat := d.time / 65536

end Sys2Proof.Machine
end

