-- ==== Sys2Proof/Machine/Planes.lean ====
section
/-!
DEFINITION. Timing planes and coordinates: frame periods, frame starts and the coordinate of an instant
(spec/02_reference_and_coordinates.md, R85 to R87), and the scheduler compare (spec/03_network_time.md, R99, R100).
-/

namespace Sys2Proof.Machine

/-- Frame period of a RATE code as a fraction of a second (R85); `none` for a plane off or a reserved code. -/
def ratePeriod : Nat → Option (Nat × Nat)
  | 0x1 => some (1001, 24000)
  | 0x2 => some (1, 24)
  | 0x3 => some (1, 25)
  | 0x4 => some (1001, 30000)
  | 0x5 => some (1, 30)
  | 0x6 => some (1001, 48000)
  | 0x7 => some (1, 48)
  | 0x8 => some (1, 50)
  | 0x9 => some (1001, 60000)
  | 0xA => some (1, 60)
  | 0xB => some (1, 100)
  | 0xC => some (1001, 120000)
  | 0xD => some (1, 120)
  | _ => none

/-- Live RATE of a plane. -/
def Dev.planeRate (d : Dev) (tp : Nat) : Nat := d.live (Reg.REF_TP_CFG tp) 3 0

/-- Is the plane on (RATE not 0)? -/
def Dev.planeOn (d : Dev) (tp : Nat) : Bool := (ratePeriod (d.planeRate tp)).isSome

/-- Lines per frame of the plane's reference raster. -/
def Dev.planeLines (d : Dev) (tp : Nat) : Nat := d.live (Reg.REF_TP_CFG tp) 16 4

/-- Samples per total line of the plane's reference raster. -/
def Dev.planeSamples (d : Dev) (tp : Nat) : Nat := d.live (Reg.REF_TP_CFG tp) 30 17

/-- Phase offset of a plane, ns (R85). -/
def Dev.planeOfs (d : Dev) (tp : Nat) : Int := toSigned 32 (d.rd (Reg.REF_TP_OFS tp + 0x800)).toNat

/-- A coordinate F:L:S on a plane (R86). -/
structure Coord where
  tp : Nat
  f : Nat
  l : Nat
  s : Nat
  deriving DecidableEq, Repr

/-- Units of 2⁻¹⁶ ns in one second. -/
def ticksPerSecond : Nat := 65536000000000

/-- The coordinate of a device time (2⁻¹⁶ ns) on a plane (R85, R86); all 0 on a plane that is off. -/
def Dev.coordAt (d : Dev) (tp : Nat) (t : Nat) : Coord :=
  match ratePeriod (d.planeRate tp) with
  | none => ⟨tp, 0, 0, 0⟩
  | some (num, den) =>
    let p := num * ticksPerSecond
    let x := (((t : Int) - d.planeOfs tp * 65536) * (den : Int)).toNat
    let lines := max 1 (d.planeLines tp)
    let y := (x % p) * lines
    ⟨tp, x / p, y / p + 1, (y % p) * (d.planeSamples tp) / p⟩

/-- The coordinate now. -/
def Dev.coordNow (d : Dev) (tp : Nat) : Coord := d.coordAt tp d.time

/-- The first device time (2⁻¹⁶ ns) at or after a coordinate (R85); 0 on a plane that is off. -/
def Dev.instantOf (d : Dev) (c : Coord) : Nat :=
  match ratePeriod (d.planeRate c.tp) with
  | none => 0
  | some (num, den) =>
    let lines := max 1 (d.planeLines c.tp)
    let smp := max 1 (d.planeSamples c.tp)
    let n := ((c.f * lines + (c.l - 1)) * smp + c.s) * (num * ticksPerSecond)
    let q := den * lines * smp
    ((((n + q - 1) / q : Nat) : Int) + d.planeOfs c.tp * 65536).toNat

/-- Duration of n lines of a plane's reference raster, 2⁻¹⁶ ns, rounded up (R86). -/
def Dev.linesTicks (d : Dev) (tp n : Nat) : Nat :=
  match ratePeriod (d.planeRate tp) with
  | none => 0
  | some (num, den) =>
    let q := den * max 1 (d.planeLines tp)
    (n * num * ticksPerSecond + q - 1) / q

/-- The signed 32-bit difference of R99: positive when `a` is later. -/
def diff32 (a b : Nat) : Int := toSigned 32 ((a % 2 ^ 32) + 2 ^ 32 - b % 2 ^ 32)

/-- Is a frame 2³¹ frames or more ahead of the present frame (R100)? -/
def Dev.tooFar (d : Dev) (tp f : Nat) : Bool := decide ((d.coordNow tp).f + 2 ^ 31 ≤ f)

/-- The lowest-numbered plane that is on, else 0. -/
def Dev.firstPlane (d : Dev) : Nat := ((List.range 8).find? fun tp => d.planeOn tp).getD 0

/-- The reference rasters of R786: TOTAL_LINES and INTERLACED. -/
def refRasterOk (lines : Nat) (inter : Bool) : Bool :=
  (lines, inter) ∈ [(525, true), (625, true), (750, false), (1125, false), (1125, true), (2250, false), (4500, false)]

end Sys2Proof.Machine
end

