-- ==== Sys2Proof/Machine/Ops.lean ====
section
/-!
DEFINITION. The named operations every meaning is built from beside those of Machine/Regs.lean: sticky bits with their events and interrupts
(spec/04_register_pages_and_host.md), byte-addressed memory, free values, and lifting an operation on the device or the
memory to the machine.
-/

namespace Sys2Proof.Machine

open Sys2Proof

/-! ### Outputs and free values -/

/-- The device sends something. -/
def Dev.send (d : Dev) (o : Out) : Dev := { d with outbox := d.outbox ++ [o] }

/-- The next free value (notes/assumptions/2.md). -/
def Dev.free (d : Dev) : Nat := Config.freeValue d.freeCount

/-- Count a free value as used. -/
def Dev.useFree (d : Dev) : Dev := { d with freeCount := d.freeCount + 1 }

/-! ### MSI-X (R160 to R162) -/

/-- Is the page number in use (R756)? -/
def pageInUse (page : Nat) : Bool := (pageRow page).isSome

/-- Type code of a page (R756); 0 for a page not in use. -/
def pageType (page : Nat) : Nat := ((pageRow page).map PageRow.code).getD 0

/-- Address of the sticky register of entry e on an entry page (R790). -/
def entryStickyAddr (page e : Nat) : Option Nat :=
  match pageType page with
  | 0x1E => some (page * 0x1000 + 0x140 + e * 0x60)
  | 0x1F => some (page * 0x1000 + 0x128 + e * 0x40)
  | 0x20 => some (page * 0x1000 + 0x154 + e * 0x60)
  | 0x21 => some (page * 0x1000 + 0x154 + e * 0x60)
  | 0x22 => some (page * 0x1000 + 0x128 + e * 0x40)
  | _ => none

/-- What PG_STICKY of a page reads: on an entry page bits 0 to 15 are the OR of each entry's sticky register (R790). -/
def Dev.stickyWord (d : Dev) (page : Nat) : Word :=
  if (entryStickyAddr page 0).isSome then
    (List.range 16).foldl
      (fun w e => match entryStickyAddr page e with
        | some a => if d.rd a = 0 then w else setBits w e e 1
        | none => w)
      (d.rd (Reg.PG_STICKY page))
  else d.rd (Reg.PG_STICKY page)

/-- A page is pending (R160). -/
def Dev.pagePending (d : Dev) (page : Nat) : Bool :=
  decide ((d.stickyWord page &&& d.rd (Reg.PG_IRQ_EN page)) ≠ 0) || decide (d.rd (Reg.PG_IRQ_FORCE page) ≠ 0)

/-- MSI-X vector of a page (PG_CTRL.VECTOR); 0 sends nothing. -/
def Dev.vectorOf (d : Dev) (page : Nat) : Nat := d.fld (Reg.PG_CTRL page) 13 8

/-- A vector is pending while any page whose VECTOR names it is pending (R160). A page whose PG_CTRL is at reset names
no vector, so the listed PG_CTRL words are all that can name one. -/
def Dev.vectorPending (d : Dev) (v : Nat) : Bool :=
  d.regs.any fun p => p.1 % 0x1000 == 0x00C && bits p.2 13 8 == v && v != 0 && d.pagePending (p.1 / 0x1000)

/-- Word i of the MSI-X table: 4 words per vector, the last of them Vector Control, whose mask bit is 1 until written
(PCI Express 4.0; notes/assumptions/6.md). -/
def msixReset (i : Nat) : Word := if i % 4 = 3 then 1 else 0

/-- Is the vector masked in the MSI-X table? -/
def Dev.vectorMasked (d : Dev) (v : Nat) : Bool := bit (Sparse.get msixReset d.hostif.msixTable (4 * v + 3)) 0

/-- Set or clear a bit of the pending bit array. -/
def Dev.setPba (d : Dev) (v : Nat) (b : Bool) : Dev :=
  let m : BitVec 64 := 1#64 <<< v
  { d with hostif := { d.hostif with pba := if b then d.hostif.pba ||| m else d.hostif.pba &&& ~~~ m } }

/-- A message of a vector falls due: it is sent, or its pending bit is set while it is masked or the function cannot
send (R161). -/
def Dev.msixDue (d : Dev) (v : Nat) : Dev :=
  if d.hostif.linkUp && d.hostif.msgEnable && !d.vectorMasked v then (d.setPba v false).send (.msix v)
  else d.setPba v true

/-- Re-evaluate the vector of a page after a change on it: one message when the vector becomes pending, and one more
after a clearing write that leaves it pending (`again`, R161). -/
def Dev.irqUpdate (d : Dev) (page : Nat) (again : Bool) : Dev :=
  let v := d.vectorOf page
  if v = 0 then d
  else
    let was := d.hostif.vecPend.getLsbD v
    let now := d.vectorPending v
    let m : BitVec 64 := 1#64 <<< v
    let d1 : Dev := { d with hostif := { d.hostif with
      vecPend := if now then d.hostif.vecPend ||| m else d.hostif.vecPend &&& ~~~ m } }
    if now && (!was || again) then d1.msixDue v else d1

/-- Level of IRQ_N, low while a vector selected in SYS_IRQN_MASK is pending (R162), and in the halt of R739. -/
def Dev.irqN (d : Dev) : Bool :=
  d.power.run != .halted && !((List.range 64).any fun v =>
    (if v < 32 then d.flag Reg.SYS_IRQN_MASK_LO v else d.flag Reg.SYS_IRQN_MASK_HI (v - 32)) && d.vectorPending v)

/-- A status change that a chapter assigns to PG_IRQ_EN bit n (R760). -/
def Dev.statusIrq (d : Dev) (page n : Nat) : Dev :=
  if d.flag (Reg.PG_IRQ_EN page) n then (d.setFlag (Reg.PG_IRQ_FORCE page) n true).irqUpdate page false else d

/-! ### Event log (R163 to R167) -/

/-- The plane whose coordinate an event carries: that of the block (entry `e` of an entry page), else plane 0
(notes/assumptions/7.md). -/
def Dev.eventPlane (d : Dev) (page e : Nat) : Nat :=
  match pageType page with
  | 0x10 => d.live Reg.TWN_CFG 2 0
  | 0x11 => d.live Reg.PWR_CFG 2 0
  | 0x17 => d.live (Reg.FIL_OUT_CFG (page - 0x40)) 3 1
  | 0x1B => d.live (Reg.SDI_RX_CFG (page - 0x200)) 2 0
  | 0x1E => d.live (Reg.TAKE_DST_CFG ((page - 0x600) * 16 + e)) 3 1
  | 0x1F => d.live (Reg.TAKE_DST_CFG ((page - 0x680) * 16 + e)) 3 1
  | 0x20 => d.live (Reg.FLW_RX_CFG ((page - 0x800) * 16 + e)) 10 8
  | 0x21 => d.live (Reg.TAKE_DST_CFG (d.live (Reg.FLW_TX_CFG ((page - 0x900) * 16 + e)) 18 8)) 3 1
  | 0x22 => d.live (Reg.TAKE_DST_CFG (d.live (Reg.AUD_O_CFG ((page - 0xA00) * 16 + e)) 26 16)) 3 1
  | _ => 0

/-- Set a sticky bit of a page with no event of its own and re-evaluate the page's interrupt. -/
def Dev.stickyOnly (d : Dev) (page n : Nat) : Dev := (d.setFlag (Reg.PG_STICKY page) n true).irqUpdate page false

/-- Write one event entry (R163): code, source page, argument and the coordinate now of a plane. The rate limit of R610
counts those beyond 16,384 in one second in TMP_EVT_DROP; while the journal is sealed nothing is written to Temper
(R602). -/
def Dev.logCode (d : Dev) (page code arg tp : Nat) : Dev :=
  if d.fld Reg.TMP_STAT 1 0 = 3 then d
  else
    let sec := d.nowNs / 1000000000
    let cnt := if sec = d.evlog.second then d.evlog.inSecond else 0
    if cnt ≥ 16384 then d.bump Reg.TMP_EVT_DROP 15 0
    else
      let seq := (d.rd Reg.SYS_EVT_WR).toNat
      let c := d.coordNow tp
      let e : Event := ⟨code, page, seq, d.nowNs, c.f, c.l, tp, c.s, d.flag (Reg.PG_STAT Reg.pagePTP) 0, false, 0, arg⟩
      let keep := if d.evlog.entries.length ≥ 65536 then d.evlog.entries.drop 1 else d.evlog.entries
      let d1 : Dev := { d with evlog := ⟨keep ++ [e], sec, cnt + 1⟩ }
      (d1.wrNat Reg.SYS_EVT_WR (seq + 1)).stickyOnly Reg.pageSYS 7

/-- The argument of an event: that of its row in R166 or R167, and 0 for a sticky bit with no row. -/
def eventArg (type num arg : Nat) : Nat :=
  if 31 ≤ num then arg
  else
    let kept : List (Nat × List Nat) :=
      [(0x01, [0, 3, 6]), (0x02, [6, 16, 17, 18, 19, 20, 21, 22, 23]), (0x07, [4]), (0x08, [0, 4, 5, 7, 8]), (0x0B, [2]),
        (0x0D, [0, 1]), (0x0E, [1, 2, 6]), (0x10, [1, 6]), (0x11, [0, 1, 2]), (0x12, [1]), (0x14, [1, 2]), (0x15, [0]),
        (0x1A, [0]), (0x1B, [0, 9])]
    if type = 0x1E ∨ kept.any (fun k => k.1 == type && k.2.contains num) then arg else 0

/-- Event number `num` of a page (R165). -/
def Dev.logEvent (d : Dev) (page num arg : Nat) : Dev :=
  d.logCode page (pageType page * 256 + num) (eventArg (pageType page) num arg) (d.eventPlane page 0)

/-- Set bit n of PG_STICKY, logging its event each time the condition is reported. -/
def Dev.raiseLog (d : Dev) (page n arg : Nat) : Dev := (d.stickyOnly page n).logEvent page n arg

/-- Set bit n of PG_STICKY; its event is logged when the bit changes from 0 to 1 (R165). -/
def Dev.raise (d : Dev) (page n arg : Nat) : Dev :=
  if d.flag (Reg.PG_STICKY page) n then d else d.raiseLog page n arg

/-- Set bit n of the sticky register of entry e of an entry page; event number e carries n in [20:16] (R165, R166). -/
def Dev.raiseEntryLog (d : Dev) (page e n arg : Nat) : Dev :=
  match entryStickyAddr page e with
  | none => d
  | some a => 
    ((d.setFlag a n true).irqUpdate page false).logCode page (pageType page * 256 + e)
      (eventArg (pageType page) e arg + n * 0x10000)
      (d.eventPlane page e)

/-- As `raiseEntryLog`, with the event logged when the bit changes from 0 to 1. -/
def Dev.raiseEntry (d : Dev) (page e n arg : Nat) : Dev :=
  match entryStickyAddr page e with
  | none => d
  | some a => if d.flag a n then d else d.raiseEntryLog page e n arg

/-! ### Owners (R149 to R153, R640, R757) -/

/-- Owner class code of a page: HOST on the pages whose owner is fixed (R152, R759), else PG_OWNER. -/
def Dev.ownerOf (d : Dev) (page : Nat) : Nat :=
  if page ∈ [Reg.pageDIR, Reg.pageSYS, Reg.pagePWR, Reg.pageHAL] then 0 else d.fld (Reg.PG_OWNER page) 1 0

/-- A write from a non-owner: OWNER_VIOL, its count, its record and its event (R153; on page 0, R757). -/
def Dev.ownerViol (d : Dev) (page off : Nat) (w : Writer) : Dev :=
  let arg := off / 4 + w.cls.code * 0x1000
  let d1 := (d.bump Reg.SYS_OWNER_VIOL_CNT 15 0).wrNat Reg.SYS_OWNER_VIOL_LAST
    (page + (off / 4) * 0x10000 + w.cls.code * 0x10000000)
  if page = 0 then d1.logEvent page 31 arg else d1.raiseLog page 31 arg

/-- Is this unit a twin standby, in step or receiving its copy (TWN_STAT.STATE 3 or 2, R629, R640)? -/
def Dev.isStandby (d : Dev) : Bool := d.fld Reg.TWN_STAT 2 0 == 3 || d.fld Reg.TWN_STAT 2 0 == 2

/-- A standby follows the decisions of the active unit until a takeover is decided (R638, R649). -/
def Dev.following (d : Dev) : Bool := d.isStandby && d.twin.takeover.isNone

/-- Does a standby accept a write at this page and offset (R640)? -/
def standbyAccepts (page off : Nat) : Bool :=
  page == Reg.pageTWN || page == Reg.pagePWR ||
    (page == Reg.pageSYS && !(decide (0x100 ≤ off) && decide (off < 0x200)) && off != 0x0D0)

/-- What becomes of a write before its register is looked at. -/
inductive Gate where
  | ignored        -- a page not in use, or page 0 written by HOST
  | violation      -- a write from a non-owner (R153)
  | standby        -- a standby unit ignores it (R640)
  | open_          -- the write reaches its register
  deriving DecidableEq, Repr

/-- The gate of a write of class `w` to an offset of a page. -/
def Dev.gate (d : Dev) (page off : Nat) (w : Writer) : Gate :=
  if !pageInUse page then .ignored
  else if w.cls.code ≠ d.ownerOf page then .violation
  else if page = 0 then .ignored
  else if d.isStandby && !standbyAccepts page off then .standby
  else .open_

/-- A write that passes its gate has the effect `f`; one that does not leaves its trace. -/
def Dev.gated (d : Dev) (page off : Nat) (w : Writer) (f : Dev → Dev) : Dev :=
  match d.gate page off w with
  | .ignored => d
  | .violation => d.ownerViol page off w
  | .standby => (d.bump Reg.TWN_STBY_WR 31 0).raise Reg.pageTWN 9 0
  | .open_ => f d

/-- A trigger register's other fields read back as written (R137, type TR): store the parameters under `mask`. -/
def Dev.wrParams (d : Dev) (a mask v : Nat) : Dev :=
  d.wrNat a (((d.rd a).toNat &&& (0xFFFFFFFF ^^^ mask)) ||| (v &&& mask))

/-! ### Journal (R592 to R595, R635) -/

/-- Records that are durable join the ring (R592). -/
def Dev.jPut (d : Dev) (recs : List JRecord) : Dev :=
  let j := d.journal
  let n := recs.length
  let sec := d.nowNs / 1000000000
  let cnt := (if sec = j.second then j.inSecond else 0) + n
  let ring := j.ring ++ recs
  let d1 : Dev := { d with journal := { j with
    ring := ring.drop (ring.length - 1048576)
    nextSeq := j.nextSeq + n
    second := sec
    inSecond := cnt } }
  (d1.wrNat Reg.TMP_JSEQ_LO (j.nextSeq + n)).setFld Reg.TMP_RATE 18 0 cnt

/-- Append records as one durable group, unless the journal is sealed (R602) or this unit is a standby, which journals what its
epochs bring (R637). The active unit of a pair whose Clasp is up keeps them for the epoch that is open (R635). -/
def Dev.jAppend (d : Dev) (bodies : List JBody) : Dev :=
  if d.fld Reg.TMP_STAT 1 0 = 3 ∨ bodies = [] ∨ d.following = true then d
  else
    let n := bodies.length
    let recs : List JRecord := bodies.mapIdx fun i b =>
      ⟨d.journal.nextSeq + i, i + 1 != n, d.journal.segment, d.nowNs % 2 ^ 32, b⟩
    let d1 := d.jPut recs
    if d.fld Reg.TWN_STAT 2 0 = 4 ∧ d.fld Reg.TWN_STAT 11 8 ≠ 0 then
      { d1 with journal := { d1.journal with
        epoch := d1.journal.epoch ++ recs
        epochAt := if d.journal.epoch = [] then d.nowNs else d.journal.epochAt } }
    else d1

/-- Request a group: its effect happens when it is durable (R594). -/
def Dev.jRequest (d : Dev) (bodies : List JBody) (e : JEffect) : Dev :=
  { d with journal := { d.journal with queue := d.journal.queue ++ [⟨bodies, e⟩] } }

/-! ### Services (R168, R174) -/

/-- Is a service of the Chart's MGMT section enabled, with the control cores running: 0 control protocol, 1 NMOS, 2 LLDP? -/
def Dev.serviceOn (d : Dev) (n : Nat) : Bool := (d.hostif.chart.any fun c => (c.mgmt.getD 1 0).getLsbD n) && !d.power.cores

/-! ### Memory beside the device -/

/-- What a byte of DRAM or host memory that nothing has written reads as (notes/assumptions/4.md). -/
def memReset (_a : Nat) : Byte := 0

/-- Both memories are in canonical form. -/
def Mem.wf (m : Mem) : Bool := Sparse.wf memReset m.dram && Sparse.wf memReset m.host

/-- One byte of DRAM (`true`) or host memory. -/
def Mem.byte (m : Mem) (dram : Bool) (a : Nat) : Byte := Sparse.get memReset (if dram then m.dram else m.host) a

/-- Write one byte. -/
def Mem.setByte (m : Mem) (dram : Bool) (a : Nat) (v : Byte) : Mem :=
  if dram then { m with dram := Sparse.set memReset m.dram a v } else { m with host := Sparse.set memReset m.host a v }

/-- `n` bytes from an address. -/
def Mem.bytes (m : Mem) (dram : Bool) (a n : Nat) : List Byte := (List.range n).map fun i => m.byte dram (a + i)

/-- A little-endian number of `n` bytes from an address. -/
def Mem.nat (m : Mem) (dram : Bool) (a n : Nat) : Nat := natLE (m.bytes dram a n)

/-- Write bytes from an address on. -/
def Mem.setBytes (m : Mem) (dram : Bool) (a : Nat) : List Byte → Mem
  | [] => m
  | b :: t => (m.setByte dram a b).setBytes dram (a + 1) t

/-- What host software has put into host memory before a command (notes/assumptions/5.md). -/
def Mem.hostWrote (m : Mem) (cells : List Host.Cell) : Mem :=
  cells.foldl (fun acc c => acc.setByte false c.1 c.2) m

/-! ### Lifting to the machine -/

/-- What a command does to a device that runs. One held in reset, halted, in DEEP or in OFF does not answer to it
(R660, R734, R739). -/
def Dev.whenUp (d : Dev) (f : Dev → Dev) : Dev := if d.power.run = .up then f d else d

/-- An effect on the device alone. -/
def State.onDev (s : State) (f : Dev → Dev) : Host.Outcome State Fault Refusal := .next { s with dev := s.dev.whenUp f }

/-- An effect that the device has in every power state: the pins of R731 to R735 and the wakes of R669. -/
def State.onAny (s : State) (f : Dev → Dev) : Host.Outcome State Fault Refusal := .next { s with dev := f s.dev }

/-- An effect on the device that reads memory as host software has left it; memory itself is otherwise unchanged. -/
def State.onDevHost (s : State) (cells : List Host.Cell) (f : Mem → Dev → Dev) : Host.Outcome State Fault Refusal :=
  let m := s.mem.hostWrote cells
  .next { s with dev := s.dev.whenUp (f m), mem := m }

/-- An effect on device and memory. -/
def State.onBoth (s : State) (f : Dev → Mem → Dev × Mem) : Host.Outcome State Fault Refusal :=
  if s.dev.power.run = .up then
    let r := f s.dev s.mem
    .next { s with dev := r.1, mem := r.2 }
  else .next s

/-- A command whose operands some bus of the hardware can carry has its effect; any other is a fault. -/
def guarded (ok : Bool) (o : Host.Outcome State Fault Refusal) : Host.Outcome State Fault Refusal :=
  if ok then o else .fault .badOperand

end Sys2Proof.Machine
end

