-- ==== Sys2Proof/Machine/Operands.lean ====
section
/-!
DEFINITION. The operand forms of the commands: which operands the block's buses and services can carry
(spec/04_register_pages_and_host.md, R130, R131, R169; spec/16_memory_and_interconnect.md, R562, R565, R576). A command outside
them has no counterpart in the hardware: `guarded` turns it into a fault, and `Sys2Proof.wellFormed` is false of it.
-/

namespace Sys2Proof.Machine

open Sys2Proof

/-- The address of a BAR0 word (R130, R131). -/
def bar0Word (a : Nat) : Bool := decide (a < 0x4000000) && a % 4 == 0

/-- A BAR0 access that is not a naturally aligned 32-bit access (R131). -/
def badAccess (addr size : Nat) : Bool := decide (addr < 0x4000000) && decide (0 < size) && !(size == 4 && addr % 4 == 0)

/-- Write data, where there is any, has the length of the access. -/
def dataOk (len : Nat) (data? : Option (List Byte)) : Bool :=
  match data? with
  | some b => b.length == len
  | none => true

/-- An access of a DRAM port: bytes of one burst of 64 (R562, R565). -/
def burstOk (p len : Nat) (data? : Option (List Byte)) : Bool :=
  decide (0 < len) && decide (p % 64 + len ≤ 64) && dataOk len data?

/-- A burst of 64 bytes holds 8 code words: at most 8 errors are found in it. -/
def eccOk (ecc : DramEcc) : Bool := decide (ecc.corrected + ecc.uncorrectable ≤ 8)

/-- A transaction of the bus matrix: 1 to 256 bytes within 64 address bits (R576, R580). -/
def busOk (addr len : Nat) (data? : Option (List Byte)) : Bool :=
  decide (0 < len) && decide (len ≤ 256) && decide (addr + len ≤ 2 ^ 64) && dataOk len data?

/-- An IS-05 activation is of a page of flows, and its writes are at words of the page (R169). -/
def is05Ok (page : Nat) (writes : List (Nat × Word)) : Bool :=
  (pageType page == 0x20 || pageType page == 0x21) && writes.all fun x => decide (x.1 < 0x800) && x.1 % 4 == 0

end Sys2Proof.Machine
end

