-- ==== Sys2Proof/Machine/Bellows.lean ====
section
/-!
DEFINITION. The Bellows: candidates and their qualification, selection, states, slew and step, holdover memory, the
loops, PPS_OUT (spec/02_reference_and_coordinates.md, R56 to R95, R786 to R788). Phases are candidate minus device time
in 0.25 ns; frequencies and corrections are in 10⁻¹².
-/

namespace Sys2Proof.Machine

open Sys2Proof

/-- State codes of REF_STATE.STATE (R71). -/
def belFreeRun : Nat := 0
def belAcquiring : Nat := 1
def belLocked : Nat := 2
def belHoldover : Nat := 3
def belLost : Nat := 4

/-- Bellows state. -/
def Dev.belState (d : Dev) : Nat := d.fld Reg.REF_STATE 2 0

/-- Move the Bellows to a state. -/
def Dev.setBelState (d : Dev) (v : Nat) : Dev := d.setFld Reg.REF_STATE 2 0 v

/-- REF_STAT[1:0] for a state (R71). -/
def refStatPins (st : Nat) : Nat := if st = 1 then 1 else if st = 2 then 2 else if st = 3 then 3 else 0

/-- Active candidate, if one exists. -/
def Dev.activeCand (d : Dev) : Option Nat :=
  if d.flag Reg.REF_STATE 7 then some (d.fld Reg.REF_STATE 6 4) else none

/-- Set or clear the active candidate, in REF_STATE and in each REF_CANDn_STAT. -/
def Dev.setActive (d : Dev) (c : Option Nat) : Dev :=
  let d1 := match c with
    | some n => (d.setFld Reg.REF_STATE 6 4 n).setFlag Reg.REF_STATE 7 true
    | none => (d.setFld Reg.REF_STATE 6 4 0).setFlag Reg.REF_STATE 7 false
  (List.range 8).foldl (fun a n => a.setFlag (Reg.REF_CAND_STAT n) 5 (c == some n)) d1

/-- Rank in force of a candidate; 15 is excluded (R788). -/
def Dev.rankOf (d : Dev) (c : Nat) : Nat := d.live (Reg.REF_CAND_CTRL c) 3 0

/-- Is a candidate qualified? -/
def Dev.qualified (d : Dev) (c : Nat) : Bool := d.flag (Reg.REF_CAND_STAT c) 4

/-- A candidate's measurements and hold-off. -/
def Dev.cand (d : Dev) (c : Nat) : Cand := d.bellows.cands.getD c Cand.reset

/-- Replace a candidate's measurements and hold-off. -/
def Dev.setCand (d : Dev) (c : Nat) (x : Cand) : Dev :=
  { d with bellows := { d.bellows with cands := d.bellows.cands.set c x } }

/-- Frequency correction in force. -/
def Dev.corrNow (d : Dev) : Int := toSigned 32 (d.rd Reg.REF_FREQ_NOW).toNat

/-- Record a measured phase of a candidate. -/
def Dev.measurePhase (d : Dev) (c : Nat) (phase : Int) : Dev :=
  (d.setCand c { d.cand c with phase := phase }).wrSat (Reg.REF_CAND_POFS c) phase

/-- Record a measurement of a candidate, its frequency as an offset from device time, in State and in its POFS and FOFS
registers. -/
def Dev.measure (d : Dev) (c : Nat) (phase freq : Int) : Dev :=
  ((d.setCand c { d.cand c with phase := phase, freq := d.corrNow + freq }).wrSat (Reg.REF_CAND_POFS c) phase).wrSat
    (Reg.REF_CAND_FOFS c) freq

/-- The ±50 ppm limit of R80. -/
def clampCorr (c : Int) : Int := max (-50000000) (min 50000000 c)

/-- Put a frequency correction in force, within the limit of R80. -/
def Dev.setCorr (d : Dev) (c : Int) : Dev := d.wrSat Reg.REF_FREQ_NOW (clampCorr c)

/-- Holdover memory valid. -/
def Dev.hoValid (d : Dev) : Bool := d.flag Reg.REF_STATE 9

/-- The correction a slew starts from: the holdover memory, or zero when it is invalid (R80, R81). -/
def Dev.slewBase (d : Dev) : Int := if d.hoValid then toSigned 32 (d.rd Reg.REF_HO_MEM).toNat else 0

/-- SLEW_MAX in 10⁻¹². -/
def Dev.slewMax (d : Dev) : Int := (d.live Reg.REF_LIMITS 6 0 : Int) * 1000000

/-- Show in REF_STATE the lowest-numbered candidate whose hold-off runs (R66). -/
def Dev.showHoldoff (d : Dev) : Dev :=
  match (List.range 8).find? fun c => (d.cand c).holdoffRun with
  | some c => ((d.setFlag Reg.REF_STATE 10 true).setFld Reg.REF_STATE 14 12 c).setFld Reg.REF_STATE 31 16
      (d.live Reg.REF_HOLDOFF 9 0)
  | none => ((d.setFlag Reg.REF_STATE 10 false).setFld Reg.REF_STATE 14 12 0).setFld Reg.REF_STATE 31 16 0

/-- `a` is a better choice than `b` for best() of R65: lower rank, then frequency closer to the holdover memory, then
the lower index. -/
def Dev.betterCand (d : Dev) (a b : Nat) : Bool :=
  if d.rankOf a ≠ d.rankOf b then decide (d.rankOf a < d.rankOf b)
  else
    let dist := fun c => ((d.cand c).freq - d.slewBase).natAbs
    if d.hoValid && dist a != dist b then decide (dist a < dist b) else decide (a < b)

/-- best() of R65. -/
def Dev.bestCand (d : Dev) : Option Nat :=
  (List.range 8).foldl
    (fun acc c =>
      if d.qualified c && d.rankOf c != 15 then
        match acc with
        | none => some c
        | some b => if d.betterCand c b then some c else acc
      else acc)
    none

/-- Begin a slew or set a step toward the active candidate (R81). -/
def Dev.startMove (d : Dev) (c : Nat) : Dev :=
  let e := (d.cand c).phase
  let delta := (d.cand c).freq - d.slewBase
  let room : Int := d.slewMax - (delta.natAbs : Int)
  if 0 < room ∧ (e.natAbs : Int) * 125 ≤ room then
    let dir : Int := if e < 0 then -1 else 1
    (({ d with bellows := { d.bellows with slew := some e, stepDue := none } } : Dev).setFlag Reg.REF_STATE 8 true).setCorr
      (d.slewBase + dir * d.slewMax)
  else
    { d with bellows := { d.bellows with slew := none, stepDue := some e } }

/-- switch() of R65: the candidate becomes active, the Bellows acquires, FALLBACK is set when its rank number is higher
than that of the candidate it replaces (R68), and the move of R81 begins. -/
def Dev.switchTo (d : Dev) (c : Nat) : Dev :=
  let fb := match d.activeCand with
    | some a => decide (d.rankOf a < d.rankOf c)
    | none => false
  let d1 := if fb then d.raise Reg.pageREF 5 0 else d
  let d2 : Dev := if c = 4 then (d1.setFlag Reg.PTP_STATE 9 false) else d1
  let d2 : Dev := { d2 with bellows := { d2.bellows with relock := false } }
  ((d2.setActive (some c)).setBelState belAcquiring).startMove c

/-- No candidate can be used: HOLDOVER with a valid memory, else FREE_RUN at the restored correction (R65, R71, R72). -/
def Dev.enterHold (d : Dev) : Dev :=
  let was := d.belState
  let d1 := ({ d with bellows := { d.bellows with
    slew := none, stepDue := none, longHold := d.bellows.longHold && was == belHoldover } } : Dev).setFlag Reg.REF_STATE 8 false
  let d2 := d1.setActive none
  if was = belHoldover then d2
  else if d.hoValid then
    let d3 := (d2.setBelState belHoldover).setCorr d.slewBase
    if was = belAcquiring ∨ was = belLocked then d3.raise Reg.pageREF 3 0 else d3
  else if was = belFreeRun then d2
  else (d2.setBelState belFreeRun).setCorr d.bellows.restored

/-- The selection procedure of R65; in LOST no candidate is used (R73), and during a slew it waits (R69). -/
def Dev.select (d : Dev) (rankCommit : Bool) : Dev :=
  if d.belState = belLost ∨ d.bellows.slew.isSome ∨ (d.isStandby = true ∧ d.fld Reg.TWN_STAT 11 8 ≠ 0) then d
  else
    match d.activeCand, d.bestCand with
    | some a, some b =>
      if d.qualified a && d.rankOf a != 15 then
        if rankCommit && decide (d.rankOf b < d.rankOf a) then d.switchTo b
        else if d.liveFlag Reg.REF_CTRL 0 && decide (d.rankOf b < d.rankOf a) && (d.cand b).holdoffDone then d.switchTo b
        else d
      else d.switchTo b
    | none, some b => d.switchTo b
    | _, none => d.enterHold

/-- A candidate is disqualified with a reason (R64, R66): its CAND_LOST bit, its FAULTS count, its event, its hold-off
cancelled, and selection. On a candidate that is not qualified only the reason shows. A slew toward it ends with it. -/
def Dev.disqualify (d : Dev) (c reason : Nat) : Dev :=
  if d.rankOf c = 15 then d
  else
    let d0 := d.setFld (Reg.REF_CAND_STAT c) 3 0 reason
    let d1 := (d0.setCand c { d0.cand c with holdoffRun := false, holdoffDone := false, deferred := false }).showHoldoff
    if d.qualified c then
      let d2 := ((d1.setFlag (Reg.REF_CAND_STAT c) 4 false).bump (Reg.REF_CAND_STAT c) 31 16).raiseLog
        Reg.pageREF (16 + c) (c + reason * 256)
      let d3 := if d2.activeCand = some c then
          ({ d2 with bellows := { d2.bellows with slew := none, stepDue := none } } : Dev).setFlag Reg.REF_STATE 8 false
        else d2
      d3.select false
    else d1

/-- A candidate starts qualifying again: REASON reads QUALIFYING (R787). -/
def Dev.startQualifying (d : Dev) (c : Nat) : Dev := d.setFld (Reg.REF_CAND_STAT c) 3 0 3

/-- May the candidate qualify at all: fitted (R788), and for candidate 7 not on a manager (R60), for candidate 4 the PTP
service enabled (R787). -/
def Dev.candAllowed (d : Dev) (c : Nat) : Bool :=
  d.rankOf c != 15 && (c != 7 || d.fld Reg.HIE_ROLE 1 0 != 0) && (c != 4 || d.liveFlag Reg.PTP_CTRL 0)

/-- A pulse of candidate `c` (R61, R62, R787). A clean pulse of a candidate that is not qualified starts or continues its
qualification. -/
def Dev.refPulse (d : Dev) (c : Nat) (kind : PulseKind) (phase freq : Int) : Dev :=
  match kind with
  | .inPlace =>
    let d1 := d.measure c phase freq
    if d1.candAllowed c && !d1.qualified c then d1.startQualifying c else d1
  | .displaced | .extra | .missing => d.disqualify c 5
  | .wrongPeriod => d.disqualify c 6

def execRefinFrmPulse (n : Fin 4) (kind : PulseKind) (phase freq : Int) (s : State) :=
  s.onDev fun d => d.refPulse n.val kind phase freq

def execPpsInPulse (kind : PulseKind) (phase freq : Int) (s : State) :=
  s.onDev fun d => d.refPulse 5 kind phase freq

/-- R61, R787: ABSENT. -/
def execRefClockAbsent (c : RefClock) (s : State) := s.onDev fun d => d.disqualify c.cand 2

/-- R61, R81, R787: FREQ_OOT. -/
def execCandidateFreqOot (c : RefClock) (s : State) := s.onDev fun d => d.disqualify c.cand 4

/-- A candidate qualifies (R61). During a slew a candidate of better rank than the active one waits for the slew's end
(R69). A candidate that needs a correction beyond ±50 ppm does not qualify (R81). Its hold-off starts (R66), and
selection is evaluated (R65). -/
def Dev.qualify (d : Dev) (c : Nat) (phase freq : Int) : Dev :=
  if !d.candAllowed c || d.qualified c then d
  else
    let d1 := d.measure c phase freq
    if decide ((50000000 : Int) < d.corrNow + freq) || decide (d.corrNow + freq < -50000000) then d1.setFld (Reg.REF_CAND_STAT c) 3 0 4
    else
      let better := match d.activeCand with
        | some a => decide (d.rankOf c < d.rankOf a)
        | none => false
      if d.bellows.slew.isSome && better then
        (d1.setCand c { d1.cand c with deferred := true }).startQualifying c
      else
        let d2 := (d1.setFld (Reg.REF_CAND_STAT c) 3 0 0).setFlag (Reg.REF_CAND_STAT c) 4 true
        let d3 := (d2.setCand c { d2.cand c with
          holdoffRun := true, holdoffDone := false, deferred := false, holdoffFrom := d2.nowNs }).showHoldoff
        d3.select false

def execCandidateQualifies (c : Fin 8) (phase freq : Int) (s : State) := s.onDev fun d => d.qualify c.val phase freq

/-- The hold-off of a candidate ends, and selection is evaluated (R65, R66). -/
def Dev.holdoffEnd (d : Dev) (c : Nat) : Dev :=
  if (d.cand c).holdoffRun then
    ((d.setCand c { d.cand c with holdoffRun := false, holdoffDone := true }).showHoldoff).select false
  else d

def execHoldoffEnd (c : Fin 8) (s : State) := s.onDev fun d => d.holdoffEnd c.val

/-- A slew ends: its move is made, deferred candidates begin their qualification, selection runs (R65, R69). -/
def Dev.slewEnd (d : Dev) : Dev :=
  match d.bellows.slew with
  | none => d
  | some _ =>
    let d1 := ({ d with bellows := { d.bellows with
        slew := none, cands := d.bellows.cands.map fun x => { x with deferred := false } } } : Dev).setFlag Reg.REF_STATE 8 false
    let d2 := match d.activeCand with
      | some a => d1.setCorr (d.cand a).freq
      | none => d1
    d2.select false

def execSlewEnd (s : State) := s.onDev Dev.slewEnd

/-- The plane a step is anchored to: STEP_TP, else the lowest-numbered plane that is on, else none (R81). -/
def Dev.stepPlane (d : Dev) : Option Nat :=
  let tp := d.live Reg.REF_CTRL 6 4
  if d.planeOn tp then some tp else (List.range 8).find? fun n => d.planeOn n

/-- Step device time by E (R81, R82): device time moves, every candidate's phase with it, COORD_STEP is set, its event
logged and E recorded in ns. STEPPED shows a step under candidate 4. -/
def Dev.timeStep (d : Dev) : Dev :=
  match d.bellows.stepDue with
  | none => d
  | some e =>
    let d1 : Dev := { d with
      time := ((d.time : Int) + e * 16384).toNat
      bellows := { d.bellows with
        stepDue := none, cands := d.bellows.cands.map fun x => { x with phase := x.phase - e } } }
    let d2 := d1.wrSat Reg.REF_STEP_LAST (e / 4)
    let d3 := if d.activeCand = some 4 then d2.setFlag Reg.PTP_STATE 9 true else d2
    d3.raiseLog Reg.pageREF 6 (ofSigned 32 (satSigned 32 (e / 4000)))

def execTimeStep (s : State) := s.onDev Dev.timeStep

/-- TAU of the holdover memory in ms (R76). -/
def tauMs (code : Nat) : Int :=
  if code = 0 then 600000 else if code = 1 then 3600000 else if code = 2 then 21600000 else 86400000

/-- Temper keeps the holdover memory and its validity (R588). -/
def Dev.hoKeep (d : Dev) : Dev :=
  d.jAppend [.pageWrite Reg.pageREF [(Reg.REF_HO_MEM, d.rd Reg.REF_HO_MEM), (Reg.REF_STATE, d.rd Reg.REF_STATE &&& 0x200)]]

/-- The holdover average follows the correction, in LOCKED only; its first update starts from the correction in force
(R76). -/
def Dev.hoUpdate (d : Dev) : Dev :=
  if d.belState ≠ belLocked then d
  else
    let c := d.corrNow * 4294967296
    let avg := match d.bellows.hoAvg with
      | none => c
      | some a => a + (c - a) / tauMs (d.fld Reg.REF_HO_CTRL 17 16)
    let d1 := ({ d with bellows := { d.bellows with hoAvg := some avg } } : Dev).wrSat Reg.REF_HO_MEM (avg / 4294967296)
    if d1.rd Reg.REF_HO_MEM = d.rd Reg.REF_HO_MEM then d1 else d1.hoKeep

/-- Every 1 ms (R79, R80, R72): with the hardware loop the filter sets the correction from the phase error; during a slew
the correction is SLEW_MAX from its base; a LOCKED phase error beyond UNLOCK_THR loses lock (and with candidate 4 in PI
mode may step once more, R116; candidate 7 steps, R748). The holdover average follows. The gains are open (notes/assumptions/8.md). -/
def Dev.loopUpdate (d : Dev) (phase : Int) : Dev :=
  match d.activeCand with
  | none => d
  | some a =>
    if d.belState = belLost then d
    else
      let d1 := (d.setCand a { d.cand a with phase := phase }).wrSat (Reg.REF_CAND_POFS a) phase
      let sw := d.liveFlag Reg.REF_CTRL 1
      let stepRate := a == 4 && d.flag Reg.PTP_STATE 0
      let d2 := if sw then d1 else d1.wrSat Reg.REF_PHERR phase
      let d3 :=
        if sw || d.bellows.slew.isSome || stepRate then d2
        else d2.setCorr (Config.piFilter (d.live (Reg.REF_CAND_CTRL a) 13 12) phase d.corrNow)
      let d4 :=
        if d.belState = belLocked ∧ d.live Reg.REF_LOCK_THR 31 16 * 4 < phase.natAbs ∧ d.qualified a then
          let x := (d3.setBelState belAcquiring).raise Reg.pageREF 2 0
          { x with bellows := { x.bellows with relock := true } }
        else d3
      let again := a == 7 || (a == 4 && !stepRate && d4.bellows.relock)
      let d5 : Dev :=
        if !sw && again && d4.bellows.slew.isNone && d4.bellows.stepDue.isNone && decide (d.slewMax < (phase.natAbs : Int) * 125) then
          { d4 with bellows := { d4.bellows with stepDue := some phase, relock := false } }
        else d4
      d5.hoUpdate

def execLoopUpdate (phase : Int) (s : State) := s.onDev fun d => d.loopUpdate phase

/-- Period of a partial-phase candidate, ns: its frame period, or 1 s for candidate 5 (R56, R124). -/
def Dev.candPeriodNs (d : Dev) (c : Nat) : Nat :=
  if c = 5 then 1000000000
  else match ratePeriod (d.live (Reg.REF_CAND_CTRL c) 7 4) with
    | some (n, m) => n * 1000000000 / m
    | none => 0

/-- Reaching LOCKED may clear TIME_UNCERTAIN and PTP_UNC (R124). -/
def Dev.clearUncertain (d : Dev) (c : Nat) : Dev :=
  let full := c = 4 ∨ c = 7
  let small := !d.flag Reg.PTP_UNC 31 && decide (d.fld Reg.PTP_UNC 30 0 * 2000 < d.candPeriodNs c)
  if d.flag (Reg.PG_STAT Reg.pagePTP) 0 && (decide full || small) then
    ((d.setFlag (Reg.PG_STAT Reg.pagePTP) 0 false).wrNat Reg.PTP_UNC 0).statusIrq Reg.pagePTP 8
  else d

/-- ACQUIRING to LOCKED, when no slew or step is pending (R72, R124). -/
def Dev.lockAchieved (d : Dev) : Dev :=
  match d.activeCand with
  | none => d
  | some a =>
    if d.belState = belAcquiring ∧ d.bellows.slew = none ∧ d.bellows.stepDue = none then
      (d.setBelState belLocked).clearUncertain a
    else d

def execLockAchieved (s : State) := s.onDev Dev.lockAchieved

/-- The holdover memory becomes valid after 300 s of LOCKED (R77). -/
def Dev.hoMemValid (d : Dev) : Dev :=
  if d.bellows.hoAvg.isSome then
    (({ d with bellows := { d.bellows with lockedSec := 300 } } : Dev).setFlag Reg.REF_STATE 9 true).hoKeep
  else d

def execHoMemValid (s : State) := s.onDev Dev.hoMemValid

/-- REF_HO_CTRL.CLEAR (R76, R77). -/
def Dev.hoMemClear (d : Dev) : Dev :=
  ((({ d with bellows := { d.bellows with lockedSec := 0, hoAvg := none } } : Dev).setFlag Reg.REF_STATE 9 false).wrNat
    Reg.REF_HO_MEM 0).hoKeep

def execHoMemClear (w : Writer) (s : State) :=
  s.onDev fun d => d.gated Reg.pageREF 0x068 w fun d => (d.hoMemClear).setFlag Reg.REF_HO_CTRL 31 true

/-- HOLDOVER has lasted HO_LIMIT minutes; 0 means no limit (R75). -/
def Dev.holdoverLong (d : Dev) : Dev :=
  if d.belState = belHoldover ∧ d.fld Reg.REF_HO_CTRL 15 0 ≠ 0 then
    ({ d with bellows := { d.bellows with longHold := true } } : Dev).raiseLog Reg.pageREF 4 0
  else d

def execHoldoverLong (s : State) := s.onDev Dev.holdoverLong

/-- LOSC_IN fails: any state to LOST, the loop opened (R72, R73). -/
def Dev.loscFail (d : Dev) : Dev :=
  let d1 := ({ d with bellows := { d.bellows with loscOk := false, slew := none, stepDue := none } } : Dev).setFlag
    Reg.REF_STATE 8 false
  ((d1.setActive none).setBelState belLost).raise Reg.pageREF 0 0

/-- LOSC_IN healthy for 10 s: LOST to ACQUIRING, HOLDOVER or FREE_RUN (R72). -/
def Dev.loscRecovered (d : Dev) : Dev :=
  if d.belState ≠ belLost then d
  else
    let d1 : Dev := ({ d with bellows := { d.bellows with loscOk := true } } : Dev).setBelState belFreeRun
    match d1.bestCand with
    | some c => d1.switchTo c
    | none => if d1.hoValid then (d1.setBelState belHoldover).setCorr d1.slewBase else d1.setCorr d1.bellows.restored

def execLoscRecovered (s : State) := s.onDev Dev.loscRecovered

/-- Two qualified candidates of equal rank differ by more than THR (R70): REF_DISAGREE with the pair. -/
def Dev.disagreeWindow (d : Dev) (a b : Nat) : Dev :=
  if d.qualified a ∧ d.qualified b ∧ d.rankOf a = d.rankOf b ∧ a ≠ b ∧
      d.fld Reg.REF_DISAGREE 15 0 * 1000 < ((d.cand a).freq - (d.cand b).freq).natAbs then
    ((d.setFld Reg.REF_DISAGREE 18 16 (min a b)).setFld Reg.REF_DISAGREE 22 20 (max a b)).raise Reg.pageREF 1 0
  else d

def execRefDisagreeWindow (a b : Fin 8) (s : State) := s.onDev fun d => d.disagreeWindow a.val b.val

/-- The end of a software period (R84, R95): the phase error is latched, PHERR_RDY raised, the written correction takes
effect, or SW_LATE is set when none was written. -/
def Dev.swPeriodEnd (d : Dev) (phase : Int) : Dev :=
  if !d.liveFlag Reg.REF_CTRL 1 then d
  else
    let d1 := ((d.wrSat Reg.REF_PHERR phase).setFlag (Reg.PG_STAT Reg.pageREF) 0 true).statusIrq Reg.pageREF 8
    let d2 := if d.bellows.swWritten then d1.setCorr (toSigned 32 (d.rd Reg.REF_FREQ_CORR).toNat)
      else d1.raise Reg.pageREF 7 0
    { d2 with bellows := { d2.bellows with swWritten := false } }

def execSwPeriodEnd (phase : Int) (s : State) := s.onDev fun d => d.swPeriodEnd phase

/-- A software correction (R84): stored clamped to ±50 ppm; PHERR_RDY has been answered (notes/assumptions/9.md). -/
def Dev.freqCorrWrite (d : Dev) (v : Word) : Dev :=
  let d1 := (d.wrSat Reg.REF_FREQ_CORR (clampCorr (toSigned 32 v.toNat))).setFlag (Reg.PG_STAT Reg.pageREF) 0 false
  { d1 with bellows := { d1.bellows with swWritten := true } }

def execRefFreqCorrWrite (w : Writer) (v : Word) (s : State) :=
  s.onDev fun d => d.gated Reg.pageREF 0x05C w fun d => d.freqCorrWrite v

/-- PPS_OUT rises unless disabled or less than 500 ms after the previous edge (R93). -/
def Dev.ppsOutEdge (d : Dev) : Dev :=
  let soon := match d.bellows.ppsLast with
    | some t => decide (d.nowNs < t + 500000000)
    | none => false
  if d.flag Reg.REF_PPS_OUT 31 && !soon then
    ({ d with bellows := { d.bellows with ppsLast := some d.nowNs } } : Dev).send .ppsOut
  else d

def execPpsOutEdge (s : State) := s.onDev Dev.ppsOutEdge

/-- A fitted candidate absent for 10 s: REASON ABSENT and a Chart mismatch of check 4 (R177, R787). -/
def Dev.candidateAbsent (d : Dev) (c : Nat) : Dev :=
  if d.rankOf c = 15 ∨ d.qualified c then d
  else (d.setFld (Reg.REF_CAND_STAT c) 3 0 2).raiseLog Reg.pageSYS 3 (4 + c * 256)

def execCandidateAbsent (c : Fin 8) (s : State) := s.onDev fun d => d.candidateAbsent c.val

/-- REASON of a candidate that is not qualified and shows no fault (R60, R787, R788). -/
def Dev.idleReason (d : Dev) (c : Nat) : Nat :=
  if d.rankOf c = 15 then 1
  else if c = 7 ∧ d.fld Reg.HIE_ROLE 1 0 = 0 then 9
  else if c = 4 ∧ d.liveFlag Reg.PTP_CTRL 0 = false then 1
  else if c = 4 ∧ d.flag Reg.PTP_STATE 8 = false then 12
  else 3

/-- Start of the Bellows at power-up, restore or a wake from DEEP (R72, R589, R608, R672): nothing qualified, HOLDOVER at the
memory's correction or FREE_RUN at the restored one. -/
def Dev.bellowsStart (d : Dev) : Dev :=
  let memory := toSigned 32 (d.rd Reg.REF_HO_MEM).toNat
  let d1 : Dev := { d with bellows := { d.bellows with
    cands := List.replicate 8 Cand.reset, slew := none, stepDue := none, swWritten := false, relock := false, ppsLast := none
    restored := memory } }
  let d2 := (List.range 8).foldl (fun a c => (a.setFld (Reg.REF_CAND_STAT c) 5 0 (a.idleReason c))) d1
  let d3 := ((d2.setActive none).setFlag Reg.REF_STATE 8 false).showHoldoff
  (if d3.hoValid then d3.setBelState belHoldover else d3.setBelState belFreeRun).setCorr memory

end Sys2Proof.Machine
end

