-- ==== Sys2Proof/Machine/Lanes.lean ====
section
/-!
DEFINITION. Serial lanes: roles, quads and reference clocks, the receiver's states, the rate hunt and PRBS
(spec/05_lanes.md, R180 to R213), and the lane that carries time transfer (spec/03_network_time.md, R118).
-/

namespace Sys2Proof.Machine

open Sys2Proof

/-! ### Roles and quads (R180 to R186) -/

/-- Role of a lane; twin lanes are CLASP (R181, R186). -/
def Dev.laneRole (d : Dev) (n : Nat) : Nat := if n ≥ 192 then 7 else d.live (Reg.LN_CFG n) 3 0

/-- Quad of a lane (R180). -/
def quadOf (n : Nat) : Nat := n / 4

/-- LN_REFCLK pin of a quad (R180). -/
def refclkOf (q : Nat) : Nat := if q = 48 then 0 else q / 4

/-- Class of a quad's PLL; quad 48 is FABRIC (R183, R186). -/
def Dev.quadClass (d : Dev) (q : Nat) : Nat := if q = 48 then 5 else d.live (Reg.LN_QUAD_CFG (4 * q)) 2 0

/-- Is a quad kept running in SLEEP (PWR_SLEEP_Q)? -/
def Dev.sleepQuad (d : Dev) (q : Nat) : Bool :=
  if q < 32 then d.liveFlag Reg.PWR_SLEEP_Q_LO q else d.liveFlag Reg.PWR_SLEEP_Q_HI (q - 32)

/-- May a quad run? In SLEEP only those kept (R210). -/
def Dev.quadPowered (d : Dev) (q : Nat) : Bool := !d.power.quadsOff || d.sleepQuad q

/-- Roles that a class allows (R183). -/
def classAllows (cls role : Nat) : Bool :=
  role == 0 ||
  (match cls with
   | 1 | 2 => role == 1 || role == 6
   | 3 => role == 2
   | 4 => role == 3 || role == 4
   | 5 => role == 5 || role == 7
   | _ => false)

/-- 64b/66b roles: ETH10, ETH25, ETH100, FABRIC, CLASP (R199). -/
def isBlockRole (role : Nat) : Bool := role == 2 || role == 3 || role == 4 || role == 5 || role == 7

/-- Roles that hunt their rate: SDI and RAW (R196). -/
def isHuntRole (role : Nat) : Bool := role == 1 || role == 6

/-- The lanes of a quad. -/
def lanesOfQuad (q : Nat) : List Nat := (List.range 4).map fun i => 4 * q + i

/-- The lanes a reference pin serves (R180). -/
def lanesOfRefclk (k : Nat) : List Nat :=
  (List.range 16).map (fun i => 16 * k + i) ++ (if k = 0 then lanesOfQuad 48 else [])

/-- Lane beyond its registers. -/
def Dev.laneX (d : Dev) (n : Nat) : LaneX := Sparse.get (fun _ => LaneX.reset) d.lanes n

/-- Replace a lane's state beyond its registers. -/
def Dev.setLaneX (d : Dev) (n : Nat) (x : LaneX) : Dev :=
  { d with lanes := Sparse.set (fun _ => LaneX.reset) d.lanes n x }

/-- Fabric use of a lane. -/
def Dev.fabLane (d : Dev) (n : Nat) : FabLane := Sparse.get (fun _ => FabLane.reset) d.fabLanes n

/-- Replace the fabric use of a lane. -/
def Dev.setFabLane (d : Dev) (n : Nat) (x : FabLane) : Dev :=
  { d with fabLanes := Sparse.set (fun _ => FabLane.reset) d.fabLanes n x }

/-- Page of a lane. -/
def lanePage (n : Nat) : Nat := 0x100 + n

/-- Receiver state of a lane (R194). -/
def Dev.rxState (d : Dev) (n : Nat) : Nat := d.fld (Reg.LN_STAT n) 2 0

/-- Receiver states (R194). -/
def rxDisabled : Nat := 0
def rxPllWait : Nat := 1
def rxCdrHunt : Nat := 2
def rxAlignHunt : Nat := 3
def rxLocked : Nat := 4

/-- Reference clock present at a lane, and its quad PLL locked. -/
def Dev.refclkOk (d : Dev) (n : Nat) : Bool := d.flag (Reg.LN_QUAD_STAT n) 1
def Dev.pllLock (d : Dev) (n : Nat) : Bool := d.flag (Reg.LN_QUAD_STAT n) 0

/-- Is a lane in Ethernet role? -/
def isEthRole (role : Nat) : Bool := role == 2 || role == 3 || role == 4

/-- Is a MAC page active: lane n in ETH10 or ETH25, the first lane of an ETH100 quad, or the management MAC (R250)? -/
def Dev.macActive (d : Dev) (m : Nat) : Bool :=
  decide (m = 192) || (decide (m < 192) && (d.laneRole m == 2 || d.laneRole m == 3 || (d.laneRole m == 4 && m % 4 == 0)))

/-! ### Time transfer lane (R118, R433) -/

/-- Time transfer is lost: candidate 7 is disqualified (R61, R433, R787). -/
def Dev.ttLost (d : Dev) : Dev :=
  (({ d with ptp := { d.ptp with ttDelays := [], ttMiss := 0, ttBad := 0, ttT1 := none } } : Dev).setFlag
    Reg.PTP_TT_STAT 12 false).disqualify 7 8

/-- Use list entry `i` of the time transfer lanes. -/
def Dev.ttUse (d : Dev) (i lane : Nat) : Dev :=
  if d.flag Reg.PTP_TT_STAT 12 ∧ d.fld Reg.PTP_TT_STAT 7 0 = lane then d
  else
    let d1 := (d.setFlag (Reg.FAB_LN_STAT (d.fld Reg.PTP_TT_STAT 7 0)) 6 false).setFlag (Reg.FAB_LN_STAT lane) 6 true
    (((d1.setFld Reg.PTP_TT_STAT 7 0 lane).setFld Reg.PTP_TT_STAT 9 8 i).setFlag Reg.PTP_TT_STAT 12 true).raise
      Reg.pagePTP 4 0

/-- The first lane of the list whose block lock holds, at or after index `i`. -/
def Dev.ttFirst (d : Dev) : Nat → List (Nat × Int) → Option (Nat × Nat)
  | _, [] => none
  | i, (lane, _) :: t => if lane < 192 ∧ d.rxState lane = rxLocked then some (i, lane) else d.ttFirst (i + 1) t

/-- The lane in use has lost block lock: move to the next listed lane that holds it; with none left time transfer is
lost (R118). -/
def Dev.ttLaneLost (d : Dev) (n : Nat) : Dev :=
  if d.flag Reg.PTP_TT_STAT 12 ∧ d.fld Reg.PTP_TT_STAT 7 0 = n then
    match d.ttFirst 0 d.ptp.ttLanes with
    | some (i, lane) => d.ttUse i lane
    | none => d.ttLost
  else d

/-- A lane has gained block lock: time transfer uses it when no listed lane was usable (R118). -/
def Dev.ttLaneGained (d : Dev) : Dev :=
  if d.flag Reg.PTP_TT_STAT 12 then d
  else match d.ttFirst 0 d.ptp.ttLanes with
    | some (i, lane) => d.ttUse i lane
    | none => d

/-! ### Receiver states (R194, R195) -/

/-- The crossings on a lane stop at once (R405): the sources they feed are no longer valid, and a move that used the lane
has lost that path (R403). -/
def Dev.crossStop (d : Dev) (n : Nat) : Dev :=
  let hit := fun (c : LocalCross) => c.item.rxLane == some n || c.item.txLane == some n
  let fed := (d.hie.cross.filter fun c => c.item.rxLane == some n && c.item.txLane.isNone && !(d.hie.moves.any fun m =>
    m.crossing == c.item.num && !(if m.newLane == n then m.oldFailed else m.newFailed))).map fun c => c.item.idx
  { d with
    hie := { d.hie with
      cross := d.hie.cross.map fun c => if hit c then { c with carrying := false } else c
      moves := d.hie.moves.map fun m =>
        { m with newFailed := m.newFailed || m.newLane == n, oldFailed := m.oldFailed || m.oldLane == n } }
    anvil := { d.anvil with
      srcs := d.anvil.srcs.map fun p => if fed.contains p.1 then (p.1, p.2.map fun x => { x with valid := false }) else p } }

/-- Frame lock of a fabric or twin lane: 0 OFF, 1 HUNT, 2 LOCKED (R383). -/
def Dev.fabFrame (d : Dev) (n : Nat) : Nat := if n < 192 then d.fld (Reg.FAB_LN_STAT n) 1 0 else (d.fabLane n).frame
def Dev.setFabFrame (d : Dev) (n v : Nat) : Dev :=
  if n < 192 then d.setFld (Reg.FAB_LN_STAT n) 1 0 v else d.setFabLane n { d.fabLane n with frame := v }

/-- Does the identity of a lane agree (R385); is the lane in service (R386)? -/
def Dev.fabIdOk (d : Dev) (n : Nat) : Bool := if n < 192 then d.flag (Reg.FAB_LN_STAT n) 2 else (d.fabLane n).idOk
def Dev.fabSvc (d : Dev) (n : Nat) : Bool := if n < 192 then d.flag (Reg.FAB_LN_STAT n) 3 else (d.fabLane n).svc

/-- READY of a standby (R646) and TIME_SLAVED (R628), shown; a change of READY is signalled (R659), and a break in it starts the
hold time again (R656). -/
def Dev.twnShow (d : Dev) : Dev :=
  let up := d.fld Reg.TWN_STAT 11 8 != 0
  let ready := d.fld Reg.TWN_STAT 2 0 == 3 && up && !d.twin.sigFail && d.twin.failing.isEmpty && decide (d.twin.timeOfs.natAbs ≤ 4) &&
    d.fld Reg.HAL_STAT 1 0 != 2 && decide (d.fld Reg.PWR_STATE 2 0 ≤ 1)
  let was := d.flag Reg.TWN_STAT 6
  let d1 := (d.setFlag Reg.TWN_STAT 6 ready).setFlag Reg.TWN_STAT 7 (d.isStandby && up)
  let d2 : Dev := if ready then d1 else { d1 with twin := { d1.twin with readySec := 0 } }
  if was = ready then d2 else d2.statusIrq Reg.pageTWN 16

/-- Twin lanes in service (R626) and their count in TWN_STAT. A loss of Clasp ends a copy, and what was still to be sent to the
standby is superseded by the copy that follows (R637, R639). -/
def Dev.claspShow (d : Dev) : Dev :=
  let n := ([192, 193, 194, 195].filter d.fabSvc).length
  let d1 := d.setFld Reg.TWN_STAT 11 8 n
  let d2 : Dev := if n = 0 then { d1 with
      twin := { d1.twin with copying := false, copyWait := false, unacked := [], rx := [] }
      journal := { d1.journal with epoch := [] } } else d1
  d2.twnShow

/-- Is Clasp up (R626)? -/
def Dev.claspUp (d : Dev) : Bool := [192, 193, 194, 195].any d.fabSvc

/-- A lane out of service: IN_SERVICE clears, sticky LANE_OUT is set when it leaves billet service, its crossings stop, and
the change is signalled (R386, R405, R408). -/
def Dev.fabLaneOut (d : Dev) (n : Nat) : Dev :=
  if !d.fabSvc n then d
  else if n < 192 then
    let d1 := d.setFlag (Reg.FAB_LN_STAT n) 3 false
    let d2 := if d.flag (Reg.FAB_LN_STAT n) 4 then d1 else d1.raise Reg.pageFAB 7 0
    (d2.statusIrq Reg.pageFAB 8).crossStop n
  else (d.setFabLane n { d.fabLane n with svc := false }).claspShow

/-- What a lane loses when its receiver leaves LOCKED: frame lock hunts (R383), fabric service ends (R386), and time
transfer moves (R118). A change into or out of LOCKED is signalled (R213). -/
def Dev.leftLocked (d : Dev) (n : Nat) : Dev :=
  let d1 := if n ≥ 192 ∨ d.laneRole n = 5 then (d.fabLaneOut n).setFabFrame n 1 else d
  (d1.ttLaneLost n).statusIrq (lanePage n) 8

/-- What the MAC of an Ethernet lane shows when the lane leaves or reaches LOCKED: it sends local fault while a lane of it
is not LOCKED, and LINK falls with the interrupt of R284 (R255). -/
def Dev.macLaneLock (d : Dev) (n : Nat) : Dev :=
  if n ≥ 192 ∨ isEthRole (d.laneRole n) = false then d
  else
    let m := if d.laneRole n = 4 then n - n % 4 else n
    let ls := if d.laneRole n = 4 then lanesOfQuad (quadOf n) else [n]
    if ls.all fun i => d.rxState i == rxLocked then d.setFlag (Reg.MAC_STAT m) 1 false
    else
      let d1 := d.setFlag (Reg.MAC_STAT m) 1 true
      if d1.flag (Reg.MAC_STAT m) 0 then (d1.setFlag (Reg.MAC_STAT m) 0 false).statusIrq (0x300 + m) 16 else d1

/-- SDI_GROUP_STAT [3:0] shows the members LOCKED of the receive group that a lane belongs to (R248). -/
def Dev.sdiLockShow (d : Dev) (n : Nat) : Dev :=
  if n ≥ 192 ∨ d.laneRole n ≠ 1 then d
  else
    let members := fun (p : Nat) => [p, d.live (Reg.SDI_GROUP p) 7 0, d.live (Reg.SDI_GROUP p) 15 8, d.live (Reg.SDI_GROUP p) 23 16]
    match (List.range 192).find? fun p => d.liveFlag (Reg.SDI_GROUP p) 24 && (members p).contains n with
    | none => d
    | some p =>
      (members p).foldl (fun a m => a.setFlag (Reg.SDI_GROUP_STAT m) ((members p).idxOf n) (d.rxState n == rxLocked)) d

/-- Move a receiver to a state (R195); before its CDR locks RX_RATE shows none. -/
def Dev.rxTo (d : Dev) (n st : Nat) : Dev :=
  let was := d.rxState n
  let ds := d.setFld (Reg.LN_STAT n) 2 0 st
  let d0 := if st < rxAlignHunt then ds.setFld (Reg.LN_STAT n) 11 8 0 else ds
  let d1 := if (was == rxLocked) != (st == rxLocked) then (d0.macLaneLock n).sdiLockShow n else d0
  if was = rxLocked ∧ st ≠ rxLocked then d1.leftLocked n
  else if was ≠ rxLocked ∧ st = rxLocked then (d1.ttLaneGained).statusIrq (lanePage n) 8
  else d1

/-- Into CDR_HUNT from ALIGN_HUNT or LOCKED, counted in LN_LOCK_CNT.CDR. -/
def Dev.rxBackToCdr (d : Dev) (n : Nat) : Dev :=
  (d.rxTo n rxCdrHunt).bump (Reg.LN_LOCK_CNT n) 15 0

/-- Hunt steps a lane allows (R196). -/
def Dev.huntMask (d : Dev) (n : Nat) : Nat := d.live (Reg.LN_SDI_HUNT n) 4 0

/-- Is hunt step i allowed? -/
def huntAllowed (mask i : Nat) : Bool := mask / 2 ^ i % 2 == 1

/-- The next allowed hunt step after step i, going round in the order of R196. -/
def nextHuntStep (mask i : Nat) : Nat :=
  (((List.range 5).map fun k => (i + 1 + k) % 5).find? fun j => huntAllowed mask j).getD i

/-- The first allowed hunt step. -/
def firstHuntStep (mask : Nat) : Nat := ((List.range 5).find? fun j => huntAllowed mask j).getD 0

/-- RX_RATE code of a hunt step and family (R196, LN_STAT). -/
def rateCode (step : Nat) (frac : Bool) : Nat :=
  if step = 4 then 1 else 8 - 2 * step + b2n frac

/-- Receive lane that feeds RAW transmit lane c through its circuit (R182, R363). -/
def Dev.rawFeed (d : Dev) (c : Nat) : Option Nat := (Sparse.get (fun _ => Dst.reset) d.anvil.dsts (2048 + c)).src

/-- Is the RAW transmit lane c fed by a source that is not carried (R184)? -/
def Dev.rawIdle (d : Dev) (c : Nat) : Bool := d.laneRole c == 6 && (d.rawFeed c).any fun n => (d.laneX n).rawBad

/-- A transmitter sends once its PLL is locked (R194, R209): TX_ON. A RAW transmitter whose source is not carried sends
electrical idle (R184). -/
def Dev.txUpdate (d : Dev) (n : Nat) : Dev :=
  let en := n ≥ 192 ∨ d.liveFlag (Reg.LN_CFG n) 12
  d.setFlag (Reg.LN_STAT n) 4 (decide en && d.laneRole n != 0 && d.pllLock n && d.refclkOk n && !d.rawIdle n)

/-- The source of RAW transmit lane c is looked at again: not carried, it sets RAW_RANGE on the transmit lane's page (R184). -/
def Dev.rawRange (d : Dev) (c : Nat) : Dev :=
  let d1 := d.txUpdate c
  if d1.rawIdle c then d1.raise (lanePage c) 5 0 else d1

/-- Is a receiver enabled: role not DISABLED and RX_EN 1 (R194)? -/
def Dev.rxEnabled (d : Dev) (n : Nat) : Bool :=
  d.laneRole n != 0 && (decide (n ≥ 192) || d.liveFlag (Reg.LN_CFG n) 13) && d.quadPowered (quadOf n)

/-- PLL_WAIT to CDR_HUNT when the PLL is locked and the reference present; the hunt starts at the first allowed step. -/
def Dev.rxStartHunt (d : Dev) (n : Nat) : Dev :=
  if d.rxState n = rxPllWait ∧ d.pllLock n ∧ d.refclkOk n then
    (d.setLaneX n { d.laneX n with huntStep := firstHuntStep (d.huntMask n) }).rxTo n rxCdrHunt
  else d

/-- Drop a receiver to PLL_WAIT, or DISABLED when it is not enabled (R195). -/
def Dev.rxRestart (d : Dev) (n : Nat) : Dev :=
  let d1 := d.rxTo n (if d.rxEnabled n then rxPllWait else rxDisabled)
  (d1.setFlag (Reg.LN_STAT n) 13 false).rxStartHunt n

/-- The quad's PLL is needed: some lane of it is not DISABLED and its class is not OFF (R183, R209). -/
def Dev.quadWanted (d : Dev) (q : Nat) : Bool :=
  d.quadClass q != 0 && d.quadPowered q && (lanesOfQuad q).any fun n => d.laneRole n != 0

/-- Apply an operation to each of a list of lanes. -/
def Dev.forLanes (d : Dev) (l : List Nat) (f : Dev → Nat → Dev) : Dev := l.foldl f d

/-- LN_REFCLK lost (R193): transmitters idle, receivers to PLL_WAIT, REFCLK_LOST on each lane page, one event from the
page of lane 16k. -/
def Dev.refclkLost (d : Dev) (k : Nat) : Dev :=
  let d1 := d.forLanes (lanesOfRefclk k) fun d n =>
    let d1 := (d.setFlag (Reg.LN_QUAD_STAT n) 1 false).setFlag (Reg.LN_STAT n) 4 false
    let d2 := if d1.rxState n = rxDisabled then d1 else d1.rxTo n rxPllWait
    d2.stickyOnly (lanePage n) 0
  d1.logEvent (lanePage (16 * k)) 0 k

def execRefclkLost (k : Fin 12) (s : State) := s.onDev fun d => d.refclkLost k.val

/-- LN_REFCLK present for 10 ms (R193): the lanes restart their hunt. -/
def Dev.refclkRestored (d : Dev) (k : Nat) : Dev :=
  d.forLanes (lanesOfRefclk k) fun d n => ((d.setFlag (Reg.LN_QUAD_STAT n) 1 true).txUpdate n).rxStartHunt n

def execRefclkRestored (k : Fin 12) (s : State) := s.onDev fun d => d.refclkRestored k.val

/-- LN_REFCLK offset outside ±100 ppm: REF_OFS shows it and REFCLK_OOT is set; nothing else changes (R191, R193). -/
def Dev.refclkOot (d : Dev) (k : Nat) (ofs : Int) : Dev :=
  d.forLanes (lanesOfRefclk k) fun d n =>
    (d.setFld (Reg.LN_QUAD_STAT n) 31 16 (ofSigned 16 (satSigned 16 ofs))).raise (lanePage n) 1 0

def execRefclkOot (k : Fin 12) (ofs : Int) (s : State) := s.onDev fun d => d.refclkOot k.val ofs

/-- A quad PLL locks (R195, R209): STEERED as its class is (R181, R191), transmitters send, receivers hunt. -/
def Dev.quadPllLocked (d : Dev) (q : Nat) : Dev :=
  if d.quadWanted q then
    let steered := d.quadClass q = 1 ∨ d.quadClass q = 2 ∨ d.quadClass q = 5
    d.forLanes (lanesOfQuad q) fun d n =>
      (((d.setFlag (Reg.LN_QUAD_STAT n) 0 true).setFlag (Reg.LN_QUAD_STAT n) 2 (decide steered)).txUpdate n).rxStartHunt n
  else d

def execQuadPllLocked (q : Fin 49) (s : State) := s.onDev fun d => d.quadPllLocked q.val

/-- A quad PLL unlocked: transmitters idle, receivers to PLL_WAIT (R195, R209). -/
def Dev.quadPllUnlock (d : Dev) (q : Nat) : Dev :=
  d.forLanes (lanesOfQuad q) fun d n =>
    let d1 := (d.setFlag (Reg.LN_QUAD_STAT n) 0 false).setFlag (Reg.LN_STAT n) 4 false
    if d1.rxState n = rxDisabled then d1 else d1.rxTo n rxPllWait

def execQuadPllUnlock (q : Fin 49) (s : State) := s.onDev fun d => d.quadPllUnlock q.val

/-- CDR_HUNT to ALIGN_HUNT; RX_RATE reports the rate found (R195, R196). -/
def Dev.cdrLock (d : Dev) (n : Nat) (frac : Bool) : Dev :=
  if d.rxState n = rxCdrHunt then
    (d.rxTo n rxAlignHunt).setFld (Reg.LN_STAT n) 11 8
      (if isHuntRole (d.laneRole n) then rateCode (d.laneX n).huntStep frac else 10)
  else d

def execCdrLock (n : Fin 196) (frac : Bool) (s : State) := s.onDev fun d => d.cdrLock n.val frac

/-- Try the next allowed rate (R196). -/
def Dev.huntNext (d : Dev) (n : Nat) : Dev :=
  d.setLaneX n { d.laneX n with huntStep := nextHuntStep (d.huntMask n) (d.laneX n).huntStep }

/-- 5 ms at one candidate rate without reaching LOCKED: CDR_HUNT at the next allowed rate (R195). -/
def execCdrHuntTimeout (n : Fin 196) (s : State) :=
  s.onDev fun d => if d.rxState n.val = rxCdrHunt ∧ isHuntRole (d.laneRole n.val) then d.huntNext n.val else d

/-- ALIGN_HUNT to LOCKED for a receiver of the kind `ok` (R195). -/
def Dev.alignTo (d : Dev) (n : Nat) (ok : Bool) : Dev :=
  if d.rxState n = rxAlignHunt ∧ ok = true then d.rxTo n rxLocked else d

def execBlockLock (n : Fin 196) (s : State) := s.onDev fun d => d.alignTo n.val (isBlockRole (d.laneRole n.val))

def execTrsAlign (n : Fin 196) (s : State) := s.onDev fun d => d.alignTo n.val (d.laneRole n.val == 1)

/-- A RAW receiver is LOCKED; the offset in ppm from the nearest rate of both families decides whether it is carried (R184,
R195). -/
def Dev.rawLock (d : Dev) (n : Nat) (ofs : Int) : Dev :=
  let d1 := (d.alignTo n (d.laneRole n == 6)).setLaneX n { d.laneX n with rawBad := decide (1100 < ofs.natAbs) }
  (d1.anvil.dsts.filter fun p => decide (2048 ≤ p.1) && decide (p.1 < 2240) && p.2.src == some n).foldl (fun a p => a.rawRange (p.1 - 2048)) d1

def execRawLock (n : Fin 196) (ofs : Int) (s : State) :=
  s.onDev fun d => if d.laneRole n.val = 6 then d.rawLock n.val ofs else d

/-- LOCKED to ALIGN_HUNT with ALIGN_LOST, counted (R195). -/
def Dev.alignLost (d : Dev) (n : Nat) : Dev :=
  ((d.rxTo n rxAlignHunt).bump (Reg.LN_LOCK_CNT n) 31 16).raise (lanePage n) 3 0

def execBlockLockLost (n : Fin 196) (s : State) :=
  s.onDev fun d => if d.rxState n.val = rxLocked ∧ isBlockRole (d.laneRole n.val) then d.alignLost n.val else d

/-- ALIGN_HUNT, SDI, 5 ms without TRS: CDR_HUNT at the next allowed rate (R195). -/
def execAlignHuntTimeout (n : Fin 196) (s : State) :=
  s.onDev fun d => if d.rxState n.val = rxAlignHunt ∧ d.laneRole n.val = 1 then (d.rxBackToCdr n.val).huntNext n.val else d

/-- ALIGN_HUNT or LOCKED, CDR loses lock: CDR_HUNT with CDR_LOST (R195). -/
def execCdrLost (n : Fin 196) (s : State) :=
  s.onDev fun d =>
    if d.rxState n.val = rxAlignHunt ∨ d.rxState n.val = rxLocked then (d.rxBackToCdr n.val).raise (lanePage n.val) 2 0 else d

/-- 64 sync headers valid with the opposite polarity: INV_SEEN, and the receiver stays in ALIGN_HUNT (R198). -/
def execInvPolaritySeen (n : Fin 196) (s : State) :=
  s.onDev fun d =>
    if d.rxState n.val = rxAlignHunt ∧ isBlockRole (d.laneRole n.val) then
      (d.setFlag (Reg.LN_STAT n.val) 13 true).raise (lanePage n.val) 4 0
    else d

/-! ### PRBS (R205 to R208) -/

/-- The checker is selected (LN_PRBS_CTRL.CHK). -/
def Dev.prbsChk (d : Dev) (n : Nat) : Nat := d.live (Reg.LN_PRBS_CTRL n) 6 4

/-- Add bits and errors compared while in sync; a counter that saturates sets PRBS_SAT (R208). -/
def Dev.prbsAdd (d : Dev) (n bits errs : Nat) : Dev :=
  if d.flag (Reg.LN_PRBS_STAT n) 0 then
    let x := d.laneX n
    let e := satNat 48 (x.prbsErr + errs)
    let b := satNat 48 (x.prbsBits + bits)
    let d1 := d.setLaneX n { x with prbsErr := e, prbsBits := b }
    if e = 2 ^ 48 - 1 ∨ b = 2 ^ 48 - 1 then d1.raise (lanePage n) 7 0 else d1
  else d

def execPrbsSync (n : Fin 196) (s : State) :=
  s.onDev fun d => if d.prbsChk n.val ≠ 0 then d.setFlag (Reg.LN_PRBS_STAT n.val) 0 true else d

/-- The checker falls out of sync and seeds again (R207). -/
def execPrbsSyncLost (n : Fin 196) (bits errs : Nat) (s : State) :=
  s.onDev fun d =>
    if d.flag (Reg.LN_PRBS_STAT n.val) 0 then
      ((d.prbsAdd n.val bits errs).setFlag (Reg.LN_PRBS_STAT n.val) 0 false).raise (lanePage n.val) 6 0
    else d

def execPrbsSat (n : Fin 196) (bits errs : Nat) (s : State) := s.onDev fun d => d.prbsAdd n.val bits errs

/-- A read of LN_PRBS_ERR_LO latches ERR_HI, BITS_LO and BITS_HI (R208). -/
def Dev.prbsLatch (d : Dev) (n : Nat) : Dev :=
  let x := d.laneX n
  (d.wr64 (Reg.LN_PRBS_ERR_LO n) (Reg.LN_PRBS_ERR_HI n) x.prbsErr).wr64 (Reg.LN_PRBS_BITS_LO n) (Reg.LN_PRBS_BITS_HI n)
    x.prbsBits

def execPrbsErrRead (n : Fin 196) (bits errs : Nat) (s : State) :=
  s.onDev fun d => (d.prbsAdd n.val bits errs).prbsLatch n.val

/-- LN_PRBS_CLR.CLR zeroes both counters (R208). -/
def execPrbsClear (n : Fin 196) (w : Writer) (s : State) :=
  s.onDev fun d => d.gated (lanePage n.val) 0x078 w fun d =>
    (d.setLaneX n.val { d.laneX n.val with prbsErr := 0, prbsBits := 0 }).wrParams (Reg.LN_PRBS_CLR n.val) 3 1

/-- LN_PRBS_CLR.INJECT inverts one bit of the pattern being generated (R208). -/
def execPrbsInject (n : Fin 196) (w : Writer) (s : State) :=
  s.onDev fun d => d.gated (lanePage n.val) 0x078 w fun d =>
    (if d.flag (Reg.LN_PRBS_STAT n.val) 1 then d.send (.prbsInvert n.val) else d).wrParams
      (Reg.LN_PRBS_CLR n.val) 3 2

/-! ### Commits of LN pages (R187, R188, R196, R206, R209, R211) -/

/-- Placement is using the lane: fabric streams, a raw circuit or time transfer (R187). -/
def Dev.laneInUse (d : Dev) (n : Nat) : Bool :=
  !(d.fabLane n).streams.isEmpty || (decide (n < 192) && (d.flag (Reg.FAB_LN_STAT n) 4 || d.flag (Reg.FAB_LN_STAT n) 6))

/-- Checks of an LN commit: `d` before, `e` the state after every commit due at the coordinate. REASON and DETAIL of the
refusal. -/
def laneCommitCheck (d e : Dev) (n : Nat) : Option (Nat × Nat) :=
  let q := quadOf n
  let roles := (lanesOfQuad q).map e.laneRole
  if n ≥ 192 then
    if e.live (Reg.LN_CFG n) 3 0 ≠ 7 ∨ (n = 192 ∧ e.live (Reg.LN_QUAD_CFG n) 2 0 ≠ 5) then some (0x0A, 0x0004) else none
  else if d.partH ∧ 96 ≤ n ∧ e.laneRole n ≠ 0 then some (0x07, n)
  else if isHuntRole (e.laneRole n) ∧ e.huntMask n = 0 then some (0x01, 0x0014)
  else if roles.any (fun r => !classAllows (e.quadClass q) r || r == 7) then some (0x0A, 0x0001)
  else if roles.any (· == 4) ∧ !roles.all (· == 4) then some (0x0A, 0x0003)
  else if d.laneInUse n ∧ (d.laneRole n ≠ e.laneRole n ∨
      (d.live (Reg.LN_PRBS_CTRL n) 2 0 = 0 ∧ e.live (Reg.LN_PRBS_CTRL n) 2 0 ≠ 0 ∧ !e.liveFlag (Reg.LN_PRBS_CTRL n) 12)) then
    some (0x0A, 0x0002)
  else none

/-- Effects of an applied LN commit: `d` is the state with the new live values, `old` the state before. -/
def laneCommitEffect (old d : Dev) (n : Nat) : Dev :=
  let q := quadOf n
  -- the mirror of LN_QUAD_CFG on the quad's other pages (R188)
  let d0 := if n % 4 = 0 ∧ n < 192 then
      [1, 2, 3].foldl (fun a i => (a.wr (Reg.LN_QUAD_CFG (n + i)) (a.rd (Reg.LN_QUAD_CFG n))).wr
        (Reg.LN_QUAD_CFG (n + i) + 0x800) (a.rd (Reg.LN_QUAD_CFG n + 0x800))) d
    else d
  -- the quad PLL stops, or relocks on a change of class (R209)
  let pllOff := !d0.quadWanted q || old.quadClass q != d0.quadClass q
  let d1 := if pllOff then d0.quadPllUnlock q else d0
  -- the generator and the checker (R205 to R207)
  let gen := d1.live (Reg.LN_PRBS_CTRL n) 2 0
  let d2 := (d1.setFlag (Reg.LN_STAT n) 12 (gen != 0)).setFlag (Reg.LN_PRBS_STAT n) 1 (gen != 0)
  let d3 := if old.prbsChk n ≠ d2.prbsChk n then d2.setFlag (Reg.LN_PRBS_STAT n) 0 false else d2
  let d4 := if gen ≠ 0 ∧ n < 192 then d3.fabLaneOut n else d3
  -- the receiver (R195, R211)
  let changed := old.laneRole n != d4.laneRole n || old.liveFlag (Reg.LN_CFG n) 9 != d4.liveFlag (Reg.LN_CFG n) 9 ||
    old.rxEnabled n != d4.rxEnabled n || old.huntMask n != d4.huntMask n
  let d5 := if changed then d4.rxRestart n else d4
  d5.txUpdate n

end Sys2Proof.Machine
end

