-- ==== Sys2Proof/Machine/Ptp.lean ====
section
/-!
DEFINITION. Network time: the latching time read, transmit timestamp queues, the PTP service and its servo, and time
transfer across the hierarchy (spec/03_network_time.md, R96 to R129; spec/11_hierarchy.md, R432, R433). Times and
offsets of the services are in 0.25 ns.
-/

namespace Sys2Proof.Machine

open Sys2Proof

/-- A read of PTP_TIME_LO latches PTP_TIME_HI and PTP_TIME_FRAC (R97). Under a snapshot the frozen words read instead and
nothing is latched (R135). -/
def Dev.ptpTimeRead (d : Dev) : Dev :=
  if d.hostif.sysFrozen.isSome || d.hostif.frozen.any (fun f => f.page == Reg.pagePTP) then d
  else ((d.wrNat Reg.PTP_TIME_LO d.nowNs).wrNat Reg.PTP_TIME_HI (d.nowNs / 2 ^ 32)).wrNat Reg.PTP_TIME_FRAC (d.time % 65536)

def execPtpTimeRead (s : State) := s.onDev Dev.ptpTimeRead

/-! ### Transmit timestamp queues (R105 to R108) -/

/-- The host queue of a MAC, oldest first. -/
def Dev.tsqOf (d : Dev) (m : Nat) : List TsqEntry := Sparse.get (fun _ => []) d.ptp.tsq m

/-- Replace the host queue of a MAC, and show its length. -/
def Dev.setTsq (d : Dev) (m : Nat) (q : List TsqEntry) : Dev :=
  ({ d with ptp := { d.ptp with tsq := Sparse.set (fun _ => []) d.ptp.tsq m q } } : Dev).setFld (Reg.MAC_TSQ_STAT m) 6 0 q.length

/-- Append an egress timestamp: with 64 entries held it is dropped, counted, and TSQ_OVF set (R106). -/
def Dev.tsqPush (d : Dev) (m : Nat) (e : TsqEntry) : Dev :=
  let q := d.tsqOf m
  if q.length < 64 then d.setTsq m (q ++ [e])
  else (d.bump (Reg.MAC_TSQ_LOST m) 15 0).raise (0x300 + m) 8 0

/-- Move the head entry into the read registers; on an empty queue only VALID reads 0 (R108). -/
def Dev.tsqPop (d : Dev) (m : Nat) : Dev :=
  match d.tsqOf m with
  | [] => d.setFlag (Reg.MAC_TSQ_TAG m) 16 false
  | e :: t =>
    ((d.setTsq m t).wrNat (Reg.MAC_TSQ_TAG m) (e.tag % 65536 + 65536)).wr64 (Reg.MAC_TSQ_NS_LO m) (Reg.MAC_TSQ_NS_HI m) e.ns

def execTsqPop (mac : Fin 193) (w : Writer) (s : State) :=
  s.onDev fun d => d.gated (0x300 + mac.val) 0x404 w fun d =>
    if d.macActive mac.val then (d.tsqPop mac.val).wrParams (Reg.MAC_TSQ_POP mac.val) 1 1 else d

/-! ### Best master clock (R109, R110; IEEE 1588-2019 clause 9.3, notes/assumptions/10.md) -/

/-- The key by which two clock data sets compare, most significant first. -/
def announceKey (a : Announce) : List Nat :=
  [a.priority1, a.clockClass, a.accuracy, a.variance, a.priority2, a.gmId, a.stepsRemoved, a.sender]

/-- Lexicographic less-than. -/
def lexLt : List Nat → List Nat → Bool
  | a :: s, b :: t => decide (a < b) || (a == b && lexLt s t)
  | _, _ => false

/-- clockClass that a MASTER port announces (R111). -/
def Dev.announcedClass (d : Dev) : Nat :=
  if d.flag (Reg.PG_STAT Reg.pagePTP) 0 then 248
  else if d.belState = belLocked then
    (if d.activeCand = some 4 then d.fld Reg.PTP_GM_INFO 7 0 else d.live Reg.PTP_CLASS 7 0)
  else if d.belState = belHoldover then
    (if d.flag (Reg.PG_STICKY Reg.pageREF) 4 then d.live Reg.PTP_CLASS 23 16 else d.live Reg.PTP_CLASS 15 8)
  else 248

/-- The data set of this clock itself. -/
def Dev.localClock (d : Dev) : Announce :=
  ⟨d.live Reg.PTP_DS 7 0, d.live Reg.PTP_DS 15 8, d.announcedClass, Config.clockAccuracy, Config.clockVariance,
    d.live Reg.PTP_DS 23 16, Config.clockIdentity, 0, 0, 0, false⟩

/-- Is a PTP port enabled: the service on, EN set and its MAC active? -/
def Dev.ptpPortOn (d : Dev) (p : Nat) : Bool :=
  let m := d.live (Reg.PTP_PORT_CFG p) 8 0
  d.liveFlag Reg.PTP_CTRL 0 && d.liveFlag (Reg.PTP_PORT_CFG p) 31 && d.macActive (if m = 0x100 then 192 else m)

/-- The best Announce over the enabled ports, with its port. -/
def Dev.bestAnnounce (d : Dev) : Option (Nat × Announce) :=
  (List.range 16).foldl
    (fun acc p =>
      match d.ptpPortOn p, d.ptp.announce.getD p none with
      | true, some a =>
        match acc with
        | none => some (p, a)
        | some (_, b) => if lexLt (announceKey a) (announceKey b) then some (p, a) else acc
      | _, _ => acc)
    none

/-- portState code of each enabled port after the state decision (9 SLAVE, 6 MASTER, 7 PASSIVE, 4 LISTENING). -/
def Dev.portDecision (d : Dev) (slave : Option Nat) (p : Nat) : Nat :=
  if !d.ptpPortOn p then 3
  else if slave = some p then 9
  else
    let slaveOnly := d.liveFlag Reg.PTP_DS 24
    match d.ptp.announce.getD p none with
    | none => if slaveOnly then 4 else 6
    | some a =>
      if slaveOnly then 4
      else if d.localClock.clockClass ≤ 127 then (if lexLt (announceKey d.localClock) (announceKey a) then 6 else 7)
      else match slave, d.bestAnnounce with
        | some _, some (_, b) => if a.gmId = b.gmId ∧ a.stepsRemoved ≤ b.stepsRemoved + 1 then 7 else 6
        | _, _ => 6

/-- Run the algorithm: port states, the SLAVE port, the grandmaster's data; a change of grandmaster or a clockClass above
PARAM disqualifies candidate 4, and so does having no SLAVE port (R61, R110, R787). -/
def Dev.runBmca (d : Dev) : Dev :=
  let slave : Option (Nat × Announce) :=
    match d.bestAnnounce with
    | some (p, a) =>
      if d.localClock.clockClass ≤ 127 ∧ !d.liveFlag Reg.PTP_DS 24 then none
      else if lexLt (announceKey a) (announceKey d.localClock) || d.liveFlag Reg.PTP_DS 24 then some (p, a) else none
    | none => none
  let d1 := (List.range 16).foldl
    (fun acc p => acc.setFld (Reg.PTP_PORT_STAT p) 3 0 (d.portDecision (slave.map Prod.fst) p)) d
  match slave with
  | none =>
    let d2 := d1.setFlag Reg.PTP_STATE 8 false
    if d.flag Reg.PTP_STATE 8 then d2.disqualify 4 12 else d2
  | some (p, a) =>
    let had := d.flag Reg.PTP_STATE 8
    let gmWas := d.rd64 Reg.PTP_GM_ID_LO Reg.PTP_GM_ID_HI
    let d2 := ((d1.setFld Reg.PTP_STATE 7 4 p).setFlag Reg.PTP_STATE 8 true).wr64 Reg.PTP_GM_ID_LO Reg.PTP_GM_ID_HI a.gmId
    let d3 := (d2.wrNat Reg.PTP_GM_INFO (a.clockClass % 256 + a.stepsRemoved % 65536 * 256)).wrNat Reg.PTP_UTC
      (a.utcOffset % 65536 + b2n a.utcValid * 65536)
    let d4 := if gmWas ≠ a.gmId % 2 ^ 64 then
        let x := d3.raise Reg.pagePTP 2 0
        if had then x.disqualify 4 10 else x
      else d3
    if d.live (Reg.REF_CAND_CTRL 4) 31 24 < a.clockClass then d4.disqualify 4 7 else d4

/-- An Announce on an enabled port of the domain updates that port's best data set and runs the algorithm; any other is
counted as dropped (R109, R110). -/
def Dev.announceRx (d : Dev) (p : Nat) (a : Announce) : Dev :=
  if !d.ptpPortOn p then d
  else if a.domain ≠ d.live Reg.PTP_DS 7 0 then d.bump (Reg.PTP_PORT_CNT p) 31 16
  else
    let keep := match d.ptp.announce.getD p none with
      | none => a
      | some b => if a.sender = b.sender ∨ lexLt (announceKey a) (announceKey b) then a else b
    ({ d with ptp := { d.ptp with announce := d.ptp.announce.set p (some keep) } } : Dev).runBmca

def execPtpAnnounceRx (port : Fin 16) (a : Announce) (s : State) := s.onDev fun d => d.announceRx port.val a

/-- The Announce receipt timeout: counted, the port's data set dropped; on the SLAVE port candidate 4 is disqualified
with PTP_TIMEOUT (R61, R787). -/
def Dev.announceTimeout (d : Dev) (p : Nat) : Dev :=
  if !d.ptpPortOn p then d
  else
    let d1 := d.bump (Reg.PTP_PORT_CNT p) 15 0
    let d2 := if d.flag Reg.PTP_STATE 8 ∧ d.fld Reg.PTP_STATE 7 4 = p then d1.disqualify 4 12 else d1
    ({ d2 with ptp := { d2.ptp with announce := d2.ptp.announce.set p none } } : Dev).runBmca

def execPtpAnnounceTimeout (port : Fin 16) (s : State) := s.onDev fun d => d.announceTimeout port.val

/-! ### Offsets and the servo (R112 to R116) -/

/-- Mean of a list of integers, rounded down; 0 of none. -/
def meanInt (l : List Int) : Int := if l.isEmpty then 0 else l.foldl (· + ·) 0 / (l.length : Int)

/-- Servo that SERVO_MODE asks for: 0 PI, 1 STEP_RATE; AUTO follows the grandmaster's logSyncInterval (R114). -/
def Dev.servoWanted (d : Dev) (logSync : Int) : Nat :=
  match d.live Reg.PTP_CTRL 3 2 with
  | 0 => 0
  | 1 => 1
  | _ => if logSync ≤ 0 then 0 else if logSync = 1 then 1 else d.fld Reg.PTP_STATE 0 0

/-- Change the servo at a Sync; a change into STEP_RATE sets SERVO_FALLBACK (R114). -/
def Dev.servoSet (d : Dev) (m : Nat) : Dev :=
  if d.fld Reg.PTP_STATE 0 0 = m then d
  else
    let d1 := d.setFld Reg.PTP_STATE 0 0 m
    if m = 1 then d1.raiseLog Reg.pagePTP 1 0 else d1

/-- A Sync on the SLAVE port: the offset of R112 is shown and handed to the Bellows as candidate 4's phase. An offset
jump above 1 µs disqualifies it (R61). STEP_RATE sets the correction at each offset (R115). -/
def Dev.ptpSync (d : Dev) (p : Nat) (ingress origin correction logSync : Int) : Dev :=
  if !(d.flag Reg.PTP_STATE 8 && d.fld Reg.PTP_STATE 7 4 == p && d.ptpPortOn p) then d
  else
    let asym := toSigned 32 (d.rd (Reg.PTP_PORT_ASYM p + 0x800)).toNat
    let ofs := ingress - origin - correction - meanInt d.ptp.delays - asym
    let jump := match d.ptp.offsets with
      | (_, o) :: _ => decide (4000 < (ofs - o).natAbs)
      | [] => false
    let hist := ((d.nowNs, ofs) :: d.ptp.offsets).take 16
    let d1 := (({ d with ptp := { d.ptp with offsets := hist, gmLogSync := logSync } } : Dev).wrSat Reg.PTP_OFS_LAST ofs).servoSet
      (d.servoWanted logSync)
    let d2 := d1.measure 4 (-ofs) (-(Config.rateFit hist))
    if jump then d2.disqualify 4 11
    else if !d2.qualified 4 then (if d2.candAllowed 4 then d2.startQualifying 4 else d2)
    else if d2.activeCand = some 4 ∧ d2.fld Reg.PTP_STATE 0 0 = 1 ∧ !d2.liveFlag Reg.REF_CTRL 1 then
      d2.setCorr (Config.rateFit hist + (-ofs) * 125 / 32)
    else d2

def execPtpSyncRx (port : Fin 16) (ingress origin correction logSync : Int) (s : State) :=
  s.onDev fun d => d.ptpSync port.val ingress origin correction logSync

/-- A delay exchange on the SLAVE port: meanPathDelay is the mean of the last 16 (R112). -/
def Dev.ptpDelayResp (d : Dev) (p : Nat) (t1 t2 t3 t4 : Int) : Dev :=
  if !(d.flag Reg.PTP_STATE 8 && d.fld Reg.PTP_STATE 7 4 == p && d.ptpPortOn p) then d
  else
    let l := (((t2 - t1) + (t4 - t3)) / 2 :: d.ptp.delays).take 16
    ({ d with ptp := { d.ptp with delays := l } } : Dev).wrSat Reg.PTP_MPD (meanInt l)

def execPtpDelayRespRx (port : Fin 16) (t1 t2 t3 t4 : Int) (s : State) :=
  s.onDev fun d => d.ptpDelayResp port.val t1 t2 t3 t4

/-- The service sends a message that the port's state calls for: Announce and Sync in MASTER, Delay_Req in SLAVE. Event
messages are stamped into the cores' own 16-entry queue (R107, R109, R111). -/
def Dev.ptpMessageSend (d : Dev) (p : Nat) (kind : PtpKind) : Dev :=
  let st := d.fld (Reg.PTP_PORT_STAT p) 3 0
  let stamp := fun (x : Dev) =>
    if x.ptp.coreTsq.length < 16 then
      { x with ptp := { x.ptp with coreTsq := x.ptp.coreTsq ++ [⟨p, x.nowNs⟩] } }
    else x
  if !d.ptpPortOn p then d
  else match kind with
    | .announce => if st = 6 then d.send (.ptpSend p .announce d.announcedClass) else d
    | .sync => if st = 6 then stamp (d.send (.ptpSend p .sync 0)) else d
    | .delayReq => if st = 9 ∨ st = 8 then stamp (d.send (.ptpSend p .delayReq 0)) else d

def execPtpMessageSend (port : Fin 16) (kind : PtpKind) (s : State) := s.onDev fun d => d.ptpMessageSend port.val kind

/-! ### Time transfer (R117, R118, R432, R433) -/

/-- Egress timestamp now on a fabric lane: device time plus the correction of 27.7 ns (R102), in 0.25 ns. -/
def Dev.fabricEgress (d : Dev) : Int := ((d.time + 1815347) / 16384 : Nat)

/-- Is the device a worker (its role is not MANAGER, R409)? -/
def Dev.isWorker (d : Dev) : Bool := d.fld Reg.HIE_ROLE 1 0 != 0

/-- An exchange that has not completed is counted; 64 in a row lose time transfer on this lane, and the next listed lane
is used, or time transfer is lost (R433). -/
def Dev.ttMissed (d : Dev) : Dev :=
  let m := d.ptp.ttMiss + 1
  let d1 : Dev := { d with ptp := { d.ptp with ttMiss := m, ttT1 := none } }
  if 64 ≤ m then d1.ttLost else d1

/-- Every 1 ms a worker sends its own egress timestamp t1 on its time transfer lane (R117). -/
def Dev.ttReqSend (d : Dev) : Dev :=
  if d.isWorker && d.flag Reg.PTP_TT_STAT 12 then
    let d1 := if d.ptp.ttT1.isSome then d.ttMissed else d
    if d1.flag Reg.PTP_TT_STAT 12 then
      let t := d1.fabricEgress
      ({ d1 with ptp := { d1.ptp with ttT1 := some t } } : Dev).send (.timeXfer (d1.fld Reg.PTP_TT_STAT 7 0) (.req t))
    else d1
  else d

def execTtReqSend (s : State) := s.onDev Dev.ttReqSend

/-- A device answers REQ blocks while its role is confirmed and it is the manager, or a worker LOCKED on candidate 7
(R432). -/
def Dev.isTimeParent (d : Dev) : Bool :=
  d.flag Reg.HIE_ROLE 2 && (!d.isWorker || (d.belState == belLocked && d.activeCand == some 7))

/-- A REQ is answered by a time parent; a return completes the worker's exchange: offset and delay of R117 are shown, 16
good exchanges lock time transfer, 4 delays off the mean lose it (R433), and the offset feeds candidate 7. -/
def Dev.timeXferRx (d : Dev) (lane : Nat) (x : TimeXfer) (ingress : Int) : Dev :=
  match x with
  | .req t1 => if d.isTimeParent then d.send (.timeXfer lane (.resp t1 ingress d.fabricEgress)) else d
  | .resp t1 t2 t3 =>
    if !(d.isWorker && d.flag Reg.PTP_TT_STAT 12 && d.fld Reg.PTP_TT_STAT 7 0 == lane && d.ptp.ttT1 == some t1) then d
    else
      let asym := ((d.ptp.ttLanes.find? fun e => e.1 == lane).map Prod.snd).getD 0
      let ofs := ((t1 - t2) + (ingress - t3)) / 2 - asym
      let dly := ((t2 - t1) + (ingress - t3)) / 2
      let mean := meanInt d.ptp.ttDelays
      let off := decide (d.ptp.ttDelays.length = 16) && decide (400 < (dly - mean).natAbs)
      let bad := if off then d.ptp.ttBad + 1 else 0
      let l := if off then d.ptp.ttDelays
        else if ((dly :: d.ptp.ttDelays).any fun y => decide (40 < (y - meanInt (dly :: d.ptp.ttDelays)).natAbs)) && d.ptp.ttDelays.length < 16
        then [dly]
        else (dly :: d.ptp.ttDelays).take 16
      let d1 := (({ d with ptp := { d.ptp with ttT1 := none, ttMiss := 0, ttBad := bad, ttDelays := l } } : Dev).wrSat
        Reg.PTP_TT_OFS ofs).wrSat Reg.PTP_TT_DELAY dly
      if 4 ≤ bad then d1.ttLost
      else
        let d2 := d1.measurePhase 7 (-ofs)
        if l.length = 16 ∧ d2.candAllowed 7 ∧ !d2.qualified 7 then d2.startQualifying 7 else d2

/-- After 10 s of block lock on the first listed lane, time transfer returns to it (R118). -/
def Dev.ttLaneReturn (d : Dev) : Dev :=
  match d.ptp.ttLanes with
  | (lane, _) :: _ => if lane < 192 ∧ d.rxState lane = rxLocked then d.ttUse 0 lane else d
  | [] => d

def execTtLaneReturn (s : State) := s.onDev Dev.ttLaneReturn

/-- While LOCKED in RUN, IDLE or SLEEP, the calibration is stored (R121). -/
def execAonCalibrate (ratio : Word) (s : State) :=
  s.onDev fun d =>
    if d.belState = belLocked ∧ d.fld Reg.PWR_STATE 2 0 ≤ 2 then (d.wr Reg.PTP_AON_RATIO ratio).jAppend [.pageWrite Reg.pagePTP [(Reg.PTP_AON_RATIO, ratio)]] else d

/-- Device time advances by always-on ticks × PTP_AON_RATIO; TIME_UNCERTAIN, TIME_RESTORED and the bound of R122, in
whole µs rounded up. -/
def Dev.aonAdvance (d : Dev) (ticks : Nat) : Dev :=
  let adv := ticks * (d.rd Reg.PTP_AON_RATIO).toNat
  let bound := (adv * 20 + 65536000000000 - 1) / 65536000000000 + 31
  let was := d.flag (Reg.PG_STAT Reg.pagePTP) 0
  let old := if was then d.fld Reg.PTP_UNC 30 0 else 0
  let d1 : Dev := { d with time := d.time + adv }
  let d2 := d1.setFld Reg.PTP_UNC 30 0 (satNat 31 (old + bound))
  let d3 := if was then d2 else (d2.setFlag (Reg.PG_STAT Reg.pagePTP) 0 true).statusIrq Reg.pagePTP 8
  d3.raise Reg.pagePTP 0 0

/-- VDD_AON was lost: device time restarts from the last checkpoint's time, its bound unknown (R123). -/
def Dev.aonLost (d : Dev) (t : Nat) : Dev :=
  ((({ d with time := t } : Dev).setFlag (Reg.PG_STAT Reg.pagePTP) 0 true).setFlag Reg.PTP_UNC 31 true).statusIrq
    Reg.pagePTP 8

/-! ### Commits of the PTP page (R127, R787) -/

/-- The ports enabled in the live configuration, with their MACs. -/
def Dev.ptpPortMacs (e : Dev) : List (Nat × Nat) :=
  (List.range 16).filterMap fun p =>
    if e.liveFlag (Reg.PTP_PORT_CFG p) 31 then some (p, e.live (Reg.PTP_PORT_CFG p) 8 0) else none

/-- Checks of a PTP commit (R127). -/
def ptpCommitCheck (e : Dev) : Option (Nat × Nat) :=
  let l := e.ptpPortMacs
  match l.find? fun x => l.any fun y => decide (x.1 < y.1) && x.2 == y.2 with
  | some x => some (0x05, x.1)
  | none =>
    match l.find? fun x => !(x.2 == 0x100 || (decide (x.2 < 192) && isEthRole (e.laneRole x.2))) with
    | some x => some (0x01, (0x080 + 0x10 * x.1) / 4)
    | none => none

/-- Effects of a PTP commit: port states follow, and clearing EN disqualifies candidate 4 with DISABLED (R787). -/
def ptpCommitEffect (d : Dev) : Dev :=
  let d1 := d.runBmca
  if d.liveFlag Reg.PTP_CTRL 0 then
    (if d1.fld (Reg.REF_CAND_STAT 4) 3 0 = 1 then d1.setFld (Reg.REF_CAND_STAT 4) 3 0 (d1.idleReason 4) else d1)
  else (d1.disqualify 4 1).setFld (Reg.REF_CAND_STAT 4) 3 0 1

end Sys2Proof.Machine
end

