-- ==== Sys2Proof/Machine/Hearth.lean ====
section
/-!
DEFINITION. Rasters and rates, the billet descriptor and cell, sources and their reservations, and the Hearth's cell
memory (spec/06_sdi_and_billets.md, R214, R215, R234 to R241; spec/09_hearth_and_takes.md, R324 to R331, R792).
-/

namespace Sys2Proof.Machine

open Sys2Proof

/-! ### Rasters and rates -/

/-- Width, active lines, total lines, interlaced, PsF of a raster code (R320, R339). -/
def rasterOf : Nat → Nat × Nat × Nat × Bool × Bool
  | 0 => (720, 486, 525, true, false)
  | 1 => (720, 576, 625, true, false)
  | 2 => (1280, 720, 750, false, false)
  | 3 => (1920, 1080, 1125, true, false)
  | 4 => (1920, 1080, 1125, false, true)
  | 5 => (1920, 1080, 1125, false, false)
  | 6 => (3840, 2160, 2250, false, false)
  | _ => (7680, 4320, 4500, false, false)

/-- Width of a raster code. -/
def rasterWidth (code : Nat) : Nat := (rasterOf code).1
/-- Active lines of a raster code. -/
def rasterLines (code : Nat) : Nat := (rasterOf code).2.1
/-- Total lines of a raster code. -/
def rasterTotal (code : Nat) : Nat := (rasterOf code).2.2.1
/-- Is the raster interlaced? -/
def rasterInter (code : Nat) : Bool := (rasterOf code).2.2.2.1

/-- The raster code of a width, active line count and scan; `none` for a raster no code names. -/
def rasterCode (width lines : Nat) (inter psf : Bool) : Option Nat :=
  (List.range 8).find? fun c => rasterWidth c == width && rasterLines c == lines && rasterInter c == inter &&
    (rasterOf c).2.2.2.2 == psf

/-- Total samples per line of a raster at a rate code: those of the SDI raster (R294; the SMPTE rasters,
notes/assumptions/12.md). -/
def rasterSpl (code rate : Nat) : Nat :=
  match code with
  | 0 => 858
  | 1 => 864
  | 2 => if rate = 8 then 1980 else 1650
  | c =>
    let hd := if rate = 1 ∨ rate = 2 ∨ rate = 6 ∨ rate = 7 then 2750
      else if rate = 3 ∨ rate = 8 ∨ rate = 0xB then 2640 else 2200
    hd * (rasterWidth c / 1920)

/-- Frame rate of a RATE code as R85 lists it, in thousandths of a hertz. -/
def rateMilli : Nat → Nat
  | 0x1 => 23976
  | 0x2 => 24000
  | 0x3 => 25000
  | 0x4 => 29970
  | 0x5 => 30000
  | 0x6 => 47950
  | 0x7 => 48000
  | 0x8 => 50000
  | 0x9 => 59940
  | 0xA => 60000
  | 0xB => 100000
  | 0xC => 119880
  | 0xD => 120000
  | _ => 0

/-- Division rounded up. -/
def ceilDiv (a b : Nat) : Nat := if b = 0 then 0 else (a + b - 1) / b

/-- Bits per pixel of a sampling code (R236). -/
def bitsPerPixel : Nat → Nat
  | 0 => 20
  | 1 => 30
  | 2 => 36
  | 3 => 30
  | _ => 36

/-- Bits per sample word of a sampling code. -/
def bitsPerWord (sampling : Nat) : Nat := if sampling = 2 ∨ sampling = 4 then 12 else 10

/-- Video cells per active line (R236). -/
def cellsPerLine (width sampling : Nat) : Nat := ceilDiv (width * bitsPerPixel sampling) 2048

/-- SDI interface of a format (R215): 1 SD, 2 HD, 3 3G level A, 4 6G, 5 12G; `none` where SDI does not carry it. -/
def sdiIface (code rate sampling : Nat) : Option Nat :=
  let slow := decide (1 ≤ rate) && decide (rate ≤ 5)
  let fast := rate == 8 || rate == 9 || rate == 0xA
  match code with
  | 0 => if rate = 4 ∧ sampling = 0 then some 1 else none
  | 1 => if rate = 3 ∧ sampling = 0 then some 1 else none
  | 2 => if fast && sampling == 0 then some 2 else none
  | 3 => if rate = 3 ∨ rate = 4 ∨ rate = 5 then (if sampling = 0 then some 2 else some 3) else none
  | 4 => if slow then (if sampling = 0 then some 2 else some 3) else none
  | 5 => if slow then (if sampling = 0 then some 2 else some 3) else if fast && sampling == 0 then some 3 else none
  | 6 => if slow then (if sampling = 0 then some 4 else some 5) else if fast && sampling == 0 then some 5 else none
  | _ => if decide (1 ≤ rate) && decide (rate ≤ 0xA) && sampling == 0 then some 5 else none

/-- Is a rate code one of the ÷ 1.001 family? -/
def isFractional (rate : Nat) : Bool := rate == 1 || rate == 4 || rate == 6 || rate == 9 || rate == 0xC

/-- Cell rate of a stream (R328): width, active and total lines, rate, sampling, audio channels, ANC. -/
def cellRate (width lines total rate sampling audio : Nat) (anc : Bool) : Nat :=
  ceilDiv (cellsPerLine width sampling * lines * rateMilli rate) 1000 + 16000 * ceilDiv audio 16 +
    (if anc then ceilDiv (total * rateMilli rate) 1000 else 0)

/-! ### Descriptors and cells -/

/-- Word i of a descriptor (R234). -/
def Desc.word (x : Desc) (i : Nat) : Nat :=
  match i with
  | 0 => x.width % 8192 + x.lines % 8192 * 65536
  | 1 => x.total % 8192 + x.spl % 16384 * 65536
  | 2 => x.rate % 16 + b2n x.interlaced * 16 + b2n x.psf * 32 + x.tp % 8 * 256 + x.sampling % 256 * 65536 +
      (x.color % 16 + x.xfer % 4 * 16 + b2n x.fullRange * 64) * 16777216
  | 3 => x.audio % 256 + b2n x.anc * 256 + (x.groupSize % 8 + x.member % 4 * 16 + b2n x.square * 64) * 65536 +
      x.kind % 8 * 16777216
  | 4 => x.lead % 1024 + x.cells % 256 * 65536
  | 5 => x.seq % 2 ^ 32
  | _ => 0

/-- The 32 bytes of a descriptor. -/
def Desc.bytes (x : Desc) : List Byte := (List.range 8).flatMap fun i => bytesLE 4 (x.word i)

/-- Header bytes 0 to 13 of a cell of a stream (R324). -/
def Cell.header (c : Cell) (stream : Nat) : List Byte :=
  bytesLE 2 (stream % 1024 + c.typ % 8 * 1024 + c.tp % 8 * 8192) ++ bytesLE 2 c.frame ++ bytesLE 2 (c.line % 8192) ++
    bytesLE 1 c.idx ++ bytesLE 1 c.cc ++
    bytesLE 1 (b2n c.sol + b2n c.eol * 2 + b2n c.sof * 4 + b2n c.eof * 8 + b2n c.invalid * 16 + b2n c.subst * 32) ++
    bytesLE 1 0 ++ bytesLE 2 c.dseq ++ bytesLE 2 0

/-- One bit of the CRC of R326. -/
def crc16Bit (crc : Nat) (b : Bool) : Nat :=
  let top := decide (32768 ≤ crc)
  let sh := crc * 2 % 65536
  if top != b then sh ^^^ 0x1021 else sh

/-- One byte of the CRC of R326, most significant bit first. -/
def crc16Byte (crc : Nat) (b : Byte) : Nat :=
  [7, 6, 5, 4, 3, 2, 1, 0].foldl (fun c i => crc16Bit c (b.getLsbD i)) crc

/-- CRC-16 of R326 over bytes: polynomial x¹⁶ + x¹² + x⁵ + 1, initial value 0xFFFF. -/
def crc16 (l : List Byte) : Nat := l.foldl crc16Byte 0xFFFF

/-- HCRC of a cell on a stream (R324, R326). -/
def Cell.hcrc (c : Cell) (stream : Nat) : Nat := crc16 (c.header stream)

/-- `n` bytes of a number, highest first. -/
def bytesBE (n v : Nat) : List Byte := (bytesLE n v).reverse

/-- The samples of a line as one bit string, most significant bit first, cut into the payloads of its cells (R235). -/
def packLine (sampling : Nat) (words : List Nat) (cells : Nat) : List (List Byte) :=
  let w := bitsPerWord sampling
  let n := words.foldl (fun acc x => acc * 2 ^ w + x % 2 ^ w) 0
  let padded := n * 2 ^ (cells * 2048 - w * words.length)
  (List.range cells).map fun k => bytesBE 256 (padded / 2 ^ ((cells - 1 - k) * 2048))

/-- The 16-bit items of one ANC packet or fragment (R241): item A, item B, words. -/
def ancItems (p : AncPacket) (cont : Bool) (words : List Nat) : List Nat :=
  [p.pos % 8192 + b2n p.chroma * 8192 + b2n p.vanc * 16384 + b2n cont * 32768, words.length % 512] ++
    words.map fun x => x % 1024

/-- Place ANC packets in cells of 128 items, continuing a packet that does not fit in the next cell (R241). `todo` holds
packets with what is left of their words and whether they continue; `fuel` bounds the steps. -/
def packAncGo : (fuel : Nat) → (cur : List Nat) → (todo : List (AncPacket × List Nat × Bool)) → List (List Nat)
  | 0, cur, _ => [cur]
  | _, cur, [] => if cur = [] then [] else [cur]
  | fuel + 1, cur, (p, words, cont) :: t =>
    let room := 128 - cur.length
    if words.length + 2 ≤ room then packAncGo fuel (cur ++ ancItems p cont words) t
    else if 3 ≤ room then
      (cur ++ ancItems p cont (words.take (room - 2))) :: packAncGo fuel [] ((p, words.drop (room - 2), true) :: t)
    else cur :: packAncGo fuel [] ((p, words, cont) :: t)

/-- Payloads of the ANC cells of one line (R241). -/
def packAnc (l : List AncPacket) : List (List Byte) :=
  (packAncGo (4 * l.length + 4 + (l.map fun p => p.words.length).foldl (· + ·) 0) [] (l.map fun p => (p, p.words, false))).map
    fun items => ((items ++ List.replicate (128 - items.length) 0).flatMap fun v => bytesLE 2 v)

/-- Payload of an audio cell (R239): block, PHASE, and up to 3 periods of 16 channel words. -/
def packAudio (block phase : Nat) (periods : List (List Nat)) : List Byte :=
  let w0 := block % 8 + periods.length % 4 * 16 + phase % 16384 * 256
  let body := periods.flatten
  (w0 :: (body ++ List.replicate (63 - body.length) 0)).flatMap fun v => bytesLE 4 v

/-! ### Sources -/

/-- Source in an SRC index. -/
def Dev.src (d : Dev) (n : Nat) : Option Source := Sparse.get (fun _ => none) d.anvil.srcs n

/-- Destination or circuit under a key. -/
def Dev.dst (d : Dev) (k : Nat) : Dst := Sparse.get (fun _ => Dst.reset) d.anvil.dsts k

/-- Configured sources with their indices. -/
def Dev.srcList (d : Dev) : List (Nat × Source) := d.anvil.srcs.filterMap fun p => p.2.map fun x => (p.1, x)

/-- Store a source without touching the HRT summary. -/
def Dev.putSrc (d : Dev) (n : Nat) (x : Option Source) : Dev :=
  { d with anvil := { d.anvil with srcs := Sparse.set (fun _ => none) d.anvil.srcs n x } }

/-- Reservation that a source index holds; a group's is the sum over its members (R328, R329). -/
def Dev.srcRate (d : Dev) (n : Nat) : Nat :=
  match d.src n with
  | none => 0
  | some x =>
    if x.groupSize = 4 then (d.srcList.filter fun p => p.2.lead == n).foldl (fun a p => a + p.2.rate) 0 else x.rate

/-- Egress reservation of a destination: the largest among its current source and those of its pending takes (R331). -/
def Dev.dstReserve (d : Dev) (k : Nat) : Nat :=
  if k ≥ 2048 then 0
  else
    let x := d.dst k
    (x.src.toList ++ x.pend.filterMap PendTake.src).foldl (fun a n => max a (d.srcRate n)) 0

/-- Percentage of the figures of OP2 that an operating point gives (R677). -/
def opPercent (op : Nat) : Nat := if op = 0 then 50 else if op = 1 then 75 else 100

/-- Percentage in force for capacity checks: the operating point in force, or the requested one while a change is pending
(R678). -/
def Dev.opPct (d : Dev) : Nat :=
  opPercent (if d.flag Reg.PWR_OP_STAT 2 then d.fld Reg.PWR_OP_CMD 1 0 else d.fld Reg.PWR_OP_STAT 1 0)

/-- Hearth capacity in each direction, cells/s (R330, R677). -/
def Dev.hearthCapacity (d : Dev) : Nat := 25000000 * d.opPct

/-- Sum of the ingress reservations (R330). -/
def Dev.inRate (d : Dev) : Nat := d.srcList.foldl (fun a p => a + p.2.rate) 0

/-- Fabric replications: each stream a fabric lane sends reads the Hearth (R36, R331). -/
def Dev.fabricReads (d : Dev) : Nat :=
  d.fabLanes.foldl (fun a p => p.2.streams.foldl (fun b n => b + d.srcRate n) a) 0

/-- Is this device an EDGE or CENTRE of a hierarchy (R395)? -/
def Dev.inHierarchy (d : Dev) : Bool := d.live Reg.FAB_CFG 1 0 == 1 || d.live Reg.FAB_CFG 1 0 == 2

/-- Sum of the egress reservations, with the standing reservation of R395. -/
def Dev.outRate (d : Dev) : Nat :=
  d.anvil.dsts.foldl (fun a p => a + d.dstReserve p.1) 0 + d.fabricReads + (if d.inHierarchy then 25000000 else 0)

/-- SRC indices used (R792), with the 16 of R395 on a centre. -/
def Dev.srcCount (d : Dev) : Nat := d.srcList.length + (if d.live Reg.FAB_CFG 1 0 = 2 then 16 else 0)

/-- Enabled destinations; the three mirrors of a group (R333) are not destinations of their own. -/
def Dev.dstEnabledCount (d : Dev) : Nat :=
  (d.regs.filter fun p => decide (0x600000 ≤ p.1) && decide (p.1 < 0x680000) && decide (p.1 % 0x1000 ≥ 0x900) &&
    (p.1 % 0x1000 - 0x900) % 0x60 == 0 && bit p.2 0 &&
    !(bit p.2 15 && (p.1 % 0x1000 - 0x900) / 0x60 % 4 != 0)).length

/-- Does a source lie within one line of its own plane (R17)? A flow has one tick of 90 kHz more (R295). -/
def Dev.srcInTime (d : Dev) (x : Source) : Bool :=
  decide (x.ofs.natAbs * 65536 ≤ d.linesTicks x.tp 1 + (if x.kind = 1 then ticksPerSecond / 90000 else 0)) || !x.everValid

/-- Destinations reading a source. -/
def Dev.readers (d : Dev) (n : Nat) : Nat := (d.anvil.dsts.filter fun p => decide (p.1 < 2048) && p.2.src == some n).length

/-- The HRT registers that summarise sources, and the window on the source HRT_SRC_SEL names (R366). -/
def Dev.hrtRefresh (d : Dev) : Dev :=
  let sel := d.fld Reg.HRT_SRC_SEL 9 0
  let d1 := ((d.wrNat Reg.HRT_IN_RATE (ceilDiv d.inRate 1000)).wrNat Reg.HRT_OUT_RATE (ceilDiv d.outRate 1000)).wrNat
    Reg.HRT_USED (d.srcList.length + d.dstEnabledCount * 65536)
  let d2 := match d.src sel with
    | none => (((d1.wrNat Reg.HRT_SRC_STAT 0).wrNat Reg.HRT_SRC_OFS 0).wrNat Reg.HRT_SRC_RATE 0).wrNat Reg.HRT_SRC_READERS 0
    | some x =>
      (((d1.wrNat Reg.HRT_SRC_STAT (1 + b2n x.valid * 2 + b2n (d.srcInTime x) * 4 + x.kind % 8 * 8 + x.origin % 4096 * 65536)).wrSat
        Reg.HRT_SRC_OFS x.ofs).wrNat Reg.HRT_SRC_RATE x.rate).wrNat Reg.HRT_SRC_READERS (d.readers sel)
  (List.range 8).foldl
    (fun a i => a.wrNat (Reg.HRT_SRC_DESC i) (match (d.src sel).bind Source.desc with
      | some x => x.word i
      | none => 0)) d2

/-- Store a source and refresh the HRT summary. -/
def Dev.setSrc (d : Dev) (n : Nat) (x : Option Source) : Dev := (d.putSrc n x).hrtRefresh

/-- Change a configured source. -/
def Dev.updSrc (d : Dev) (n : Nat) (f : Source → Source) : Dev :=
  match d.src n with
  | none => d
  | some x => d.setSrc n (some (f x))

/-- A source just configured: not valid yet, no descriptor, no cells (R13). -/
def Source.fresh (kind origin : Nat) (second : Bool) (tp rate : Nat) : Source :=
  ⟨kind, origin, second, tp, rate, false, false, 0, 1, 0, 0, none, [0, 0, 0, 0], []⟩

/-- The lowest free SRC index; 1,024 when none is free. -/
def Dev.freeSrc (d : Dev) : Nat := ((List.range 1024).find? fun n => (d.src n).isNone).getD 1024

/-- The SRC of an origin: kind, origin and stream. -/
def Dev.srcOf (d : Dev) (kind origin : Nat) (second : Bool) : Option Nat :=
  (d.srcList.find? fun p => p.2.kind == kind && p.2.origin == origin && p.2.second == second).map Prod.fst

/-- Configure a source: it takes the lowest free index (R792, notes/assumptions/13.md). -/
def Dev.addSrc (d : Dev) (x : Source) : Dev :=
  let n := d.freeSrc
  if n < 1024 then d.setSrc n (some { x with lead := n }) else d

/-- The reservation of an SDI input by its fastest allowed hunt step (R329): step 0 is 11.88 Gb/s, step 4 270 Mb/s. -/
def huntReserve (mask : Nat) : Nat :=
  match firstHuntStep mask with
  | 0 => 5091800
  | 1 => 2561900
  | 2 => 1314700
  | 3 => 665350
  | _ => 132259

/-! ### Cells -/

/-- Device time at which a cell leaves the Hearth: 4 lines of the source's plane after the start of its line (R336). -/
def Dev.cellExpiry (d : Dev) (c : Cell) : Nat := d.instantOf ⟨c.tp, c.frame, c.line, 0⟩ + d.linesTicks c.tp 4

/-- Position of a line in time: frame and line as one number. -/
def lineKey (f l : Nat) : Nat := f * 8192 + l

/-- Destinations reading source n that have already read a line at or past `key`. -/
def Dev.readPast (d : Dev) (n key : Nat) : Bool :=
  d.anvil.dsts.any fun p => decide (p.1 < 2048) && p.2.src == some n && decide (key ≤ lineKey p.2.readF p.2.readL)

/-- Write a cell of a source: the continuity count of its type moves on, the descriptor sequence is stamped, cells whose
time has passed leave the Hearth, and a cell whose read has passed is late (R325, R336). -/
def Dev.storeCell (d : Dev) (n : Nat) (c : Cell) : Dev :=
  match d.src n with
  | none => d
  | some x =>
    let cc := x.cc.getD c.typ 0
    let c1 : Cell := { c with
      cc := cc
      dseq := (x.desc.map fun y => y.seq % 65536).getD 0 }
    let keep := x.cells.filter fun o => decide (d.time < d.cellExpiry o)
    let d1 := d.putSrc n (some { x with cc := x.cc.set c.typ ((cc + 1) % 256), cells := keep ++ [c1] })
    if c.typ < 3 ∧ d.readPast n (lineKey c.frame c.line) = true then
      (d1.bump Reg.HRT_LATE 31 0).raise Reg.pageHRT 1 0
    else d1

/-- Send the newest cell of a source on every fabric lane that carries the stream onward, under its tag (R33, R36, R400,
R401). -/
def Dev.fabSend (d : Dev) (n : Nat) : Dev :=
  match (d.src n).bind fun x => x.cells.getLast? with
  | none => d
  | some c =>
    d.hie.cross.foldl (fun a x =>
      match x.item.txLane with
      | some l => if x.carrying && x.item.idx == n then a.send (.fabCell l x.item.txTag c) else a
      | none => a) d

/-- The compositor outputs that carry the audio and ANC cells of source n (R484). -/
def Dev.filFollows (d : Dev) (n : Nat) : List Nat :=
  ((List.range 16).filter fun i =>
    let l := d.live (Reg.FIL_OUT_CFG i) 18 16
    d.liveFlag (Reg.FIL_OUT_CFG i) 0 && d.liveFlag (Reg.FIL_OUT_CFG i) 19 && d.liveFlag (Reg.FIL_L_CFG i l) 0 &&
      !d.liveFlag (Reg.FIL_L_CFG i l) 1 && d.flag (Reg.FIL_OUT_STAT i) 10 &&
      (d.dst (d.live (Reg.FIL_L_CFG i l) 26 16)).src == some n).map fun i => d.fld (Reg.FIL_OUT_STAT i) 9 0

/-- Write a cell and send it on; its audio and ANC cells also go to the compositor outputs that carry them. Each compositor
follows one source, so `fuel` 16 reaches every one. -/
def Dev.writeCellN : (fuel : Nat) → Dev → Nat → Cell → Dev
  | 0, d, n, c => (d.storeCell n c).fabSend n
  | fuel + 1, d, n, c =>
    let d1 := (d.storeCell n c).fabSend n
    if c.typ = 1 ∨ c.typ = 2 then (d1.filFollows n).foldl (fun a m => a.writeCellN fuel m c) d1 else d1

/-- Write a cell of a source, while the datapath runs. -/
def Dev.writeCell (d : Dev) (n : Nat) (c : Cell) : Dev :=
  if (d.src n).isSome ∧ d.power.stopped = false then d.writeCellN 16 n c else d

/-- Write cells in order. -/
def Dev.writeCells (d : Dev) (n : Nat) (l : List Cell) : Dev := l.foldl (fun a c => a.writeCell n c) d

/-- A bare cell of a line. -/
def Cell.at (typ tp f l idx : Nat) (payload : List Byte) : Cell :=
  ⟨typ, tp, f, l, idx, 0, false, false, false, false, false, false, 0, payload⟩

/-- The control cell that carries a descriptor (R327). -/
def descCell (x : Desc) (f l : Nat) : Cell := Cell.at 3 x.tp f l 0 (x.bytes ++ List.replicate 224 0)

/-- The cells of one type and line, with SOL and EOL, and SOF and EOF on the first and last line (R324). -/
def lineCells (typ tp f l : Nat) (first last invalid : Bool) (payloads : List (List Byte)) : List Cell :=
  let n := payloads.length
  payloads.mapIdx fun i p =>
    { Cell.at typ tp f l i p with
      sol := i == 0
      eol := i + 1 == n
      sof := first && i == 0
      eof := last && i + 1 == n
      invalid := invalid }

/-- The invalid video cells of an active line of a format (R222). -/
def invalidLine (x : Desc) (f l : Nat) : List Cell :=
  lineCells 0 x.tp f l false false true (List.replicate x.cells (List.replicate 256 0))

/-- A cell that fails HCRC is discarded and counted, and HDR_ERR is set (R326). -/
def Dev.hdrErr (d : Dev) : Dev := (d.bump Reg.HRT_HDR_ERR 31 0).raise Reg.pageHRT 0 0

/-- Change the descriptor of a source: the next descriptor sequence, and a control cell (R224, R225, R327). -/
def Dev.setDesc (d : Dev) (n : Nat) (y : Desc) (f l : Nat) : Dev :=
  match d.src n with
  | none => d
  | some x =>
    let seq := match x.desc with
      | some o => o.seq + 1
      | none => 0
    let y1 : Desc := { y with seq := seq }
    (d.setSrc n (some { x with desc := some y1 })).writeCell n (descCell y1 f l)

/-! ### Audio matrix inputs -/

/-- Append samples to the queue of a matrix input (R27, R506): at most 16 periods wait. -/
def Dev.pushInput (d : Dev) (n : Nat) (w : Nat) : Dev :=
  { d with audioIn := Sparse.set (fun _ => []) d.audioIn n ((Sparse.get (fun _ => []) d.audioIn n ++ [w]).take 16) }

end Sys2Proof.Machine
end

