-- ==== Sys2Proof/Machine/Engines.lean ====
section
/-!
DEFINITION. What destinations and compositor layers need of frame stores, Swages and DRAM, and what placement on one
device has of them (spec/12_frame_sync_and_scaling.md, R446 to R475; spec/13_filigree_compositor.md, R491 to R502).
Every reservation is a function of the live registers, the current sources and the pending takes.
-/

namespace Sys2Proof.Machine

open Sys2Proof

/-! ### Destinations -/

/-- Live TAKE_DST field of a destination. -/
def Dev.dstFld (d : Dev) (k hi lo : Nat) : Nat := d.live (Reg.TAKE_DST_CFG k) hi lo

/-- Is a destination or circuit enabled (R332, R363)? -/
def Dev.dstEnabled (d : Dev) (k : Nat) : Bool :=
  if k < 2048 then d.liveFlag (Reg.TAKE_DST_CFG k) 0
  else d.liveFlag (Reg.TAKE_CIRC_CFG (k - 2048)) 31

/-- Plane of a destination or circuit. -/
def Dev.dstPlane (d : Dev) (k : Nat) : Nat :=
  if k < 2048 then d.dstFld k 3 1 else d.live (Reg.TAKE_CIRC_CFG (k - 2048)) 18 16

/-- The lead of the group that index k would belong to. -/
def groupLead (k : Nat) : Nat := k - k % 4

/-- Is k one of the other three indices of a group destination (R333)? -/
def Dev.groupMember (d : Dev) (k : Nat) : Bool :=
  decide (k < 2048) && decide (k % 4 ≠ 0) && d.liveFlag (Reg.TAKE_DST_CFG (groupLead k)) 15

/-- Group size of a destination (R333). -/
def Dev.dstGroupSize (d : Dev) (k : Nat) : Nat := if d.liveFlag (Reg.TAKE_DST_CFG k) 15 then 4 else 1

/-- RASTER and SAMPLING of a destination. -/
def Dev.dstRaster (d : Dev) (k : Nat) : Nat := d.dstFld k 6 4
def Dev.dstSampling (d : Dev) (k : Nat) : Nat := d.dstFld k 10 8

/-- AUTO_SYNC and AUTO_CONV. -/
def Dev.autoSync (d : Dev) (k : Nat) : Bool := d.liveFlag (Reg.TAKE_DST_CFG k) 11
def Dev.autoConv (d : Dev) (k : Nat) : Bool := d.liveFlag (Reg.TAKE_DST_CFG k) 12

/-- FS_DST entry: STORE_EN, LOSS, CHAIN_OK, D. -/
def Dev.storeEn (d : Dev) (k : Nat) : Bool := d.liveFlag (Reg.FS_DST_CFG k) 0
def Dev.lossPolicy (d : Dev) (k : Nat) : Nat := d.live (Reg.FS_DST_CFG k) 2 1
def Dev.chainOk (d : Dev) (k : Nat) : Bool := d.liveFlag (Reg.FS_DST_CFG k) 3
def Dev.fsDepth (d : Dev) (k : Nat) : Nat := d.live (Reg.FS_DST_CFG k) 26 16

/-- Default switch line, lowest and highest permitted, by total lines and scan (R339). -/
def switchRange (total : Nat) (inter : Bool) (psf : Bool) : Nat × Nat × Nat :=
  match total with
  | 525 => (10, 10, 19)
  | 625 => (6, 6, 22)
  | 750 => (7, 7, 25)
  | 1125 => if inter || psf then (7, 7, 20) else (7, 7, 41)
  | 2250 => (14, 14, 82)
  | _ => (28, 28, 164)

/-- The range for a raster code. -/
def rasterSwitch (code : Nat) : Nat × Nat × Nat :=
  switchRange (rasterTotal code) (rasterInter code) (rasterOf code).2.2.2.2

/-- The range for a plane's reference raster (R370, R786). -/
def Dev.planeSwitch (d : Dev) (tp : Nat) : Nat × Nat × Nat :=
  switchRange (d.planeLines tp) (d.liveFlag (Reg.REF_TP_CFG tp) 31) false

/-- Switch line of a destination or circuit, in lines of its own raster (R339, R341, R370). -/
def Dev.switchLine (d : Dev) (k : Nat) : Nat :=
  if k < 2048 then
    let l := d.live (Reg.TAKE_DST_SWLINE k) 12 0
    if l = 0 then (rasterSwitch (d.dstRaster k)).1 else l
  else
    let l := d.live (Reg.TAKE_CIRC_CFG (k - 2048)) 12 0
    if l = 0 then (d.planeSwitch (d.dstPlane k)).1 else l

/-- Total lines of the raster in which a destination counts its lines. -/
def Dev.dstTotal (d : Dev) (k : Nat) : Nat :=
  if k < 2048 then rasterTotal (d.dstRaster k) else d.planeLines (d.dstPlane k)

/-- Device time (2⁻¹⁶ ns) of the start of line l of frame f of a raster with `total` lines on a plane (R86). -/
def Dev.rasterInstant (d : Dev) (tp total f l : Nat) : Nat :=
  match ratePeriod (d.planeRate tp) with
  | none => 0
  | some (num, den) =>
    let t := max 1 total
    let q := den * t
    (((((f * t + (l - 1)) * (num * ticksPerSecond) + q - 1) / q : Nat) : Int) + d.planeOfs tp * 65536).toNat

/-- Device time of a destination's switch line in frame f. -/
def Dev.switchInstant (d : Dev) (k f : Nat) : Nat :=
  d.rasterInstant (d.dstPlane k) (d.dstTotal k) f (d.switchLine k)

/-- Latest device time at which a take meets its lead limit for a read in frame f (R344). -/
def Dev.leadInstant (d : Dev) (k f : Nat) : Nat := d.switchInstant k f - d.linesTicks (d.dstPlane k) 4

/-! ### Timing and format of a source against a destination -/

/-- Is source n in time for destination k (R335)? A source that has not been VALID counts as in time (R343). -/
def Dev.inTimeFor (d : Dev) (k n : Nat) : Bool :=
  match d.src n with
  | none => true
  | some x =>
    let tp := d.dstPlane k
    !x.everValid ||
      (d.srcInTime x && (x.tp == tp || d.planeRate x.tp == d.planeRate tp &&
        decide ((d.planeOfs x.tp - d.planeOfs tp).natAbs * 65536 ≤ d.linesTicks tp 1)))

/-- The store of a destination. -/
def Dev.store (d : Dev) (k : Nat) : Option Store := Sparse.get (fun _ => none) d.engines.stores k

/-- Member j of the group source n leads. -/
def Dev.memberSrc (d : Dev) (n j : Nat) : Option Nat :=
  (d.srcList.find? fun p => p.2.lead == n && p.2.member == j).map Prod.fst

/-- The source a destination reads; one of the other three indices of a group reads its member of the lead's source
(R15, R333). -/
def Dev.dstSrc (d : Dev) (k : Nat) : Option Nat :=
  if d.groupMember k then
    (d.dst (groupLead k)).src.bind fun n => d.memberSrc n (k % 4)
  else (d.dst k).src

/-- Raster code and sampling of a source; `none` before its first descriptor. -/
def Source.format (x : Source) : Option (Option Nat × Nat) :=
  x.desc.map fun y => (rasterCode y.width y.lines y.interlaced y.psf, y.sampling)

/-- Does source n have the raster and sampling of destination k (R343 FORMAT)? -/
def Dev.sameFormat (d : Dev) (k n : Nat) : Bool :=
  match (d.src n).bind Source.format with
  | none => true
  | some (c, s) => c == some (d.dstRaster k) && s == d.dstSampling k

/-- Depth of the store that source n needs on destination k; 0 for none (R451). -/
def Dev.depthFor (d : Dev) (k : Nat) (n : Option Nat) : Nat :=
  if k ≥ 2048 then 0
  else if d.storeEn k then d.fsDepth k
  else match n with
    | some n => if d.autoSync k && !d.inTimeFor k n then 1 else 0
    | none => 0

/-- Depth of the store that a destination needs: for its current source and those of its pending takes (R451). -/
def Dev.depthNeeded (d : Dev) (k : Nat) : Nat :=
  ((d.dst k).src :: (d.dst k).pend.map PendTake.src).foldl (fun a n => max a (d.depthFor k n)) 0

/-- D of R345 for a take of source n: the depth of the store in the path, else that of the store to be inserted. -/
def Dev.depthOf (d : Dev) (k : Nat) (n : Option Nat) : Nat :=
  if k ≥ 2048 then 0
  else if d.storeEn k then d.fsDepth k
  else match d.store k with
    | some x => x.depth
    | none => d.depthFor k n

/-! ### Swages (R464 to R470) -/

/-- Rows a scale needs and the rows a Swage has at input width `w` (R467, R468). -/
def swageRows (lIn lOut : Nat) : Nat := ceilDiv ((if lIn ≤ 2 * lOut then 6 else 4) * lIn) lOut + 2
def swageHas (w : Nat) : Nat := if 2048 < w then 34 else 68

/-- Width and factor limits of R464. -/
def swageRange (wIn lIn wOut lOut : Nat) : Bool :=
  decide (0 < wIn) && decide (0 < lIn) && decide (0 < wOut) && decide (0 < lOut) && decide (wIn ≤ 4096) &&
    decide (wOut ≤ 4096) && decide (wIn ≤ 16 * wOut) && decide (wOut ≤ 16 * wIn) && decide (lIn ≤ 16 * lOut) &&
    decide (lOut ≤ 16 * lIn)

/-- Pixel rate limit of R464, 600 × 10⁶ per second at 100 % (R677); `rate` is a RATE code. -/
def pixelsOk (pct w l rate : Nat) : Bool := decide (w * l * rateMilli rate ≤ 6000000000 * pct)

/-- fits() of R470. -/
def swageFits (pct rate wIn lIn wOut lOut : Nat) : Bool :=
  swageRange wIn lIn wOut lOut && pixelsOk pct wIn lIn rate && pixelsOk pct wOut lOut rate &&
    decide (swageRows lIn lOut ≤ swageHas wIn)

/-- MODE of a Swage for the scans of its input and output (R466). -/
def swageMode (inInter outInter : Bool) : Nat :=
  match inInter, outInter with
  | false, false => 0
  | true, true => 1
  | true, false => 2
  | false, true => 3

/-- place_scale of R470: the stages needed and the size between them; `none` where no chain serves. -/
def placeScale (pct : Nat) (chain : Bool) (rate wIn lIn wOut lOut : Nat) : Option (Nat × Nat × Nat) :=
  if swageFits pct rate wIn lIn wOut lOut then some (1, 0, 0)
  else if !chain then none
  else
    let vmax := if wIn > 2048 then 8 else 16
    let wMid := max wOut (ceilDiv wIn 16)
    let lMid := max lOut (ceilDiv lIn vmax)
    if swageFits pct rate wIn lIn wMid lMid && swageFits pct rate wMid lMid wOut lOut then some (2, wMid, lMid) else none

/-- Line counts as the MODE counts them (R470). -/
def lineCount (lines : Nat) (inter : Bool) : Nat := if inter then lines / 2 else lines

/-- Is a Swage page pinned, that is owned by HOST (R473)? -/
def Dev.swagePinned (d : Dev) (n : Nat) : Bool := d.ownerOf (Reg.pageSWG n) == 0

/-- May placement use a Swage (R473)? -/
def Dev.swageUsable (d : Dev) (n : Nat) : Bool :=
  d.ownerOf (Reg.pageSWG n) == (if d.live Reg.FAB_CFG 1 0 = 0 then 2 else 1)

/-- Pinned Swages bound to destination k, for itself or for the Filigree layer that it is (SWG_BIND.LAYER). -/
def Dev.pinnedAt (d : Dev) (k : Nat) (layer : Bool) : List Nat :=
  (List.range 32).filter fun n => d.swagePinned n && d.liveFlag (Reg.SWG_CFG n) 0 && d.live (Reg.SWG_BIND n) 10 0 == k &&
    d.liveFlag (Reg.SWG_BIND n) 11 == layer

/-- The pinned Swage whose output serves destination k: the second stage of a chain, if one is bound. -/
def Dev.pinnedLast (d : Dev) (k : Nat) (layer : Bool) : Option Nat :=
  match (d.pinnedAt k layer).find? fun n => d.liveFlag (Reg.SWG_BIND n) 12 with
  | some n => some n
  | none => (d.pinnedAt k layer).head?

/-- A pinned Swage is bound to destination k. -/
def Dev.pinnedFor (d : Dev) (k : Nat) : Option Nat := d.pinnedLast k false

/-- Does an input of a width, lines and scan agree with SWG_IN_SIZE and MODE (R472)? -/
def Dev.swgTakes (d : Dev) (n w l : Nat) (inter : Bool) : Bool :=
  let mode := d.live (Reg.SWG_CFG n) 2 1
  d.live (Reg.SWG_IN_SIZE n) 12 0 == w && d.live (Reg.SWG_IN_SIZE n) 28 16 == l && inter == (mode == 1 || mode == 2)

/-- The pinned Swage of destination k that receives another input than it is set for, when the destination's stream has this
width, these counted lines and this scan; a second stage reads what its first stage puts out (R472, R478). -/
def Dev.pinnedWrong (d : Dev) (k : Nat) (layer : Bool) (w l : Nat) (inter : Bool) : Option Nat :=
  match d.pinnedLast k layer with
  | none => none
  | some n =>
    if d.liveFlag (Reg.SWG_BIND n) 12 then
      let m := d.live (Reg.SWG_BIND n) 20 16
      let mode := d.live (Reg.SWG_CFG m) 2 1
      if !(d.pinnedAt k layer).contains m || d.liveFlag (Reg.SWG_BIND m) 12 then some n
      else if !d.swgTakes m w l inter then some m
      else if !d.swgTakes n (d.live (Reg.SWG_OUT_SIZE m) 12 0) (d.live (Reg.SWG_OUT_SIZE m) 28 16) (mode == 1 || mode == 3) then some n
      else none
    else if d.swgTakes n w l inter then none
    else some n

/-- The pinned Swage bound to destination k whose input is not what SWG_IN_SIZE and MODE say (R472). -/
def Dev.swageMismatch (d : Dev) (k : Nat) : Option Nat :=
  (((d.dst k).src.bind d.src).bind Source.desc).bind fun y =>
    d.pinnedWrong k false y.width (lineCount y.lines y.interlaced) y.interlaced

/-- Swages that destination k needs to carry source n; `none` where no chain serves (R470). -/
def Dev.swagesFor (d : Dev) (k n : Nat) : Option Nat :=
  if d.sameFormat k n || (d.pinnedFor k).isSome then some 0
  else match (d.src n).bind Source.desc with
    | none => some 0
    | some y =>
      let oi := rasterInter (d.dstRaster k)
      (placeScale d.opPct (d.chainOk k) (d.planeRate (d.dstPlane k)) y.width (lineCount y.lines y.interlaced)
        (rasterWidth (d.dstRaster k)) (lineCount (rasterLines (d.dstRaster k)) oi)).map Prod.fst

/-- Sources that destination k reads or will read: current and pending. -/
def Dev.dstSources (d : Dev) (k : Nat) : List Nat := (d.dst k).src.toList ++ (d.dst k).pend.filterMap PendTake.src

/-- Swages reserved for a destination (R474). -/
def Dev.dstSwages (d : Dev) (k : Nat) : Nat :=
  if k ≥ 2048 then 0
  else (d.dstSources k).foldl (fun a n => max a ((d.swagesFor k n).getD 0)) 0

/-! ### Compositor layers (R485 to R493) -/

/-- FIL compositors enabled. -/
def Dev.filEnabled (d : Dev) (n : Nat) : Bool := d.liveFlag (Reg.FIL_OUT_CFG n) 0
/-- Layer l of compositor n is enabled; it is a surface layer. -/
def Dev.layerOn (d : Dev) (n l : Nat) : Bool := d.filEnabled n && d.liveFlag (Reg.FIL_L_CFG n l) 0
def Dev.layerSurface (d : Dev) (n l : Nat) : Bool := d.liveFlag (Reg.FIL_L_CFG n l) 1
/-- Plane and raster of a compositor's output. -/
def Dev.filPlane (d : Dev) (n : Nat) : Nat := d.live (Reg.FIL_OUT_CFG n) 3 1
def Dev.filRaster (d : Dev) (n : Nat) : Nat := d.live (Reg.FIL_OUT_CFG n) 6 4
def Dev.filSampling (d : Dev) (n : Nat) : Nat := d.live (Reg.FIL_OUT_CFG n) 10 8
/-- Destination of a live layer; W and H of a layer. -/
def Dev.layerDst (d : Dev) (n l : Nat) : Nat := d.live (Reg.FIL_L_CFG n l) 26 16
def Dev.layerW (d : Dev) (n l : Nat) : Nat := d.live (Reg.FIL_L_SIZE n l) 12 0
def Dev.layerH (d : Dev) (n l : Nat) : Nat := d.live (Reg.FIL_L_SIZE n l) 28 16

/-- Rows a layer scaler needs (R491). -/
def layerRows (lines h : Nat) : Nat := ceilDiv (4 * lines) h + 2

/-- Is a source of width w and lines l within the layer scaler's range for W × H (R491)? -/
def layerFits (w l wOut lOut : Nat) : Bool :=
  decide (w ≤ 4 * wOut) && decide (wOut ≤ 16 * w) && decide (lOut ≤ 16 * l) && decide (w ≤ 4096) &&
    decide (layerRows l lOut ≤ 12)

/-- A library surface. -/
def Dev.surface (d : Dev) (num : Nat) : Option Surface :=
  if d.temper.libBad.contains num then none else d.engines.library.find? fun x => x.num == num

/-- Little-endian number at a byte offset of a surface. -/
def Surface.num_at (x : Surface) (ofs n : Nat) : Nat := natLE ((x.bytes.drop ofs).take n)
/-- Width, height and length of a surface (R494). -/
def Surface.width (x : Surface) : Nat := x.num_at 6 2 % 8192
def Surface.height (x : Surface) : Nat := x.num_at 8 2 % 8192
def Surface.length (x : Surface) : Nat := x.num_at 24 4

/-- Swages a live layer needs of placement (R473, R492): none within the scaler's range and scan or with a pinned one; `none` where it cannot be served. -/
def Dev.layerSwages (d : Dev) (n l : Nat) : Option Nat :=
  if d.layerSurface n l ∨ d.pinnedAt (d.layerDst n l) true ≠ [] then some 0
  else
    let r := d.dstRaster (d.layerDst n l)
    let oi := rasterInter (d.filRaster n)
    if rasterInter r = oi ∧ layerFits (rasterWidth r) (rasterLines r) (d.layerW n l) (d.layerH n l) = true then some 0
    else if d.liveFlag (Reg.FIL_L_CFG n l) 14 then
      (placeScale d.opPct (d.chainOk (d.layerDst n l)) (d.planeRate (d.filPlane n)) (rasterWidth r)
        (lineCount (rasterLines r) (rasterInter r)) (d.layerW n l) (lineCount (d.layerH n l) oi)).map Prod.fst
    else none

/-- Every enabled layer: compositor and layer. -/
def Dev.layers (d : Dev) : List (Nat × Nat) :=
  ((List.range 16).filter fun n => d.filEnabled n).flatMap fun n =>
    ((List.range 8).filter fun l => d.layerOn n l).map fun l => (n, l)

/-- Swages reserved by every destination and layer. -/
def Dev.swagesUsed (d : Dev) : Nat :=
  d.anvil.dsts.foldl (fun a p => a + d.dstSwages p.1) 0 + d.layers.foldl (fun a p => a + (d.layerSwages p.1 p.2).getD 0) 0

/-- Swages that placement may use. -/
def Dev.swagesFree (d : Dev) : Nat := ((List.range 32).filter fun n => d.swageUsable n).length - d.swagesUsed

/-! ### DRAM budget (R461, R462, R499, R502) -/

/-- Size of an extent. -/
def extentBytes : Nat := 2097152

/-- Bytes of one stored frame, and cells per second, of a raster (R461). -/
def frameBytes (width lines total sampling : Nat) (anc : Bool) : Nat :=
  272 * (cellsPerLine width sampling * lines + (if anc then total else 0))

/-- Extents of a store of depth dp (R461). -/
def storeExtents (dp bytes : Nat) : Nat := ceilDiv ((dp + 2) * bytes) extentBytes

/-- Bandwidth of a store, B/s (R461). -/
def storeBw (width lines total rate sampling : Nat) (anc : Bool) : Nat :=
  2 * cellRate width lines total rate sampling 0 anc * 272

/-- The raster a destination's store holds for source n: the smaller of source and destination (R22). -/
def Dev.storedRaster (d : Dev) (k n : Nat) : Nat × Nat × Nat × Nat × Bool :=
  let o := (rasterWidth (d.dstRaster k), rasterLines (d.dstRaster k), rasterTotal (d.dstRaster k), d.dstSampling k, true)
  match (d.src n).bind Source.desc with
  | none => o
  | some y =>
    if d.sameFormat k n || decide (o.1 < y.width) || decide (o.2.1 < y.lines) then (o.1, o.2.1, o.2.2.1, o.2.2.2.1, y.anc)
    else (y.width, y.lines, y.total, y.sampling, y.anc)

/-- Extents and bandwidth of the store for destination k and source n. -/
def Dev.storeCost (d : Dev) (k n : Nat) : Nat × Nat :=
  let dp := d.depthFor k (some n)
  if dp = 0 then (0, 0)
  else
    let r := d.storedRaster k n
    (storeExtents dp (frameBytes r.1 r.2.1 r.2.2.1 r.2.2.2.1 r.2.2.2.2),
      storeBw r.1 r.2.1 r.2.2.1 (d.planeRate (d.dstPlane k)) r.2.2.2.1 r.2.2.2.2)

/-- Extents and bandwidth a destination reserves: the largest over its sources; with STORE_EN and no source, those of its
own raster (R462). -/
def Dev.dstStoreCost (d : Dev) (k : Nat) : Nat × Nat :=
  if k ≥ 2048 then (0, 0)
  else
    (d.dstSources k).foldl (fun a n =>
      let c := d.storeCost k n
      (max a.1 c.1, max a.2 c.2)) (0, 0)

/-- Surfaces named by applied commits and by loss policies of stores, each once (R498). -/
def Dev.namedSurfaces (d : Dev) : List Nat :=
  ((d.layers.filter fun p => d.layerSurface p.1 p.2).map (fun p => d.live (Reg.FIL_L_SURF p.1 p.2) 15 0) ++
    ((d.anvil.dsts.filter fun p => decide (p.1 < 2048) && d.lossPolicy p.1 == 2).map
      fun p => d.live (Reg.FS_DST_SURF p.1) 31 0)).eraseDups

/-- Held copies of layers with LATE HOLD, and of a compositor with a layer at BLOCK: extents and bandwidth (R502). -/
def Dev.copyCost (d : Dev) : Nat × Nat :=
  let one := fun (raster sampling rate : Nat) =>
    (storeExtents 0 (frameBytes (rasterWidth raster) (rasterLines raster) (rasterTotal raster) sampling false),
      storeBw (rasterWidth raster) (rasterLines raster) (rasterTotal raster) rate sampling false)
  let add := fun (a b : Nat × Nat) => (a.1 + b.1, a.2 + b.2)
  let a := d.layers.foldl (fun acc p =>
    if !d.layerSurface p.1 p.2 && d.live (Reg.FIL_L_CFG p.1 p.2) 13 12 == 0 then
      add acc (one (d.dstRaster (d.layerDst p.1 p.2)) (d.dstSampling (d.layerDst p.1 p.2)) (d.planeRate (d.filPlane p.1)))
    else acc) (0, 0)
  (List.range 16).foldl (fun acc n =>
    if d.layers.any fun p => p.1 == n && d.live (Reg.FIL_L_CFG p.1 p.2) 13 12 == 2 then
      add acc (one (d.filRaster n) (d.filSampling n) (d.planeRate (d.filPlane n)))
    else acc) a

/-- Bandwidth of the surface reads: each surface layer's length × its output's frame rate (R499). -/
def Dev.surfaceBw (d : Dev) : Nat :=
  d.layers.foldl (fun acc p =>
    if d.layerSurface p.1 p.2 then
      acc + (((d.surface (d.live (Reg.FIL_L_SURF p.1 p.2) 15 0)).map Surface.length).getD 0) *
        rateMilli (d.planeRate (d.filPlane p.1)) / 1000
    else acc) 0

/-- Enabled matrix outputs, rising (R510). -/
def Dev.audEntries (d : Dev) : List Nat :=
  d.regs.filterMap fun p =>
    let o := p.1 % 0x1000
    if decide (0xA00000 ≤ p.1) && decide (p.1 < 0xC00000) && decide (0x900 ≤ o) && (o - 0x900) % 0x40 == 0 &&
        decide ((o - 0x900) / 0x40 < 16) && bit p.2 0 then some ((p.1 / 0x1000 - 0xA00) * 16 + (o - 0x900) / 0x40) else none

/-- Destination that output o follows; `none` when it is breakaway (R516, R517). -/
def Dev.audFollow (d : Dev) (o : Nat) : Option Nat :=
  if d.liveFlag (Reg.AUD_O_CFG o) 3 then none else some (d.live (Reg.AUD_O_CFG o) 26 16)

/-- Delay of output o in samples (R528): round(D × P × 48,000) of the destination it follows, and ADJ. -/
def Dev.audDelay (d : Dev) (o : Nat) : Nat :=
  (match d.audFollow o with
    | none => 0
    | some k =>
      match ratePeriod (d.planeRate (d.dstPlane k)) with
      | some (num, den) => (2 * d.depthOf k (d.dst k).src * num * 48000 + den) / (2 * den)
      | none => 0) + d.live (Reg.AUD_O_DLY o) 12 0

/-- Delay lines in use and their bytes (R528). -/
def Dev.dlyLines (d : Dev) : List Nat := d.audEntries.filter fun o => decide (d.audDelay o ≠ 0)
def Dev.dlyBytes (d : Dev) : Nat := d.dlyLines.foldl (fun a o => a + (d.audDelay o + 1024) * 4) 0

/-- Extents reserved by stores, surfaces and held copies; the delay-line area stands beside them (R462, R477, R502). -/
def Dev.poolUsed (d : Dev) : Nat :=
  d.anvil.dsts.foldl (fun a p => a + (d.dstStoreCost p.1).1) 0 +
    d.namedSurfaces.foldl (fun a n => a + ceilDiv (((d.surface n).map Surface.length).getD 0) extentBytes) 0 + d.copyCost.1

/-- Bandwidth reserved, B/s. -/
def Dev.bwUsed (d : Dev) : Nat :=
  d.anvil.dsts.foldl (fun a p => a + (d.dstStoreCost p.1).2) 0 + d.surfaceBw + d.copyCost.2 +
    d.dlyLines.length * 384000

/-- Which limit of R462 and R528 the present assignments break: 1 bandwidth, 2 extents, 3 the delay-line area, 4 a DRAM that
failed its boot training (R744). -/
def Dev.budgetBroken (d : Dev) : Option Nat :=
  if d.flag Reg.DDR_STAT 9 && d.bwUsed != 0 then some 4
  else if d.fld Reg.FS_BW_LIMIT 31 0 * 1000000 < d.bwUsed then some 1
  else if d.live Reg.FS_POOL_SIZE 17 0 < d.poolUsed then some 2
  else if d.live Reg.AUD_DLY_AREA 17 0 * extentBytes < d.dlyBytes then some 3
  else none

/-- The capacity check of R331, R343 and R462 on a state that holds the request: DETAIL 1 Hearth, 2 Swage, 3 frame
store; `none` when everything fits. Takes on destination k need a chain that serves each of its sources. -/
def Dev.capacityDetail (e : Dev) (k : Nat) : Option Nat :=
  if e.hearthCapacity < e.outRate then some 1
  else if (e.dstSources k).any (fun n => (e.swagesFor k n).isNone) ∨
      ((List.range 32).filter fun n => e.swageUsable n).length < e.swagesUsed then some 2
  else if e.budgetBroken.isSome then some 3
  else none

/-- BW_FULL, POOL_FULL or DLY_FULL when a request is refused on the DRAM budget (R477, R528). -/
def Dev.budgetSticky (d e : Dev) : Dev :=
  let d1 := match e.budgetBroken with
    | some 1 => d.raise Reg.pageFSENG 0 0
    | some 2 => d.raise Reg.pageFSENG 1 0
    | _ => d
  if e.budgetBroken = some 3 ∨ (e.budgetBroken = some 1 ∧ d.dlyLines.length < e.dlyLines.length) then
    d1.raise Reg.pageAUDENG 1 0 else d1

/-- The summary registers of the FS_ENG page (R477). -/
def Dev.fsRefresh (d : Dev) : Dev :=
  let pinned := ((List.range 32).filter fun n => d.swagePinned n).length
  ((((d.wrNat Reg.FS_POOL_USED d.poolUsed).wrNat Reg.FS_BW_USED (ceilDiv d.bwUsed 1000000)).wrNat Reg.FS_STORES
    (d.engines.stores.filter fun p => p.2.isSome).length).wrNat Reg.FS_SWG_FREE (d.swagesFree + pinned * 256))

/-- Replace the store of a destination. -/
def Dev.putStore (d : Dev) (k : Nat) (x : Option Store) : Dev :=
  { d with engines := { d.engines with stores := Sparse.set (fun _ => none) d.engines.stores k x } }

/-- STAT [1:0] of a store: 0 OFF, 1 FILLING, 2 RUNNING, 3 LOSS, with ON_FIELD, ON_SURFACE and the frames written while
FILLING (R476). -/
def storeStat (x : Option Store) : Nat :=
  match x with
  | none => 0
  | some x =>
    let st := if x.filling then 1 else if x.inLoss then 3 else 2
    let sh := match x.shown with
      | .frame _ _ => 0
      | .field => 4
      | .surface _ => 8
    st + (if x.filling || x.inLoss then sh else 0) + (if x.filling then min x.written x.depth * 65536 else 0)

/-- Replace the store of a destination and show it: FS_DSTe_STAT, the STORE bit of PLACE, the extents, and the interrupt
of R479 on a change of STAT [1:0]. -/
def Dev.setStore (d : Dev) (k : Nat) (x : Option Store) : Dev :=
  let d1 := d.putStore k x
  let ext := (d1.dstStoreCost k).1
  let d2 := ((d1.wrNat (Reg.FS_DST_STAT k) (storeStat x)).setFlag (Reg.FS_DST_PLACE k) 0 x.isSome).wrNat (Reg.FS_DST_EXT k)
    (if x.isSome then ext else 0)
  let d3 := if storeStat (d.store k) % 4 ≠ storeStat x % 4 then d2.statusIrq (0x680 + k / 16) 16 else d2
  if (d.store k).isSome ≠ x.isSome then d3.fsRefresh else d3

/-- A store that has no frames: FILLING (R459). -/
def Store.fresh (dp : Nat) : Store := ⟨dp, [], true, 0, none, none, 0, false, .field, none, none, none⟩

/-- The store of a member of a group is that of its lead (R15): it comes, goes and changes depth with it. -/
def Dev.memberStore (d : Dev) (k : Nat) : Dev :=
  if !d.groupMember k then d
  else match d.store (groupLead k), d.store k with
    | none, none => d
    | none, some _ => d.setStore k none
    | some x, none => d.setStore k (some { Store.fresh x.depth with
        filling := x.filling
        pre := x.pre.map fun p => (p.1.bind fun n => d.memberSrc n (k % 4), p.2) })
    | some x, some y => if x.depth = y.depth then d else d.setStore k (some { y with depth := x.depth })

end Sys2Proof.Machine
end

