-- ==== Sys2Proof/Machine/Tongs.lean ====
section
/-!
DEFINITION. Sending Tongs messages and the device's own place in the hierarchy (spec/11_hierarchy.md, R409 to R423).
-/

namespace Sys2Proof.Machine

open Sys2Proof

/-! ### Modes that several chapters ask about -/

/-- Power state code of R660. -/
def Dev.powerState (d : Dev) : Nat := d.fld Reg.PWR_STATE 2 0

/-- The datapath is in RUN or IDLE with no transition under way (R663, R664). -/
def Dev.datapathOn (d : Dev) : Bool := decide (d.powerState ≤ 1) && !d.flag Reg.PWR_STATE 3

/-- The datapath runs: it stops at step 3 of R665 and restarts when a wake ends (R671, R672). -/
def Dev.dataRuns (d : Dev) : Bool := !d.power.stopped

/-- No state change is accepted: TMP_STAT.MODE is not NORMAL (R602, R608). -/
def Dev.sealing (d : Dev) : Bool := d.fld Reg.TMP_STAT 1 0 != 0

/-- Hallmark state code of R696. -/
def Dev.halState (d : Dev) : Nat := d.fld Reg.HAL_STAT 1 0

/-! ### Roles -/

/-- Own position and manager position (R444). -/
def Dev.position (d : Dev) : Nat := d.fld Reg.HIE_ROLE 17 11
def Dev.managerPos (d : Dev) : Nat := d.fld Reg.HIE_ROLE 10 4

/-- Is this device the manager, and is its role confirmed? -/
def Dev.isManager (d : Dev) : Bool := d.fld Reg.HIE_ROLE 1 0 == 0
def Dev.roleConfirmed (d : Dev) : Bool := d.flag Reg.HIE_ROLE 2

/-- Role epoch held. -/
def Dev.epoch (d : Dev) : Nat := d.fld Reg.HIE_EPOCH 31 0

/-- Role of a position in the table held; 0xF absent. -/
def Dev.roleOf (d : Dev) (p : Nat) : Nat := d.hie.table.roles.getD p 0xF

/-- What is kept of a peer. -/
def Dev.peer (d : Dev) (p : Nat) : Peer := Sparse.get (fun _ => Peer.reset) d.hie.peers p

/-- Replace what is kept of a peer. -/
def Dev.setPeer (d : Dev) (p : Nat) (x : Peer) : Dev :=
  { d with hie := { d.hie with peers := Sparse.set (fun _ => Peer.reset) d.hie.peers p x } }

/-! ### Sending (R419 to R422) -/

/-- May a message of this kind leave (R415, R418, R634, R640)? -/
def Dev.maySend (d : Dev) (b : TongsBody) : Bool :=
  d.halState != 2 && !d.isStandby && d.fld Reg.TWN_STAT 2 0 != 5 && (d.roleConfirmed || match b with
    | .roleQuery => true
    | .roleSet _ => true
    | .ack => true
    | _ => false)

/-- The lane a message for position p leaves on (R419): a worker's time-transfer lane, or on the manager and down the
tree the lane on which that position's REQ blocks last arrived. -/
def Dev.laneFor (d : Dev) (p : Nat) : Option Nat :=
  if d.isManager ∨ (p ≠ d.managerPos ∧ (d.peer p).lane.isSome) then (d.peer p).lane
  else if d.flag Reg.PTP_TT_STAT 12 then some (d.fld Reg.PTP_TT_STAT 7 0) else none

/-- Compose a message for position p under the next SEQ (R416, R421); an ACK is not sequenced. -/
def Dev.compose (d : Dev) (p : Nat) (b : TongsBody) (resync : Bool) : TongsMsg :=
  let isAck := b = .ack
  ⟨isAck, resync, false, d.position, b2n (d.flag Reg.HIE_ROLE 18), p, d.epoch,
    if isAck then 0 else ((d.peer p).sent + 1) % 2 ^ 32, (d.peer p).acted, b⟩

/-- Send a message to a peer; it stays unacknowledged until its ACK arrives (R421 to R423). While the Hallmark runs its
self-test the message waits for it (R720). Any message carries the ACK that is due (R422). -/
def Dev.tongsSendR (d : Dev) (p : Nat) (b : TongsBody) (resync : Bool) : Dev :=
  if !d.maySend b then d
  else
    let m := d.compose p b resync
    let x := d.peer p
    let ready := d.halState != 0
    let d1 := if m.noseq then d.setPeer p { x with ackDue := false }
      else (d.setPeer p { x with sent := m.seq, unacked := x.unacked ++ [⟨m, 0, ready⟩], ackDue := false }).jAppend
        [.tongsSeq p m.seq x.acted]
    if ready then d1.send (.tongs (d.laneFor p) m) else d1

/-- Send an ordinary message. -/
def Dev.tongsSend (d : Dev) (p : Nat) (b : TongsBody) : Dev := d.tongsSendR p b false

/-- Show a result of a hierarchy take on the manager (R435). -/
def Dev.hieShowResult (d : Dev) (r : ResultEntry) : Dev :=
  let d1 := if (d.rd Reg.HIE_REQ_TICKET).toNat = r.ticket then
      d.wrNat Reg.HIE_REQ_RESULT (r.result % 8 + r.reason % 256 * 256) else d
  let d2 : Dev := { d1 with hie := { d1.hie with
    globals := d1.hie.globals.map fun g =>
      match g.pend.find? fun e => e.ticket == r.ticket with
      | none => g
      | some e =>
        if r.result = 1 then g
        else { g with
          pend := g.pend.filter fun e => e.ticket != r.ticket
          src := if r.result = 3 then e.src.map Fin.val else g.src
          onBackup := r.result != 3 && g.onBackup
          flaps := if r.result = 3 then 0 else g.flaps
          latched := r.result != 3 && g.latched
          lastF := if r.result = 3 then r.f else g.lastF
          lastTicket := if r.result = 3 then r.ticket else g.lastTicket } } }
  d2

/-- Report the result of a MANAGER take: shown at once on the manager itself, else sent in TAKE_RESULT (R435). A member of a
hierarchy salvo carries the salvo's own ticket, as the messages do. -/
def Dev.hieResult (d : Dev) (r0 : ResultEntry) : Dev :=
  let r := { r0 with ticket := r0.ticket % 2 ^ 32 }
  if d.isManager then d.hieShowResult r else d.tongsSend d.managerPos (.takeResult [r])

end Sys2Proof.Machine
end

