-- ==== Sys2Proof/Machine/Anvil.lean ====
section
/-!
DEFINITION. The Anvil: takes, holds, the decision at the lead limit and at the switch line, automatic protection and
salvos (spec/09_hearth_and_takes.md, R332 to R371).
-/

namespace Sys2Proof.Machine

open Sys2Proof

/-! ### The registers of a destination or circuit -/

/-- Argument of an event of a destination: class and port of the take concerned, and DST (R166). -/
def dstArg (k cls port : Nat) : Nat := cls % 4 + port % 256 * 256 + k % 2048 * 2 ^ 21

/-- Entry sticky bit of a destination, with the class and port of the take concerned; on a circuit TAKE_SLIPPED,
TAKE_PREEMPTED and TAKE_REFUSED are bits 0 to 2 of the TAKE_CIRC page (R166, R368, R370). Each pre-empted take logs an
event (R350). -/
def Dev.dstSticky (d : Dev) (k n cls port : Nat) : Dev :=
  let arg := dstArg k cls port
  if k < 2048 then
    if n = 1 then d.raiseEntryLog (Reg.pageTAKEDST k) (k % 16) n arg else d.raiseEntry (Reg.pageTAKEDST k) (k % 16) n arg
  else match n with
    | 0 => d.raise Reg.pageTAKECIRC 0 arg
    | 1 => d.raiseLog Reg.pageTAKECIRC 1 arg
    | 8 => d.raise Reg.pageTAKECIRC 2 arg
    | _ => d

/-- The earliest pending take. -/
def earliest (l : List PendTake) : Option PendTake :=
  l.foldl (fun a t => match a with
    | none => some t
    | some b => if t.f < b.f then some t else a) none

/-- Code of an optional source in a [9:0] field with its flag at bit 15. -/
def srcField (s : Option Nat) : Nat := match s with
  | some n => n % 1024 + 32768
  | none => 0

/-- Store a destination and show it in its registers (R368, R370). -/
def Dev.setDst (d : Dev) (k : Nat) (x : Dst) : Dev :=
  let d1 : Dev := { d with anvil := { d.anvil with dsts := Sparse.set (fun _ => Dst.reset) d.anvil.dsts k x } }
  let holdCode := match x.hold with
    | some h => h.kind % 4 + h.cls % 4 * 4 + h.port % 16 * 16
    | none => 0
  if k < 2048 then
    let d2 := d1.wrNat (Reg.TAKE_DST_SRC k) (srcField x.src + (x.primary.getD 0 % 1024) * 65536 +
      (if x.src.isSome ∧ x.src ≠ x.primary then 2147483648 else 0))
    let d3 := (d2.wrNat (Reg.TAKE_DST_HOLD k) (holdCode + (if x.pend.any (fun t => t.salvo.isSome) then 256 else 0))).wrNat
      (Reg.TAKE_DST_PEND k) (x.pend.length % 16)
    let d4 := match earliest x.pend with
      | none => (d3.wrNat (Reg.TAKE_DST_NEXT_F_LO k) 0).wrNat (Reg.TAKE_DST_NEXT_F_HI k) 0
      | some t => (d3.wrNat (Reg.TAKE_DST_NEXT_F_LO k) t.f).wrNat (Reg.TAKE_DST_NEXT_F_HI k)
          (t.f / 2 ^ 32 % 65536 + t.src.getD 0 % 1024 * 65536 + 2147483648)
    d4.wrNat (Reg.TAKE_DST_FLAPCNT k) (min x.flaps.length 15 + b2n x.latched * 256 + min x.bad 1023 * 65536)
  else
    let c := k - 2048
    let remote := d.flag (Reg.TAKE_CIRC_STAT c) 9
    d1.wrNat (Reg.TAKE_CIRC_STAT c) (x.src.getD 0 % 256 + b2n x.src.isSome * 256 + b2n remote * 512 +
      (x.hold.map Hold.kind).getD 0 % 4 * 1024 + x.pend.length % 16 * 4096)

/-- Change a destination. -/
def Dev.updDst (d : Dev) (k : Nat) (f : Dst → Dst) : Dev := d.setDst k (f (d.dst k))

/-- The last refusal or pre-emption of a destination (R368). -/
def Dev.lastReason (d : Dev) (k reason ticket : Nat) : Dev :=
  if k < 2048 then d.wrNat (Reg.TAKE_DST_LAST_REASON k) (reason % 256 + ticket % 65536 * 65536) else d

/-! ### Results of requests (R365, R367) -/

/-- A request of the TAKE_CMD page ends: its result, BUSY clear and REQ_DONE. -/
def Dev.reqDone (d : Dev) (result reason detail : Nat) : Dev :=
  ((d.wrNat Reg.TAKE_REQ_RESULT (result % 8 + reason % 256 * 256 + detail % 65536 * 65536)).setFlag
    Reg.TAKE_REQ_GO 31 false).raise Reg.pageTAKECMD 0 0

/-- A result reaches its requester. -/
def Dev.answer (d : Dev) (via : Via) (result reason detail : Nat) : Dev :=
  match via with
  | .page => d.reqDone result reason detail
  | .none_ => d
  | .tongs ticket => d.hieResult ⟨ticket, result, reason, 0, 0, false⟩

/-- A take is refused: its result, and on a known destination LAST_REASON and TAKE_REFUSED. -/
def Dev.takeRefused (d : Dev) (k : Nat) (known : Bool) (cls port : Nat) (via : Via) (reason detail : Nat) : Dev :=
  let d1 := if known then (d.lastReason k reason 0).dstSticky k 8 cls port else d
  d1.answer via 2 reason detail

/-- A pending take ends with a result (R347 to R350): TAKE_END record, LAST_REASON for a refusal or pre-emption, and the
report of a MANAGER take. `f` is the frame of an applied take. -/
def Dev.endTake (d : Dev) (k : Nat) (t : PendTake) (result reason f : Nat) : Dev :=
  let d1 := d.jAppend [.takeEnd k t.ticket result reason f]
  let d2 := if result = 2 ∨ result = 4 then d1.lastReason k reason t.ticket else d1
  let d3 := if result = 2 then d2.dstSticky k 8 t.cls t.port else d2
  if t.cls = 1 then d3.hieResult ⟨t.ticket, result, reason, f, d.dstPlane k, t.slipped⟩ else d3

/-! ### The lead limit (R344 to R346) -/

/-- The first read frame whose lead limit an arrival now meets. -/
def Dev.firstRead (d : Dev) (k : Nat) : Nat :=
  let f := (d.coordNow (d.dstPlane k)).f
  if d.time ≤ d.leadInstant k f then f else f + 1

/-- The output frame in which a take for source `n` applies, and whether it slips: requested frame `f`, or NOW. -/
def Dev.takeFrame (d : Dev) (k : Nat) (n : Option Nat) (f : Option Nat) : Nat × Bool :=
  let dp := d.depthOf k n
  match f with
  | none => (d.firstRead k + dp, false)
  | some f =>
    if dp ≤ f ∧ d.time ≤ d.leadInstant k (f - dp) then (f, false) else (d.firstRead k + dp, true)

/-- Read frame of a pending take (R345). -/
def Dev.readFrame (d : Dev) (k : Nat) (t : PendTake) : Nat := t.f - d.depthOf k t.src

/-! ### The checks of R343 -/

/-- A hold held by somebody else. -/
def heldByOther (h : Option Hold) (kind cls port : Nat) : Bool :=
  match h with
  | some h => h.kind == kind && !(h.cls == cls && h.port == port)
  | none => false

/-- Is source `n` configured for key k: an SRC, or for a circuit a receive lane in RAW role (R363)? -/
def Dev.sourceThere (d : Dev) (k n : Nat) : Bool :=
  if k < 2048 then (d.src n).isSome else decide (n < 192) && d.laneRole n == 6

/-- Frame rate code of source n: that of its descriptor, or of its plane before it has been VALID. -/
def Dev.sourceRate (d : Dev) (n : Nat) : Nat :=
  match d.src n with
  | none => 0
  | some x => (x.desc.map Desc.rate).getD (d.planeRate x.tp)

/-- Group size of source n. -/
def Dev.sourceGroup (d : Dev) (n : Nat) : Nat := ((d.src n).map Source.groupSize).getD 1

/-- Add a take to the pending takes of a destination, the earlier one of the same class, port and frame giving way
(R347). -/
def addPend (l : List PendTake) (t : PendTake) : List PendTake :=
  (l.filter fun u => !(u.cls == t.cls && u.port == t.port && u.f == t.f && u.salvo.isNone)) ++ [t]

/-- The state in which a take is pending too, for the capacity check (R331). -/
def Dev.withPend (d : Dev) (k : Nat) (t : PendTake) : Dev :=
  { d with anvil := { d.anvil with
    dsts := Sparse.set (fun _ => Dst.reset) d.anvil.dsts k { d.dst k with pend := addPend (d.dst k).pend t } } }

/-- The checks of R343 in their order, up to QUEUE_FULL, of a take that would apply in frame `fr`: reason and DETAIL of the
first that fails. `offPlane` says that the request names another plane than the destination's. -/
def Dev.takeCheckAt (d : Dev) (k : Nat) (n : Option Nat) (fr : Nat) (offPlane : Bool) (cls port : Nat) : Option (Nat × Nat) :=
  let x := d.dst k
  let onDst := decide (k < 2048)
  if !d.datapathOn || d.sealing then some (0x10, 0)
  else if k ≥ 2240 ∨ !d.dstEnabled k ∨ d.groupMember k then some (0x02, 0)
  else if offPlane then some (0x14, 0)
  else if n.any (fun n => !d.sourceThere k n) then some (0x01, 0)
  else if heldByOther x.hold 2 cls port then some (0x03, 0)
  else if heldByOther x.hold 1 cls port then some (0x04, 0)
  else if x.pend.any (fun t => t.salvo.isSome && t.f == fr) then some (0x0C, 0)
  else if onDst && n.any (fun n => d.sourceRate n != d.planeRate (d.dstPlane k)) then some (0x06, 0)
  else if onDst && n.any (fun n => d.sourceGroup n != d.dstGroupSize k) then some (0x08, 0)
  else if onDst && n.any (fun n => !d.inTimeFor k n) && !d.autoSync k && !d.storeEn k then some (0x05, 0)
  else if onDst && n.any (fun n => !d.sameFormat k n) && (!d.autoConv k || d.dstGroupSize k == 4) then some (0x07, 0)
  else
    match (if onDst then (d.withPend k ⟨0, cls, port, n, fr, false, none, false, none⟩).capacityDetail k else none) with
    | some det => some (0x09, det)
    | none => if x.pend.length ≥ 8 then some (0x0A, 0) else none

/-- The checks of R343: `f` is the requested frame on plane `tp`, `none` for NOW. -/
def Dev.takeCheck (d : Dev) (k : Nat) (n : Option Nat) (f : Option Nat) (tp cls port : Nat) : Option (Nat × Nat) :=
  match d.takeCheckAt k n (d.takeFrame k n f).1 (f.isSome && tp != d.dstPlane k) cls port with
  | some c => some c
  | none => if f.any (fun f => d.tooFar (d.dstPlane k) f) then some (0x0B, 0) else none

/-- A take made pending: its frame is settled against the lead limit as it arrives, a slip sets TAKE_SLIPPED, an earlier
take of the same class, port and frame ends REPLACED (R344, R347). -/
def Dev.pendTake (d : Dev) (k : Nat) (t : PendTake) (f : Option Nat) : Dev :=
  let fr := d.takeFrame k t.src f
  let t1 : PendTake := { t with f := fr.1, slipped := t.slipped || fr.2 }
  let x := d.dst k
  let gone := x.pend.filter fun u => u.cls == t1.cls && u.port == t1.port && u.f == t1.f && u.salvo.isNone
  let d1 := gone.foldl (fun a u => a.endTake k u 6 0 0) d
  let d2 := (d1.updDst k fun x => { x with pend := addPend x.pend t1 }).fsRefresh
  if fr.2 then d2.dstSticky k 0 t1.cls t1.port else d2

/-- Take the next ticket. -/
def Dev.nextTicket (d : Dev) : Dev := { d with anvil := { d.anvil with nextTicket := d.anvil.nextTicket + 1 } }

/-- An accepted take becomes durable (R343, R594): it is pending, and its result is ACCEPTED with its ticket. -/
def Dev.takeDurable (d : Dev) (k : Nat) (t : PendTake) (f : Option Nat) (via : Via) : Dev :=
  let d1 := d.pendTake k t f
  match via with
  | .page => (d1.wrNat Reg.TAKE_REQ_TICKET t.ticket).reqDone 1 0 0
  | v => d1.answer v 1 0 0

/-- A take request: refused by the first failing check, else journalled (R343). -/
def Dev.takeRequest (d : Dev) (k : Nat) (n f : Option Nat) (tp cls port : Nat) (via : Via) (dn : Option Nat) : Dev :=
  match d.takeCheck k n f tp cls port with
  | some (reason, detail) =>
    let d1 := if reason = 9 ∧ detail = 3 then d.budgetSticky (d.withPend k ⟨0, cls, port, n, 0, false, none, false, none⟩) else d
    d1.takeRefused k (decide (k < 2240)) cls port via reason detail
  | none =>
    let ticket := match via with
      | .tongs t => t
      | _ => d.anvil.nextTicket
    let t : PendTake := ⟨ticket, cls, port, n, (d.takeFrame k n f).1, false, none, false, dn⟩
    d.nextTicket.jRequest [.take k t] (.take k t f via)

/-! ### The TAKE_CMD page -/

/-- Destination key that TAKE_REQ_DST names; 2,240 and above names none. -/
def Dev.reqKey (d : Dev) : Nat :=
  let n := d.fld Reg.TAKE_REQ_DST 10 0
  if d.flag Reg.TAKE_REQ_DST 15 then 2048 + n else n

/-- Source that TAKE_REQ_SRC names; `none` for CLEAR. -/
def Dev.reqSrc (d : Dev) : Option Nat := if d.flag Reg.TAKE_REQ_SRC 15 then none else some (d.fld Reg.TAKE_REQ_SRC 9 0)

/-- Target frame; `none` for NOW. -/
def Dev.reqFrame (d : Dev) : Option Nat :=
  if d.flag Reg.TAKE_REQ_F_HI 24 then none
  else some (d.fld Reg.TAKE_REQ_F_LO 31 0 + d.fld Reg.TAKE_REQ_F_HI 15 0 * 2 ^ 32)

/-- A write of GO on the TAKE_CMD page: from its owner, with no request running; on a standby the request is refused
with reason STANDBY (R640). -/
def Dev.takeGo (d : Dev) (w : Writer) (f : Dev → Dev) : Dev :=
  match d.gate Reg.pageTAKECMD 0x054 w with
  | .ignored => d
  | .violation => d.ownerViol Reg.pageTAKECMD 0x054 w
  | .standby => ((d.bump Reg.TWN_STBY_WR 31 0).raise Reg.pageTWN 9 0).reqDone 2 0x16 0
  | .open_ => if d.flag Reg.TAKE_REQ_GO 31 then d else f ((d.setFlag Reg.TAKE_REQ_GO 0 true).setFlag Reg.TAKE_REQ_GO 31 true)

def execTake (w : Writer) (s : State) :=
  s.onDev fun d => d.takeGo w fun d =>
    d.takeRequest d.reqKey d.reqSrc d.reqFrame (d.fld Reg.TAKE_REQ_F_HI 18 16) w.cls.code w.port .page none

/-- Is the lead limit of a pending take still to come? -/
def Dev.beforeLead (d : Dev) (k : Nat) (t : PendTake) : Bool :=
  !t.won && decide (d.time ≤ d.leadInstant k (d.readFrame k t))

/-- Cancel the requester's own pending take of a destination and frame, the earliest when the request names no frame (R348). -/
def Dev.cancelRequest (d : Dev) (k : Nat) (f : Option Nat) (cls port : Nat) (via : Via) : Dev :=
  if d.sealing then d.answer via 2 0x10 0
  else
    let m := earliest ((d.dst k).pend.filter fun t =>
      t.cls == cls && t.port == port && t.salvo.isNone && (f.isNone || f == some t.f))
    match m with
    | none => d.answer via 2 0x12 0
    | some t =>
      if d.beforeLead k t then d.jRequest [.takeEnd k t.ticket 5 0 0] (.takeCancel k t.ticket via)
      else d.answer via 2 0x11 0

def execTakeCancel (w : Writer) (s : State) :=
  s.onDev fun d => d.takeGo w fun d => d.cancelRequest d.reqKey d.reqFrame w.cls.code w.port .page

/-- A cancelled take leaves the pending takes; its result is CANCELLED. -/
def Dev.cancelDurable (d : Dev) (k ticket : Nat) (via : Via) : Dev :=
  let d1 := (d.dst k).pend.foldl (fun a t =>
    if t.ticket = ticket ∧ t.cls = 1 then a.hieResult ⟨ticket, 5, 0, 0, d.dstPlane k, t.slipped⟩ else a) d
  let d2 := (d1.updDst k fun x => { x with pend := x.pend.filter fun t => t.ticket != ticket }).fsRefresh
  match via with
  | .page => d2.reqDone 5 0 0
  | _ => d2

/-! ### Holds (R353, R354) -/

/-- Rank of a class for R350 and R353: automatic protection, MANAGER, HOST, FIRMWARE, best first. -/
def classRank (cls : Nat) : Nat := if cls = 3 then 0 else if cls = 1 then 1 else if cls = 0 then 2 else 3

/-- The frame of a salvo that holds a destination. -/
def Dev.salvoFrame (d : Dev) (k : Nat) : Option Nat := ((d.dst k).pend.find? fun t => t.salvo.isSome).map PendTake.f

/-- The hold of a destination, one that waits for a salvo included (R354). -/
def Dev.heldBy (d : Dev) (k : Nat) : Option Hold :=
  match (d.dst k).hold with
  | some o => some o
  | none => (d.dst k).deferred.map Prod.fst

/-- Setting a hold: `none` when allowed, else the reason (R354). -/
def Dev.holdCheck (d : Dev) (k : Nat) (h : Hold) : Option Nat :=
  if d.sealing then some 0x10
  else if k ≥ 2240 ∨ !d.dstEnabled k ∨ d.groupMember k then some 0x02
  else match d.heldBy k with
    | none => none
    | some o => if o.cls = h.cls ∧ o.port = h.port then none else some 0x13

/-- Releasing a hold of a kind: `none` when allowed, else the reason. FORCE_RELEASE is kind 3: it releases a LOCK from
host port 0 alone, and acts as UNPROTECT on a PROTECT (R353, R354). While Temper seals, no state change is accepted (R606). -/
def Dev.releaseCheck (d : Dev) (k kind cls port : Nat) : Option Nat :=
  if d.sealing then some 0x10
  else match d.heldBy k with
    | none => some 0x12
    | some o =>
      let own := o.cls == cls && o.port == port
      let entitled :=
        if o.kind = 1 then (kind = 1 ∨ kind = 3) ∧ (own = true ∨ classRank cls ≤ classRank o.cls)
        else (kind = 2 ∧ own = true) ∨ (kind = 3 ∧ cls = 0 ∧ port = 0)
      if entitled then none else some 0x13

/-- A hold or release request. A hold on a destination that a salvo holds waits for the salvo's frame and ends ACCEPTED;
one that takes effect at once ends APPLIED (R354). -/
def Dev.holdRequest (d : Dev) (k kind cls port : Nat) (via : Via) : Dev :=
  let h : Hold := ⟨kind, cls, port⟩
  match d.holdCheck k h with
  | some reason => d.answer via 2 reason 0
  | none => d.jRequest [.hold k (some h)] (.hold k (some h) (d.salvoFrame k) via)

def Dev.releaseRequest (d : Dev) (k kind cls port : Nat) (via : Via) : Dev :=
  match d.releaseCheck k kind cls port with
  | some reason => d.answer via 2 reason 0
  | none => d.jRequest [.hold k none] (.hold k none none via)

def execLock (w : Writer) (s : State) :=
  s.onDev fun d => d.takeGo w fun d => d.holdRequest d.reqKey 2 w.cls.code w.port .page

def execUnlock (w : Writer) (s : State) :=
  s.onDev fun d => d.takeGo w fun d => d.releaseRequest d.reqKey 2 w.cls.code w.port .page

def execProtect (w : Writer) (s : State) :=
  s.onDev fun d => d.takeGo w fun d => d.holdRequest d.reqKey 1 w.cls.code w.port .page

def execUnprotect (w : Writer) (s : State) :=
  s.onDev fun d => d.takeGo w fun d => d.releaseRequest d.reqKey 1 w.cls.code w.port .page

def execForceRelease (w : Writer) (s : State) :=
  s.onDev fun d => d.takeGo w fun d => d.releaseRequest d.reqKey 3 w.cls.code w.port .page

/-- The compositor binding that set a FIRMWARE PROTECT is dropped when a requester of a higher class releases it: the
binding's enable clears and UNBOUND is set (R483). -/
def Dev.dropBinding (d : Dev) (k : Nat) : Dev :=
  (List.range 16).foldl (fun a n =>
    let b := a.rd (Reg.FIL_OUT_BIND n + 0x800)
    let hit0 := a.filEnabled n && bit b 15 && bits b 10 0 == k
    let hit1 := a.filEnabled n && bit b 31 && bits b 26 16 == k
    let a1 := if hit0 then (a.setFlag (Reg.FIL_OUT_BIND n + 0x800) 15 false).setFlag (Reg.FIL_OUT_BIND n) 15 false else a
    let a2 := if hit1 then (a1.setFlag (Reg.FIL_OUT_BIND n + 0x800) 31 false).setFlag (Reg.FIL_OUT_BIND n) 31 false else a1
    if hit0 || hit1 then a2.raise (Reg.pageFIL n) 3 k else a2) d

/-- A hold or release is durable. -/
def Dev.holdDurable (d : Dev) (k : Nat) (h : Option Hold) (after : Option Nat) (via : Via) : Dev :=
  let old := (d.dst k).hold
  match h, after with
  | some h, some f =>
    -- a salvo that has gone meanwhile no longer delays the hold
    if (d.salvoFrame k).isSome then (d.updDst k fun x => { x with deferred := some (h, f) }).answer via 1 0 0
    else (d.updDst k fun x => { x with hold := some h, deferred := none }).answer via 3 0 0
  | some h, none => (d.updDst k fun x => { x with hold := some h, deferred := none }).answer via 3 0 0
  | none, _ =>
    let d1 := d.updDst k fun x => { x with hold := none, deferred := none }
    let d2 := if old = some ⟨1, 2, 0⟩ then d1.dropBinding k else d1
    d2.answer via 3 0 0

/-- A deferred hold takes effect after the salvo's frame, or at once when the salvo has gone (R354). -/
def Dev.holdDeferred (d : Dev) (k : Nat) : Dev :=
  match (d.dst k).deferred with
  | none => d
  | some (h, f) =>
    if (d.salvoFrame k).isNone ∨ f < (d.coordNow (d.dstPlane k)).f then
      d.updDst k fun x => { x with hold := some h, deferred := none }
    else d

def execHoldDeferredApply (r : DestRef) (s : State) := s.onDev fun d => d.holdDeferred r.key

/-! ### The lead limit and the switch line (R349, R350) -/

/-- Does take a rank before take b (R350)? The lock holder first, then the class, then the port. -/
def takeBefore (hold : Option Hold) (a b : PendTake) : Bool :=
  let key := fun (t : PendTake) =>
    (if hold.any (fun h => h.kind == 2 && h.cls == t.cls && h.port == t.port) then 0 else 1, classRank t.cls, t.port)
  let ka := key a
  let kb := key b
  decide (ka.1 < kb.1) || (ka.1 == kb.1 && (decide (ka.2.1 < kb.2.1) || (ka.2.1 == kb.2.1 && decide (ka.2.2 < kb.2.2))))

/-- A member of a hierarchy salvo whose SALVO_COMMIT is not held takes no part in a decision (R436). Such a salvo's ticket is
kept apart from the device's own by adding 2³². -/
def Dev.uncommitted (d : Dev) (t : PendTake) : Bool :=
  d.hie.held.any fun h => t.salvo == some (h.head.ticket + 2 ^ 32) && !h.committed

/-- The best of some takes. -/
def bestTake (hold : Option Hold) (l : List PendTake) : Option PendTake :=
  l.foldl (fun a t => match a with
    | none => some t
    | some b => if takeBefore hold t b then some t else a) none

/-- The take of R337 for a removed source passes holds. -/
def passesHolds (t : PendTake) : Bool := t.cls == 2 && t.port == 0 && t.src.isNone

/-- Reason with which the hold on a destination refuses a take at the lead limit (R349). -/
def holdRefuses (hold : Option Hold) (t : PendTake) : Option Nat :=
  if passesHolds t || t.salvo.isSome then none
  else if heldByOther hold 2 t.cls t.port then some 0x03
  else if heldByOther hold 1 t.cls t.port && t.cls != 3 then some 0x04
  else none

/-- Ranking of the undecided takes for one read frame: holds refuse, the best remaining take wins, the others end PREEMPTED,
each with an event that gives its class and port (R349, R350). -/
def Dev.rankFrame (d : Dev) (k f : Nat) : Dev :=
  let x := d.dst k
  let due := x.pend.filter fun t => d.readFrame k t == f && !t.won && !d.uncommitted t
  let refused := due.filterMap fun t => (holdRefuses x.hold t).map fun r => (t, r)
  let left := due.filter fun t => (holdRefuses x.hold t).isNone
  let d1 := refused.foldl (fun a p => a.endTake k p.1 2 p.2 0) d
  match bestTake x.hold left with
  | none => d1.updDst k fun x => { x with pend := x.pend.filter fun t => !due.contains t }
  | some w =>
    let losers := left.filter fun t => t != w
    let d2 := losers.foldl (fun a t =>
      (a.endTake k t 4 0 0).dstSticky k 1 t.cls t.port) d1
    let won : PendTake := { w with won := true }
    let keep := fun (t : PendTake) => if t = w then [won] else if due.contains t then [] else [t]
    (d2.updDst k fun x => { x with pend := x.pend.flatMap keep }).jAppend [.take k won]

/-- Insert into a rising list without repeats. -/
def insertUp (n : Nat) : List Nat → List Nat
  | [] => [n]
  | a :: t => if n < a then n :: a :: t else if n = a then a :: t else a :: insertUp n t

/-- The read frames up to f of undecided takes, rising: frame f itself, and frames whose lead limit the device did not
see (a step of time, R83; SLEEP or DEEP, R663). -/
def Dev.dueFrames (d : Dev) (k f : Nat) : List Nat :=
  ((d.dst k).pend.filter fun t => !t.won && !d.uncommitted t && decide (d.readFrame k t ≤ f)).foldl (fun a t => insertUp (d.readFrame k t) a) []

/-- The lead limit of read frame f (R349). A standby does not rank (R638),
except from the trigger of a takeover on (R649). -/
def Dev.leadLimit (d : Dev) (k f : Nat) : Dev :=
  if d.following || !d.dstEnabled k || !d.dataRuns then d
  else (d.dueFrames k f).foldl (fun a g => a.rankFrame k g) d

def execLeadLimit (r : DestRef) (f : Nat) (s : State) := s.onDev fun d => d.leadLimit r.key f

/-- Is a source valid for protection (R355)? -/
def Dev.srcValid (d : Dev) (n : Option Nat) : Bool := ((n.bind d.src).map Source.valid).getD false

/-- A take of automatic protection for the next read frame (R355), unless a salvo holds the destination then. -/
def Dev.protectTake (d : Dev) (k f n : Nat) : Dev :=
  let out := f + 1 + d.depthOf k (some n)
  if (d.dst k).pend.any (fun t => t.salvo.isSome && t.f == out) then d
  else
    let t : PendTake := ⟨d.anvil.nextTicket, 3, 0, some n, out, false, none, false, none⟩
    (d.nextTicket.jAppend [.take k t]).updDst k fun x => { x with pend := addPend x.pend t }

/-- Record a flap in the window; at FLAP_MAX flaps the destination latches (R356). -/
def Dev.countFlap (d : Dev) (k f : Nat) : Dev :=
  let win := d.live (Reg.TAKE_DST_FLAPWIN k) 15 0
  let mx := d.live (Reg.TAKE_DST_PROT k) 19 16
  let flaps := f :: (d.dst k).flaps.filter fun g => decide (f < g + win)
  let latch := mx ≠ 0 ∧ mx ≤ flaps.length
  let d1 := d.updDst k fun x => { x with flaps := flaps, latched := x.latched || decide latch }
  if latch then d1.dstSticky k 3 0 0 else d1

/-- Flaps that have left the sliding window by frame f (R356). -/
def Dev.pruneFlaps (d : Dev) (k f : Nat) : Dev :=
  if k ≥ 2048 ∨ (d.dst k).flaps = [] then d
  else d.updDst k fun x => { x with flaps := x.flaps.filter fun g => decide (f < g + d.live (Reg.TAKE_DST_FLAPWIN k) 15 0) }

/-- protection_step of R355 at the switch line of frame f. -/
def Dev.protectionStep (d : Dev) (k f : Nat) : Dev :=
  let x := d.dst k
  let backup := d.live (Reg.TAKE_DST_BACKUP k) 9 0
  let holdoff := d.live (Reg.TAKE_DST_PROT k) 9 0
  if k ≥ 2048 ∨ !d.liveFlag (Reg.TAKE_DST_BACKUP k) 15 ∨ x.hold.any (fun h => h.kind == 2) then d
  else match x.src, x.primary with
    | some src, some prim =>
      if src = prim then
        let d1 :=
          if d.srcValid (some prim) then d.updDst k fun x => { x with bad := 0 }
          else (if x.bad = 0 then d.countFlap k f else d).updDst k fun x => { x with bad := x.bad + 1 }
        if (d1.dst k).bad ≥ holdoff ∨ (d1.dst k).latched then
          if d1.srcValid (some backup) then d1.protectTake k f backup else d1.dstSticky k 4 0 0
        else d1
      else if src = backup ∧ d.liveFlag (Reg.TAKE_DST_BACKUP k) 16 ∧ !x.latched then
        let d1 := d.updDst k fun x => { x with good := if d.srcValid (some prim) then x.good + 1 else 0 }
        if (d1.dst k).good ≥ holdoff then d1.protectTake k f prim else d1
      else d
    | _, _ => d

/-- The indices of a destination: one, or the four of a group (R333). -/
def Dev.dstKeys (d : Dev) (k : Nat) : List Nat := if d.dstGroupSize k = 4 then [k, k + 1, k + 2, k + 3] else [k]

/-- The output of a destination changes to its new source at the switch line of frame f: its ANC hold (R351), and the
frame whose next line carries no embedded audio (R244). -/
def Dev.showNew (d : Dev) (k f : Nat) : Dev :=
  let hold := decide (k < 2048) && d.liveFlag (Reg.TAKE_DST_CFG k) 13
  let frames := d.live (Reg.TAKE_DST_SWLINE k) 23 16
  (d.dstKeys k).foldl (fun a j => a.updDst j fun x => { x with
    switchedF := some f
    ancHold := if hold then some (x.ancFrame, if frames = 0 then none else some frames) else none }) d

/-- The output changes of a destination that have come by frame f. -/
def Dev.cutsDue (d : Dev) (k f : Nat) : Dev :=
  if (d.dst k).cuts.any fun c => decide (c ≤ f) then
    (d.updDst k fun x => { x with cuts := x.cuts.filter fun c => decide (f < c) }).showNew k f
  else d

/-- A store leaves the path at the switch line of the frame it was to leave in: its D unread frames count as drops (R460). -/
def Dev.storeLeaves (d : Dev) (k f : Nat) : Dev :=
  match d.store k with
  | none => d
  | some x =>
    if x.leaves.any (fun g => decide (g ≤ f)) then
      ((d.bumpBy (Reg.FS_DST_CNT k) 31 16 x.depth).setStore k none).raiseEntry (Reg.pageFSDST k) (k % 16) 2 x.depth
    else d

/-- The store of a destination after a take that started reading `n` at the switch line of frame f (R451, R455, R460): one
that nothing needs any more leaves D frames later; one that the new source needs is inserted, and shows the old source
until it has the new one, so that it never fills in front of the take. -/
def Dev.storeAfterTake (d : Dev) (k f : Nat) (old n : Option Nat) : Dev :=
  let need := d.depthNeeded k
  match d.store k with
  | some x =>
    if need = 0 then (if x.leaves.isSome then d else d.setStore k (some { x with leaves := some (f + x.depth) }))
    else if x.depth = need ∧ x.leaves = none then d else d.setStore k (some { x with depth := need, leaves := none })
  | none =>
    let dp := d.depthFor k n
    if dp = 0 then d else d.setStore k (some { Store.fresh dp with filling := false, pre := some (old, f + dp) })

/-- A destination starts reading another source at the switch line of frame f; its output changes D frames later (R345). -/
def Dev.readNew (d : Dev) (k f : Nat) (n : Option Nat) : Dev :=
  let old := (d.dst k).src
  let d1 := (d.dstKeys k).foldl (fun a j => a.updDst j fun x => { x with prev := [] }) (d.updDst k fun x => { x with src := n })
  let d2 := d1.storeAfterTake k f old n
  match d2.store k with
  | some x => if x.depth = 0 then d2.showNew k f else d2.updDst k fun y => { y with cuts := y.cuts ++ [f + x.depth] }
  | none => d2.showNew k f

/-- Active lines of a stream whose MODE counts field lines. -/
def lineTwice (field : Bool) (l : Nat) : Nat := if field then 2 * l else l

/-- Configure the placement-owned Swages of a destination for its current source (R472 to R474): those it
has, then the first usable free pages, shown in FS_DSTe_PLACE. -/
def Dev.placeSwages (d : Dev) (k : Nat) : Dev :=
  let need := ((d.dst k).src.bind (d.swagesFor k)).getD 0
  let bound := fun (a : Dev) (n : Nat) => a.swageUsable n && a.liveFlag (Reg.SWG_CFG n) 0 && a.live (Reg.SWG_BIND n) 10 0 == k &&
    !a.liveFlag (Reg.SWG_BIND n) 11
  let put := fun (a : Dev) (r v : Nat) => (a.wrNat r v).wrNat (r + 0x800) v
  -- release what the destination had
  let d1 := (List.range 32).foldl (fun a n => if bound a n then (put a (Reg.SWG_CFG n) 0).wrNat (Reg.SWG_STAT n) 0 else a) d
  let free := ((List.range 32).filter (bound d)) ++
    (List.range 32).filter fun n => d1.swageUsable n && !d1.liveFlag (Reg.SWG_CFG n) 0 && !bound d n
  let place0 := (d1.setFld (Reg.FS_DST_PLACE k) 2 1 0).setFld (Reg.FS_DST_PLACE k) 10 4 d1.position
  match (d1.dst k).src.bind (fun n => (d1.src n).bind Source.desc) with
  | none => place0.fsRefresh
  | some y =>
    let r := d1.dstRaster k
    let oi := rasterInter r
    let wO := rasterWidth r
    let lO := lineCount (rasterLines r) oi
    let lI := lineCount y.lines y.interlaced
    let filter := d1.live (Reg.FS_DST_CFG k) 5 4
    let conf := fun (a : Dev) (n mode w l w2 l2 stage2 from_ : Nat) =>
      let a1 := put a (Reg.SWG_CFG n) (1 + mode * 2 + filter * 8)
      let a2 := put a1 (Reg.SWG_BIND n) (k + stage2 * 4096 + from_ * 65536)
      let a3 := put a2 (Reg.SWG_IN_SIZE n) (w + l * 65536)
      let a4 := put a3 (Reg.SWG_OUT_SIZE n) (w2 + l2 * 65536)
      let a5 := a4.wrNat (Reg.SWG_STAT n) (3 + b2n (decide (l ≤ 2 * l2)) * 8)
      (a5.wrNat (Reg.SWG_LBUF n) (swageRows l l2 + swageHas w * 256)).wrNat (Reg.SWG_RATE n)
        (w * lineTwice (mode == 1 || mode == 2) l * rateMilli y.rate / 1000000000 % 1024 +
          w2 * lineTwice (mode == 1 || mode == 3) l2 * rateMilli y.rate / 1000000000 % 1024 * 65536)
    match need, free, placeScale d1.opPct (d1.chainOk k) y.rate y.width lI wO lO with
    | 1, n :: _, some _ =>
      ((conf place0 n (swageMode y.interlaced oi) y.width lI wO lO 0 0).setFld (Reg.FS_DST_PLACE k) 15 11 n).setFld
        (Reg.FS_DST_PLACE k) 2 1 1 |>.fsRefresh
    | 2, n :: m :: _, some (_, wM, lM) =>
      let a := conf place0 n (swageMode y.interlaced oi) y.width lI wM lM 0 0
      let b := conf a m (if oi then 1 else 0) wM lM wO lO 1 n
      (((b.setFld (Reg.FS_DST_PLACE k) 15 11 n).setFld (Reg.FS_DST_PLACE k) 20 16 m).setFld (Reg.FS_DST_PLACE k) 2 1 3).fsRefresh
    | _, _, _ => place0.fsRefresh

/-- A take that won applies at the switch line of read frame f (R349); one whose frame has passed applies late and slips
(R83, R607, R663). -/
def Dev.applyTake (d : Dev) (k f : Nat) (w : PendTake) : Dev :=
  let late := decide (d.readFrame k w < f)
  let out := if late then f + d.depthOf k w.src else w.f
  let a := d.updDst k fun x => { x with pend := x.pend.filter fun t => t != w }
  let b := a.readNew k f w.src
  let c := if w.cls ≠ 3 then
      b.updDst k fun x => { x with primary := w.src, bad := 0, good := 0, flaps := [], latched := false }
    else b
  let e := (c.endTake k { w with slipped := w.slipped || late } 3 0 out).placeSwages k
  if k < 2048 then
    let g := (e.wrNat (Reg.TAKE_DST_LAST_F_LO k) out).wrNat (Reg.TAKE_DST_LAST_F_HI k)
      (out / 2 ^ 32 % 65536 + w.cls % 4 * 65536 + w.port % 256 * 1048576)
    let h := (g.setFld (Reg.TAKE_DST_LAST_REASON k) 31 16 w.ticket).bump (Reg.TAKE_DST_SWITCHES k) 15 0
    let i := if w.cls = 3 then (h.bump (Reg.TAKE_DST_SWITCHES k) 31 16).dstSticky k 2 w.cls w.port else h
    (if late then i.dstSticky k 0 w.cls w.port else i).statusIrq (Reg.pageTAKEDST k) 16
  else
    let g := e.rawRange (k - 2048)
    if late then g.dstSticky k 0 w.cls w.port else g

/-- Order takes by read frame. -/
def Dev.insertTake (d : Dev) (k : Nat) (t : PendTake) : List PendTake → List PendTake
  | [] => [t]
  | u :: r => if d.readFrame k t < d.readFrame k u then t :: u :: r else u :: d.insertTake k t r

/-- A STATE entry of a RESYNC replaces source, backup, protection settings, hold and flap state (R430). -/
def Dev.resyncState (d : Dev) (k f : Nat) (e : RouteEntry) : Dev :=
  match e with
  | .state _ src onBackup backup protEn protRevert hold cls port flaps latched _ _ =>
    let put := fun (a : Dev) (v : Nat) => (a.wrNat (Reg.TAKE_DST_BACKUP k) v).wrNat (Reg.TAKE_DST_BACKUP k + 0x800) v
    let d1 := if k < 2048 then put d (backup % 1024 + b2n protEn * 32768 + b2n protRevert * 65536) else d
    let n := src.map Fin.val
    let d2 := if n = (d1.dst k).src then d1 else d1.readNew k f n
    (d2.updDst k fun x => { x with
      src := n
      primary := if onBackup then x.primary else n
      hold := if hold = 0 then none else some ⟨hold, cls, port⟩
      deferred := none
      bad := 0
      good := 0
      flaps := List.replicate flaps f
      latched := latched }).placeSwages k
  | _ => d

/-- STATE entries whose switch line has come. -/
def Dev.resyncDue (d : Dev) (k f : Nat) : Dev :=
  let due := d.hie.resync.filter fun x => x.1 == k && decide (x.2.1 ≤ f)
  if due = [] then d
  else
    let d1 : Dev := { d with hie := { d.hie with resync := d.hie.resync.filter fun x => !(x.1 == k && decide (x.2.1 ≤ f)) } }
    due.foldl (fun a x => a.resyncState k f x.2.2) d1

/-- The switch line of read frame f: STATE entries of a RESYNC apply (R430), a store that is to leave goes (R460), output
changes come due (R345), the take that won applies (R349), then the protection step runs (R355). -/
def Dev.switchLineStep (d : Dev) (k f : Nat) : Dev :=
  if !d.dstEnabled k || !d.dataRuns then d
  else
    let d1 := ((d.resyncDue k f).storeLeaves k f).cutsDue k f
    let winners := ((d1.dst k).pend.filter fun t => t.won && decide (d1.readFrame k t ≤ f)).foldl (fun a t => d1.insertTake k t a) []
    ((winners.foldl (fun a w => a.applyTake k f w) d1).pruneFlaps k f).protectionStep k f

/-- A salvo that has no member pending any more is over (R359). -/
def Dev.dropDoneSalvos (d : Dev) : Dev :=
  { d with anvil := { d.anvil with
    salvos := d.anvil.salvos.filter fun s => d.anvil.dsts.any fun p => p.2.pend.any fun t => t.salvo == some s.ticket } }

def execSwitchLine (r : DestRef) (f : Nat) (s : State) := s.onDev fun d => (d.switchLineStep r.key f).dropDoneSalvos.hrtRefresh

/-! ### Removal of a source (R337) -/

/-- A configured source is removed: pending takes that name it are refused NO_SOURCE, with the whole of a salvo that has
such a member (R360), and each destination reading it receives a FIRMWARE take to CLEAR. -/
def Dev.removeSrc (d : Dev) (n : Nat) : Dev :=
  let tickets := d.anvil.dsts.foldl (fun acc p =>
    acc ++ (if p.1 < 2048 then (p.2.pend.filter fun t => t.src == some n).filterMap PendTake.salvo else [])) []
  let hit := fun (k : Nat) (t : PendTake) =>
    (decide (k < 2048) && t.src == some n) || t.salvo.any fun s => tickets.contains s
  let d1 := d.anvil.dsts.foldl (fun a p =>
    let gone := p.2.pend.filter (hit p.1)
    let a1 := gone.foldl (fun b t => b.endTake p.1 t 2 0x01 0) a
    if gone = [] then a1 else a1.updDst p.1 fun x => { x with pend := x.pend.filter fun t => !hit p.1 t }) d
  let d2 := d1.anvil.dsts.foldl (fun a p =>
    if p.1 < 2048 ∧ p.2.src = some n then
      let t : PendTake := ⟨a.anvil.nextTicket, 2, 0, none, 0, false, none, false, none⟩
      (a.nextTicket.jAppend [.take p.1 t]).pendTake p.1 t none
    else a) d1
  (d2.setSrc n none).dropDoneSalvos

/-! ### Salvos (R357 to R362) -/

/-- One entry of a salvo list: destination key and source (R357). -/
def salvoEntry (l : List Byte) : Nat × Option Nat :=
  let a := natLE (l.take 2)
  let b := natLE ((l.drop 2).take 2)
  let dst := a % 2048
  (if a / 32768 % 2 = 1 then 2048 + dst else dst, if a / 16384 % 2 = 1 then none else some (b % 1024))

/-- The entries of a list in memory. -/
def Mem.salvoList (m : Mem) (dram : Bool) (addr count : Nat) : List (Nat × Option Nat) :=
  (List.range count).map fun i => salvoEntry (m.bytes dram (addr + 8 * i) 8)

/-- The frame in which a member applies (R360): F on the salvo's plane, else the first frame of its own plane that starts
at or after the start of frame F of the salvo's. -/
def Dev.memberFrame (d : Dev) (k tp f : Nat) : Nat :=
  let own := d.dstPlane k
  if own = tp then f
  else
    let t := d.instantOf ⟨tp, f, 1, 0⟩
    let g := (d.coordAt own t).f
    if t ≤ d.instantOf ⟨own, g, 1, 0⟩ then g else g + 1

/-- Latest time at which a salvo for frame f meets every member's lead limit (R361). -/
def Dev.salvoMeets (d : Dev) (tp f : Nat) (l : List (Nat × Option Nat)) : Bool :=
  l.all fun p =>
    let g := d.memberFrame p.1 tp f
    let dp := d.depthOf p.1 p.2
    decide (dp ≤ g) && decide (d.time ≤ d.leadInstant p.1 (g - dp))

/-- The first frame from f on, within `fuel` frames, whose lead limits are all met. -/
def Dev.salvoFirst (d : Dev) (tp : Nat) (l : List (Nat × Option Nat)) : Nat → Nat → Nat
  | 0, f => f
  | fuel + 1, f => if d.salvoMeets tp f l then f else d.salvoFirst tp l fuel (f + 1)

/-- The frame of a salvo and whether it slips: requested, or NOW from the present frame (R361). The deepest store delays
its destination by D frames, so D + 2 frames always suffice. -/
def Dev.salvoTarget (d : Dev) (tp : Nat) (f : Option Nat) (l : List (Nat × Option Nat)) : Nat × Bool :=
  let now := (d.coordNow tp).f
  match f with
  | none => (d.salvoFirst tp l 4096 now, false)
  | some f => if d.salvoMeets tp f l then (f, false) else (d.salvoFirst tp l 4096 (max f now), true)

/-- Two entries name one destination. -/
def hasDup : List Nat → Bool
  | [] => false
  | a :: t => t.contains a || hasDup t

/-- Index of the first entry that names a destination again. -/
def firstDup (seen : List Nat) (i : Nat) : List Nat → Option Nat
  | [] => none
  | a :: t => if seen.contains a then some i else firstDup (a :: seen) (i + 1) t

/-- Each member in turn as a take in its own frame, the members before it counted as pending: reason and index of the first
that fails. The plane of a member need not be the salvo's (R358, R360). -/
def Dev.memberChecks (tp f : Nat) (named : Bool) (cls port : Nat) : (d : Dev) → (i : Nat) → List (Nat × Option Nat) → Option (Nat × Nat)
  | _, _, [] => none
  | d, i, p :: rest =>
    let g := d.memberFrame p.1 tp f
    match d.takeCheckAt p.1 p.2 g false cls port with
    | some (r, _) => some (r, i)
    | none =>
      if named && d.tooFar (d.dstPlane p.1) g then some (0x0B, i)
      else if (d.dst p.1).pend.any fun t => t.f == g &&
          !takeBefore (d.dst p.1).hold ⟨0, cls, port, none, g, false, none, false, none⟩ t then some (0x0E, i)
      else Dev.memberChecks tp f named cls port (d.withPend p.1 ⟨0, cls, port, p.2, g, false, none, false, none⟩) (i + 1) rest

/-- The check of a salvo (R357, R358): reason and member index of the first failure. A salvo for a plane that is off has no
frame to apply in, and is refused BAD_VALUE. -/
def Dev.salvoCheck (d : Dev) (l : List (Nat × Option Nat)) (count : Nat) (f : Option Nat) (tp cls port : Nat) :
    Option (Nat × Nat) :=
  if !d.datapathOn || d.sealing then some (0x10, 0)
  else if count = 0 ∨ 4096 < count then some (0x0D, 0)
  else match firstDup [] 0 (l.map Prod.fst) with
    | some i => some (0x0F, i)
    | none =>
      if !d.planeOn tp then some (0x14, 0)
      else d.memberChecks tp (d.salvoTarget tp f l).1 f.isSome cls port 0 l

/-- Put an accepted salvo in force: its members become pending, the takes pending for their destinations and frame end
PREEMPTED, and a slip marks every member (R359, R361). -/
def Dev.salvoPend (d : Dev) (s : Salvo) (slipped : Bool) : Dev :=
  let d1 := s.members.foldl (fun a m =>
    let k := m.1
    let g := m.2.2
    let gone := (a.dst k).pend.filter fun t => t.f == g && t.salvo.isNone
    let a1 := gone.foldl (fun b t => (b.endTake k t 4 0 0).dstSticky k 1 t.cls t.port) a
    let t : PendTake := ⟨s.ticket, s.cls, s.port, m.2.1, g, slipped, some s.ticket, false, none⟩
    let a2 := a1.updDst k fun x => { x with pend := (x.pend.filter fun u => !gone.contains u) ++ [t] }
    if slipped then a2.dstSticky k 0 s.cls s.port else a2) d
  ({ d1 with anvil := { d1.anvil with salvos := d1.anvil.salvos ++ [s] } } : Dev).fsRefresh

/-- A salvo request of the TAKE_CMD page ends: result, reason and member index, BUSY clear, SALVO_DONE. -/
def Dev.salvoDone (d : Dev) (result reason idx : Nat) : Dev :=
  ((d.wrNat Reg.TAKE_SALVO_RESULT (result % 8 + reason % 256 * 256 + idx % 8192 * 65536)).setFlag
    Reg.TAKE_SALVO_GO 31 false).raise Reg.pageTAKECMD 1 0

/-- The frame of a salvo is settled against the lead limits as its records become durable (R361, R595). -/
def Dev.salvoSettle (d : Dev) (s : Salvo) (now : Bool) : Salvo × Bool :=
  let l := s.members.map fun m => (m.1, m.2.1)
  let target := d.salvoTarget s.tp (if now then none else some s.f) l
  ({ s with f := target.1, members := l.map fun p => (p.1, p.2, d.memberFrame p.1 s.tp target.1) }, target.2)

/-- An accepted salvo is durable. -/
def Dev.salvoDurable (d : Dev) (s : Salvo) (now : Bool) : Dev :=
  let r := d.salvoSettle s now
  ((d.salvoPend r.1 r.2).wrNat Reg.TAKE_SALVO_TICKET s.ticket).salvoDone 1 0 0

/-- A write of TAKE_SALVO_GO: gate, and STANDBY on a standby. -/
def Dev.salvoGo (d : Dev) (w : Writer) (v : Nat) (f : Dev → Dev) : Dev :=
  match d.gate Reg.pageTAKECMD 0x094 w with
  | .ignored => d
  | .violation => d.ownerViol Reg.pageTAKECMD 0x094 w
  | .standby => ((d.bump Reg.TWN_STBY_WR 31 0).raise Reg.pageTWN 9 0).salvoDone 2 0x16 0
  | .open_ => if d.flag Reg.TAKE_SALVO_GO 31 then d else f ((d.wrNat Reg.TAKE_SALVO_GO v).setFlag Reg.TAKE_SALVO_GO 31 true)

/-- Target frame of TAKE_SALVO_F; `none` for NOW. -/
def Dev.salvoF (d : Dev) : Option Nat :=
  if d.flag Reg.TAKE_SALVO_F_HI 24 then none
  else some (d.fld Reg.TAKE_SALVO_F_LO 31 0 + d.fld Reg.TAKE_SALVO_F_HI 15 0 * 2 ^ 32)

/-- A salvo request: the list is read and checked, then refused whole or journalled (R357, R358). -/
def Dev.salvoRequest (d : Dev) (m : Mem) (dram : Bool) (w : Writer) : Dev :=
  let count := d.fld Reg.TAKE_SALVO_COUNT 12 0
  let addr := d.rd64 Reg.TAKE_SALVO_ADDR_LO Reg.TAKE_SALVO_ADDR_HI
  let l := m.salvoList dram addr (if count ≤ 4096 then count else 0)
  let tp := d.fld Reg.TAKE_SALVO_F_HI 18 16
  match d.salvoCheck l count d.salvoF tp w.cls.code w.port with
  | some (reason, idx) => d.salvoDone 2 reason idx
  | none =>
    let s : Salvo := ⟨d.anvil.nextTicket, w.cls.code, w.port, tp, d.salvoF.getD 0, l.map fun p => (p.1, p.2, 0)⟩
    d.nextTicket.jRequest [.salvo s] (.salvo s d.salvoF.isNone)

def execSalvoRequest (dram : Bool) (cells : List Host.Cell) (w : Writer) (s : State) :=
  s.onDevHost cells fun m d => d.salvoGo w (1 + b2n dram * 2) fun d => d.salvoRequest m dram w

/-- End a salvo whole: its members leave the pending takes with a result. -/
def Dev.salvoEnd (d : Dev) (ticket result reason : Nat) : Dev :=
  let d1 := d.anvil.dsts.foldl (fun a p =>
    let gone := p.2.pend.filter fun t => t.salvo == some ticket
    if gone = [] then a
    else (gone.foldl (fun b t => b.endTake p.1 t result reason 0) a).updDst p.1 fun x =>
      { x with pend := x.pend.filter fun t => t.salvo != some ticket }) d
  let d2 : Dev := { d1 with anvil := { d1.anvil with salvos := d1.anvil.salvos.filter fun s => s.ticket != ticket } }
  -- holds that waited for it take effect at once (R354)
  d2.anvil.dsts.foldl (fun a p => if p.2.deferred.isSome then a.holdDeferred p.1 else a) d2

/-- Cancel a salvo by its ticket until its lead limit, the earliest of its members' (R361, R362). -/
def Dev.salvoCancelRequest (d : Dev) : Dev :=
  let ticket := (d.rd Reg.TAKE_SALVO_TICKET).toNat
  if d.sealing then d.salvoDone 2 0x10 0
  else match d.anvil.salvos.find? fun s => s.ticket == ticket with
    | none => d.salvoDone 2 0x12 0
    | some s =>
      if s.members.all fun m => (d.dst m.1).pend.any fun t => t.salvo == some ticket && d.beforeLead m.1 t then
        d.jRequest [.takeEnd 0 ticket 5 0 0] (.salvoCancel ticket)
      else d.salvoDone 2 0x11 0

def execSalvoCancel (w : Writer) (s : State) :=
  s.onDev fun d => d.salvoGo w 5 fun d => d.salvoCancelRequest

/-- A cancelled salvo is durable. -/
def Dev.salvoCancelDurable (d : Dev) (ticket : Nat) : Dev := (d.salvoEnd ticket 5 0).salvoDone 5 0 0

/-! ### Reading the Hearth (R336, R37, R38) -/

/-- Read the items of an ANC cell back into packets, a fragment with its CONT bit (R241). -/
def unpackAncGo : (fuel : Nat) → List Nat → List (AncPacket × Bool)
  | 0, _ => []
  | fuel + 1, a :: b :: t =>
    if a = 0 ∧ b = 0 then []
    else
      (⟨a % 8192, a / 8192 % 2 == 1, a / 16384 % 2 == 1, t.take (b % 512)⟩, decide (32768 ≤ a)) ::
        unpackAncGo fuel (t.drop (b % 512))
  | _, _ => []

/-- The 16-bit items of a payload. -/
def items16 : List Byte → List Nat
  | a :: b :: t => (a.toNat + b.toNat * 256) :: items16 t
  | _ => []

/-- Join fragments to the packet they continue. -/
def joinAnc (l : List (AncPacket × Bool)) : List AncPacket :=
  l.foldl (fun acc p =>
    if p.2 then
      match acc.getLast? with
      | some q => acc.dropLast ++ [{ q with words := q.words ++ p.1.words }]
      | none => acc
    else acc ++ [p.1]) []

/-- The ANC packets of some ANC cells of one line. -/
def ancOfCells (l : List Cell) : List AncPacket := joinAnc (l.flatMap fun c => unpackAncGo 128 (items16 c.payload))

/-- ANC packets a destination sends in line l of frame f, from those of its source (R351): in HOLD after a take, those of
the old source's last complete frame. A new frame moves the collection on. -/
def Dst.ancStep (x : Dst) (f l : Nat) (now : List AncPacket) : Dst :=
  let newFrame := f ≠ x.readF
  let y : Dst := if newFrame then
      { x with
        ancFrame := x.ancCur
        ancCur := []
        ancHold := match x.ancHold with
          | some (p, some n) => if n ≤ 1 then none else some (p, some (n - 1))
          | o => o }
    else x
  { y with
    ancCur := y.ancCur ++ now.map fun p => (l, p)
    anc := match y.ancHold with
      | some (p, _) => (p.filter fun q => q.1 == l).map Prod.snd
      | none => now }

/-- Missing cells of an active line: its own where present, else the same span of the line before, marked substituted
(R38). -/
def substLine (n : Nat) (have_ prev : List Cell) : List Cell :=
  (List.range n).filterMap fun i =>
    match have_.find? fun c => c.idx == i with
    | some c => some c
    | none => (prev.find? fun c => c.idx == i).map fun c => { c with subst := true }

/-- Does destination k carry black for source x whatever its cells are: the source is out of its window with no store
(R19), or returned in another format that nothing converts (R338)? The sticky bit says which. -/
def Dev.blackFor (d : Dev) (k n : Nat) : Option Nat :=
  if !d.inTimeFor k n ∧ (d.store k).isNone then some 5
  else if !d.sameFormat k n ∧ d.fld (Reg.FS_DST_PLACE k) 1 1 = 0 ∧
      (d.pinnedFor k).isNone then some 6
  else none

/-- Is destination k left without the Swage that would convert source n, though AUTO_CONV asks for one (R475)? -/
def Dev.noEngine (d : Dev) (k n : Nat) : Bool :=
  !d.sameFormat k n && d.autoConv k && decide (d.dstGroupSize k = 1) && d.fld (Reg.FS_DST_PLACE k) 1 1 == 0 && (d.pinnedFor k).isNone

/-- A frame synchroniser or converter that placement must insert for the current source (R19, R338): with AUTO_SYNC and
room, the store is there from now; with AUTO_CONV and room, the Swage. -/
def Dev.autoInsert (d : Dev) (k n : Nat) : Dev :=
  let d1 := if !d.inTimeFor k n ∧ (d.store k).isNone ∧ d.autoSync k ∧ (d.capacityDetail k).isNone then
      d.setStore k (some { Store.fresh (d.depthFor k (some n)) with filling := false, pre := some (some n, (d.dst k).readF + 1) })
    else d
  if !d1.sameFormat k n ∧ d1.autoConv k ∧ d1.dstGroupSize k = 1 ∧ d1.fld (Reg.FS_DST_PLACE k) 1 1 = 0 ∧
      (d1.capacityDetail k).isNone then d1.placeSwages k
  else d1

/-- Put a line into the store of a destination (R453, R454, R457): input frame f, the line's video and ANC cells; the
store keeps D + 2 frames. -/
def Store.write (x : Store) (now f l : Nat) (timed : Bool) (cells : List Cell) : Store :=
  let bad := cells.any fun c => c.typ == 0 && c.invalid
  match x.frames with
  | g :: t =>
    if g.f = f then { x with frames := { g with lines := g.lines ++ [(l, cells)], lost := g.lost || bad } :: t }
    else { x with
      frames := (⟨f, now, [(l, cells)], bad, timed⟩ :: x.frames).take (x.depth + 2)
      written := if x.filling then x.written + 1 else x.written }
  | [] => { x with frames := [⟨f, now, [(l, cells)], bad, timed⟩] }

/-- The line of a store's frame; a torn line comes from the frame that the output frame before read (R453). -/
def Store.line (x : Store) (f l : Nat) (torn : List Nat) : List Cell :=
  let want := if torn.contains l then x.before else some f
  (((want.bind fun w => x.frames.find? fun g => g.f == w).bind fun g => g.lines.find? fun p => p.1 == l).map Prod.snd).getD []

/-- ANC packets that a store sends in line l: none in a loss (R457). -/
def Store.anc (x : Store) (l : Nat) : List AncPacket :=
  match x.shown with
  | .frame f torn => if x.inLoss then [] else ancOfCells ((x.line f l torn).filter fun c => c.typ == 2)
  | _ => []

/-- Line l of frame f of a source as the Hearth holds it: video cells, missing ones substituted, its ANC cells, the count
of missing cells, and whether the line is invalid (R37, R38). -/
structure LineRead where
  out : List Cell
  anc : List Cell
  missing : Nat
  invalid : Bool

/-- Read line l of frame f of source n. -/
def Dev.readLine (d : Dev) (n f l : Nat) (active : Bool) (prev : List Cell) : LineRead :=
  match d.src n with
  | none => ⟨[], [], 0, true⟩
  | some s =>
    let have_ := s.cells.filter fun c => c.typ == 0 && c.frame == f && c.line == l
    let want := if active then (s.desc.map Desc.cells).getD 0 else 0
    let out := substLine want have_ prev
    ⟨out, s.cells.filter fun c => c.typ == 2 && c.frame == f && c.line == l, if s.everValid then want - have_.length else 0,
      out.any Cell.invalid || !s.everValid || decide (out.length < want)⟩

/-- The old source on the lines that a new store does not show yet: picture, audio mute and ANC (R345). -/
def Dev.preShown (d : Dev) (k f l : Nat) (active : Bool) (n : Option Nat) : Picture × Bool × List AncPacket :=
  match n with
  | none => (.black, true, [])
  | some n =>
    let r := d.readLine n f l active []
    let unfit := !d.inTimeFor k n || (!d.sameFormat k n && !d.autoConv k)
    (if unfit || (r.invalid && active) then .black else .cells r.out, unfit || !((d.src n).map Source.valid).getD false,
      ancOfCells r.anc)

/-- The read of output line l of frame f of destination k (R336): the cells of its source's line, missing cells
substituted and counted (R38), black for an invalid line (R37), for a source out of its window (R19) or in another
format (R338), and no picture at all without a source (R246). A destination with a store writes the line into it. -/
def Dev.hearthRead (d : Dev) (k f l : Nat) (active : Bool) : Dev :=
  if !d.dstEnabled k || !d.dataRuns then d
  else
    let n? := (d.dstSrc k).bind fun n => if (d.src n).isSome then some n else none
    let r := match n? with
      | some n => d.readLine n f l active (d.dst k).prev
      | none => ⟨[], [], 0, true⟩
    let d0 := if r.missing = 0 then d else ((d.bumpBy (Reg.TAKE_DST_MISSING k) 31 0 r.missing).dstSticky k 7 0 0)
    let bad := n?.bind (d0.blackFor k)
    let d1 := match n?, bad with
      | some n, some bitNo =>
        let e := ((d0.updDst k fun x => { x with readF := f }).dstSticky k bitNo 0 0).autoInsert k n
        if e.noEngine k n then e.raiseEntry (Reg.pageFSDST k) (k % 16) 7 0 else e
      | _, _ => d0
    match d1.store k with
    | some st =>
      let d2 := match n? with
        | some n => d1.setStore k (some (st.write d.time f l (d1.inTimeFor k n) (r.out ++ r.anc)))
        | none => d1
      let shown := match st.pre with
        | some (m, first) => if f < first then some (d2.preShown k f l active m) else none
        | none => none
      let anc := match shown with
        | some o => o.2.2
        | none => st.anc l
      d2.updDst k fun x => { x.ancStep f l anc with
        readF := f
        readL := l
        picture := (shown.map Prod.fst).getD x.picture
        muted := (shown.map fun o => o.2.1).getD x.muted
        prev := if active then r.out else x.prev }
    | none =>
      match n? with
      | none => d1.updDst k fun x => { x.ancStep f l [] with readF := f, readL := l, picture := .black, muted := true, anc := [], prev := [] }
      | some n =>
        let swage := match d1.pinnedFor k with
          | some p => some p
          | none => if d1.fld (Reg.FS_DST_PLACE k) 1 1 = 1 then some (d1.fld (Reg.FS_DST_PLACE k) 15 11) else none
        let d2 := match d1.swageMismatch k with
          | some p => d1.raise (Reg.pageSWG p) 1 k
          | none => d1
        d2.updDst k fun x => { x.ancStep f l (ancOfCells r.anc) with
          readF := f
          readL := l
          picture := if (d1.swageMismatch k).isSome then .field (d1.rd (Reg.FS_DST_FIELD k + 0x800))
            else if bad.isSome || (r.invalid && active) then .black
            else match swage with
              | some p => .scaled p r.out
              | none => .cells r.out
          muted := bad.isSome || !((d1.src n).map Source.valid).getD false
          prev := if active then r.out else x.prev }

def execHearthRead (k : Fin 2048) (f l : Nat) (active : Bool) (s : State) :=
  s.onDev fun d => (d.memberStore k.val).hearthRead k.val f l active

end Sys2Proof.Machine
end

