-- ==== Sys2Proof/Machine/FrameStore.lean ====
section
/-!
DEFINITION. Frame stores at work, what a destination's output line carries, and commits of FS_DST, FS_ENG and SWG pages
(spec/12_frame_sync_and_scaling.md, R446 to R479).
-/

namespace Sys2Proof.Machine

open Sys2Proof

/-! ### Output frames (R452 to R459) -/

/-- Has an input frame no cells at all, or an INVALID video cell (R457)? -/
def StoreFrame.isLost (g : StoreFrame) : Bool := g.lost || g.lines.all fun p => p.2.all fun c => c.typ != 0

/-- The input frame that output frame f reads (R452): F − D for an in-time source, else the newest whose line 1 arrived
(D − 1) frame periods before the start of frame F. The timing is that of the source in force at the frame's line 1
(R455). A member of a group reads the frame chosen for member 0 (R15). -/
def Dev.storeChoice (d : Dev) (k f : Nat) (x : Store) : Option StoreFrame :=
  let start := d.rasterInstant (d.dstPlane k) (d.dstTotal k) f 1
  let back := match ratePeriod (d.planeRate (d.dstPlane k)) with
    | some (num, den) => (x.depth - 1) * num * ticksPerSecond / den
    | none => 0
  let exact := x.frames.find? fun g => g.f + x.depth == f
  let timed := match exact with
    | some g => g.timed
    | none => ((d.dstSrc k).map fun n => d.inTimeFor k n).getD true
  if d.groupMember k then ((d.store (groupLead k)).bind Store.lastRead).bind fun g => x.frames.find? fun y => y.f == g
  else if timed then exact
  else x.frames.find? fun g => decide (g.arrived + back ≤ start)

/-- Entry sticky bit of an FS_DST page. -/
def Dev.fsSticky (d : Dev) (k n arg : Nat) : Dev := d.raiseEntry (Reg.pageFSDST k) (k % 16) n arg

/-- What the loss policy shows (R457): FIELD when nothing good has been built since FILLING or the hold has expired. -/
def Dev.lossShown (d : Dev) (k : Nat) (x : Store) : Shown × Bool :=
  match d.lossPolicy k with
  | 0 =>
    if x.filling then (.field, false)
    else if x.inLoss ∧ x.shown = .field then (.field, false)
    else match x.lastGood with
      | some g => (.frame g [], false)
      | none => (.field, false)
  | 1 => (.field, false)
  | _ =>
    let n := d.live (Reg.FS_DST_SURF k) 31 0
    if d.engines.resident.any fun r => r.num == n && r.ready then (.surface n, false) else (.field, true)

/-- Is a store yet to be given the frame that its first output is to show: nothing read so far, and the new source, which
is not in time, has none that arrived early enough (R345)? -/
def Dev.storeWaits (d : Dev) (k : Nat) (x : Store) (choice : Option StoreFrame) : Bool :=
  choice.isNone && x.lastRead.isNone && x.pre.isSome && ((d.dstSrc k).map fun n => !d.inTimeFor k n).getD false

/-- Output frame f of destination k's store. -/
def Dev.fsOutput (d : Dev) (k f : Nat) (torn : List Nat) : Dev :=
  match d.store k with
  | none => d
  | some x =>
    let choice := d.storeChoice k f x
    if !d.dstEnabled k || !d.dataRuns || x.pre.any (fun p => decide (f < p.2)) then d
    else if x.filling then
      let sh := d.lossShown k x
      let d1 := (d.setStore k (some { x with shown := sh.1 })).fsSticky k 6 f
      if sh.2 then d1.fsSticky k 5 f else d1
    else if d.storeWaits k x choice then d.setStore k (some { x with pre := x.pre.map fun p => (p.1, f + 1) })
    else
      let num := choice.map StoreFrame.f
      let again := match num, x.lastRead with
        | some g, some h => decide (g ≤ h)
        | _, _ => false
      let passed := match num, x.lastRead with
        | some g, some h => g - h - 1
        | _, _ => 0
      let d1 := if again then (d.bump (Reg.FS_DST_CNT k) 15 0).fsSticky k 1 f else d
      let d2 := if passed = 0 then d1 else (d1.bumpBy (Reg.FS_DST_CNT k) 31 16 passed).fsSticky k 2 passed
      let lost := match choice with
        | none => true
        | some g => g.isLost
      let x1 : Store := { x with before := x.lastRead, pre := none }
      let d3 :=
        -- a growth of D repeats the frame that was output last (R456)
        if again = true ∧ num ≠ x.lastRead then d2.setStore k (some x1)
        else if lost then
          let d3 := if again then d2 else d2.bump (Reg.FS_DST_LOST k) 31 0
          let d4 := if x.inLoss then d3 else d3.fsSticky k 0 f
          let sh := d4.lossShown k x1
          let d5 := d4.setStore k (some { x1 with
            lastRead := if num.isSome then num else x.lastRead
            inLoss := true
            held := x1.held + 1
            shown := sh.1 })
          if sh.2 then d5.fsSticky k 5 f else d5
        else
          let d3 := if torn = [] then d2 else (d2.bumpBy (Reg.FS_DST_TEAR k) 31 0 torn.length).fsSticky k 3 torn.length
          d3.setStore k (some { x1 with
            inLoss := false
            held := 0
            lastRead := num
            lastGood := num
            shown := .frame (num.getD 0) torn })
      match d3.swageMismatch k with
      | some n => (d3.raise (Reg.pageSWG n) 1 k).setStore k ((d3.store k).map fun y => { y with shown := .field })
      | none => d3

def execFsOutputFrame (k : Fin 2048) (f : Nat) (torn : List Nat) (s : State) := s.onDev fun d => d.fsOutput k.val f torn

/-- After HOLD_TIMEOUT held frames the output changes to FIELD (R457). -/
def Dev.holdExpired (d : Dev) (k : Nat) : Dev :=
  match d.store k with
  | none => d
  | some x =>
    let t := d.live (Reg.FS_DST_HOLD k) 15 0
    if x.inLoss ∧ d.lossPolicy k = 0 ∧ t ≠ 0 ∧ t ≤ x.held then
      (d.setStore k (some { x with shown := .field })).fsSticky k 4 x.held
    else d

def execHoldExpired (k : Fin 2048) (s : State) := s.onDev fun d => d.holdExpired k.val

/-- A FILLING store that has been given D frames starts RUNNING (R459). -/
def Dev.fsFilled (d : Dev) (k : Nat) : Dev :=
  match d.store k with
  | none => d
  | some x => if x.filling ∧ x.depth ≤ x.written then d.setStore k (some { x with filling := false }) else d

def execFsFilled (k : Fin 2048) (s : State) := s.onDev fun d => d.fsFilled k.val

/-! ### What an output line carries -/

/-- Picture, audio mute and ANC of output line l of destination k, through its store where it has one (R246, R454,
R457). -/
def Dev.outLine (d : Dev) (k l : Nat) : Picture × Bool × List AncPacket :=
  let x := d.dst k
  match d.store k with
  | none => (x.picture, x.muted, x.anc)
  | some st =>
    if st.pre.any fun p => decide (x.readF < p.2) then (x.picture, x.muted, x.anc)
    else
      let muted := (d.dstSrc k).isNone
      match st.shown with
      | .field => (.field (d.rd (Reg.FS_DST_FIELD k + 0x800)), muted, [])
      | .surface n => (.surface n, muted, [])
      | .frame f torn =>
        let video := (st.line f l torn).filter fun c => c.typ == 0
        let pic := if d.fld (Reg.FS_DST_PLACE k) 1 1 = 1 then Picture.scaled (d.fld (Reg.FS_DST_PLACE k) 15 11) video
          else .cells video
        (pic, muted, if st.inLoss then [] else x.anc)

/-! ### Commits -/

/-- Largest D at a rate: floor(10 s × frame rate) (R450). -/
def maxDepth (rate : Nat) : Nat := rateMilli rate / 100

/-- Checks of an FS_DST commit on entry k: `e` is the state after the commits due (R447, R450, R457, R793). -/
def fsDstCheck (e : Dev) (k : Nat) : Option (Nat × Nat) :=
  let off := (Reg.FS_DST_CFG k % 0x1000) / 4
  let mx := if e.dstEnabled k then maxDepth (e.planeRate (e.dstPlane k)) else 2047
  if e.lossPolicy k = 3 ∨ e.live (Reg.FS_DST_CFG k) 5 4 = 3 then some (0x01, off)
  else if e.fsDepth k = 0 ∨ mx < e.fsDepth k then some (0x01, off)
  else match e.capacityDetail k with
    | some 1 => none
    | some det => some (0x02, det)
    | none => none

/-- Effect of an applied FS_DST entry: the store is added (FILLING), changed in depth (R456), which its next outputs show as
repeats or drops, or removed (R460). Output changes still to come move with the depth. -/
def fsDstEffect (old d : Dev) (k : Nat) : Dev :=
  let dp := d.depthNeeded k
  let d1 := match d.store k with
    | none =>
      if d.storeEn k ∧ !old.storeEn k then d.setStore k (some (Store.fresh dp)) else d
    | some x =>
      if dp = 0 then
        let d1 := ((d.bumpBy (Reg.FS_DST_CNT k) 31 16 x.depth).setStore k none).fsSticky k 2 x.depth
        if (d.dst k).cuts = [] then d1
        else (d1.updDst k fun y => { y with cuts := [] }).showNew k (d.coordNow (d.dstPlane k)).f
      else if dp = x.depth then d
      else (d.setStore k (some { x with depth := dp })).updDst k fun y => { y with cuts := y.cuts.map fun c => c + dp - x.depth }
  (d1.placeSwages k).fsRefresh

/-- Checks of an FS_ENG commit (R463). -/
def fsEngCheck (e : Dev) : Option (Nat × Nat) :=
  if 131072 < e.live Reg.FS_POOL_SIZE 17 0 then some (0x01, 0x044 / 4)
  else if e.live Reg.FS_POOL_SIZE 17 0 < e.poolUsed then some (0x02, 3)
  else none

/-- Sizes of a Swage's live configuration: input width and lines, output width and lines. -/
def Dev.swgSize (d : Dev) (n : Nat) : Nat × Nat × Nat × Nat :=
  (d.live (Reg.SWG_IN_SIZE n) 12 0, d.live (Reg.SWG_IN_SIZE n) 28 16, d.live (Reg.SWG_OUT_SIZE n) 12 0,
    d.live (Reg.SWG_OUT_SIZE n) 28 16)

/-- Rate code at which a Swage runs: that of the plane of the destination it serves. -/
def Dev.swgRate (d : Dev) (n : Nat) : Nat := d.planeRate (d.dstPlane (d.live (Reg.SWG_BIND n) 10 0))

/-- Active lines of a stream of `l` counted lines: both fields where MODE counts field lines, on the input in MODE 1 and 2, on
the output in MODE 1 and 3 (R466, R478). -/
def Dev.swgLinesIn (d : Dev) (n l : Nat) : Nat :=
  if d.live (Reg.SWG_CFG n) 2 1 = 1 ∨ d.live (Reg.SWG_CFG n) 2 1 = 2 then 2 * l else l
def Dev.swgLinesOut (d : Dev) (n l : Nat) : Nat :=
  if d.live (Reg.SWG_CFG n) 2 1 = 1 ∨ d.live (Reg.SWG_CFG n) 2 1 = 3 then 2 * l else l

/-- Checks of an SWG commit (R464, R467 to R469). -/
def swgCheck (e : Dev) (n : Nat) : Option (Nat × Nat) :=
  if !e.liveFlag (Reg.SWG_CFG n) 0 then (if e.live (Reg.SWG_CFG n) 4 3 = 3 then some (0x01, 0x040 / 4) else none)
  else
    let (w, l, w2, l2) := e.swgSize n
    if e.live (Reg.SWG_CFG n) 4 3 = 3 then some (0x01, 0x040 / 4)
    else if (w2 = 0 ∨ l2 = 0 ∨ 4096 < w2) ∧ 0 < w ∧ 0 < l ∧ w ≤ 4096 then some (0x01, 0x04C / 4)
    else if !swageRange w l w2 l2 then some (0x01, 0x048 / 4)
    else if !pixelsOk e.opPct w (e.swgLinesIn n l) (e.swgRate n) || !pixelsOk e.opPct w2 (e.swgLinesOut n l2) (e.swgRate n) then
      some (0x02, 2)
    else if swageHas w < swageRows l l2 then some (0x04, n * 8)
    else none

/-- The trace a checked Swage configuration leaves: SWG_LBUF, and LBUF_SHORT when it is refused for rows (R469). -/
def swgChecked (d e : Dev) (n : Nat) : Dev :=
  let (w, l, _, l2) := e.swgSize n
  if l2 = 0 then d
  else
    let d1 := d.wrNat (Reg.SWG_LBUF n) (swageRows l l2 % 128 + swageHas w * 256)
    if swgCheck e n = some (0x04, n * 8) then d1.raise (Reg.pageSWG n) 0 (swageRows l l2) else d1

/-- Effect of an applied SWG commit: status and pixel rates (R478). -/
def swgEffect (d : Dev) (n : Nat) : Dev :=
  let (w, l, w2, l2) := d.swgSize n
  let on := d.liveFlag (Reg.SWG_CFG n) 0
  let pinned := d.swagePinned n
  let d1 := d.wrNat (Reg.SWG_STAT n) (b2n on + b2n (!pinned && on) * 2 + b2n pinned * 4 + b2n (decide (l ≤ 2 * l2)) * 8)
  (d1.wrNat (Reg.SWG_RATE n) (if on then w * d.swgLinesIn n l * rateMilli (d.swgRate n) / 1000000000 % 1024 +
    w2 * d.swgLinesOut n l2 * rateMilli (d.swgRate n) / 1000000000 % 1024 * 65536 else 0)).fsRefresh

end Sys2Proof.Machine
end

