-- ==== Sys2Proof/Machine/Sdi.lean ====
section
/-!
DEFINITION. SDI inputs and outputs (spec/06_sdi_and_billets.md, R214 to R249): the decoder's states, its cells, stream
groups, embedded audio and ANC, and the encoder's lines.
-/

namespace Sys2Proof.Machine

open Sys2Proof

/-! ### Inputs and groups -/

/-- SDI input beyond its registers. -/
def Dev.sdi (d : Dev) (n : Nat) : SdiIn := Sparse.get (fun _ => SdiIn.reset) d.sdiIn n

/-- Replace it. -/
def Dev.setSdi (d : Dev) (n : Nat) (x : SdiIn) : Dev := { d with sdiIn := Sparse.set (fun _ => SdiIn.reset) d.sdiIn n x }

/-- Change it. -/
def Dev.updSdi (d : Dev) (n : Nat) (f : SdiIn → SdiIn) : Dev := d.setSdi n (f (d.sdi n))

/-- Page of an SDI lane. -/
def sdiPage (n : Nat) : Nat := 0x200 + n

/-- Input states (R248). -/
def sdiIdle : Nat := 0
def sdiLost : Nat := 1
def sdiSettling : Nat := 2
def sdiValid : Nat := 3
def sdiUnsupported : Nat := 4
def sdiWrongRate : Nat := 5

/-- STATE of an input. -/
def Dev.sdiState (d : Dev) (n : Nat) : Nat := d.fld (Reg.SDI_RX_STAT n) 2 0

/-- CLEAN of an input. -/
def Dev.sdiClean (d : Dev) (n : Nat) : Nat := d.fld (Reg.SDI_RX_STAT n) 5 4

/-- Is the SDI input configured: ROLE SDI and RX_EN (R227)? -/
def Dev.sdiWanted (d : Dev) (n : Nat) : Bool := decide (n < 192) && d.laneRole n == 1 && d.liveFlag (Reg.LN_CFG n) 13

/-- SRC of an input's stream. -/
def Dev.sdiSrc (d : Dev) (n : Nat) (second : Bool) : Option Nat := d.srcOf 0 n second

/-- Plane of an input. -/
def Dev.sdiTp (d : Dev) (n : Nat) : Nat := d.live (Reg.SDI_RX_CFG n) 2 0

/-- Member lanes of a receive group led by lane n, lead first. -/
def Dev.sdiMembersOf (d : Dev) (n : Nat) : List Nat :=
  [n, d.live (Reg.SDI_GROUP n) 7 0, d.live (Reg.SDI_GROUP n) 15 8, d.live (Reg.SDI_GROUP n) 23 16]

/-- Does lane n lead a receive group? -/
def Dev.sdiLeads (d : Dev) (n : Nat) : Bool := d.liveFlag (Reg.SDI_GROUP n) 24

/-- The lead of the receive group that lane n belongs to, and its member index; itself and 0 when in none. -/
def Dev.sdiGroupOf (d : Dev) (n : Nat) : Nat × Nat :=
  if d.sdiLeads n then (n, 0)
  else match (List.range 192).find? fun p => d.sdiLeads p && (d.sdiMembersOf p).contains n with
    | some p => (p, (d.sdiMembersOf p).idxOf n)
    | none => (n, 0)

/-- The lanes that are valid or invalid together with lane n. -/
def Dev.sdiMates (d : Dev) (n : Nat) : List Nat :=
  let p := (d.sdiGroupOf n).1
  if d.sdiLeads p then d.sdiMembersOf p else [n]

/-- Is lane n in a receive group? -/
def Dev.sdiGrouped (d : Dev) (n : Nat) : Bool := d.sdiLeads (d.sdiGroupOf n).1

/-- Are the cells of lane n valid in frame f: its input and every member of its group VALID, in order and in skew
(R229, R231, R232)? -/
def Dev.sdiGood (d : Dev) (n f : Nat) : Bool :=
  (d.sdiMates n).all fun m =>
    d.sdiState m == sdiValid && !(d.sdi m).orderBad && !(d.sdi m).skewBad && decide ((d.sdi m).validFrom ≤ f)

/-- Show an input: SDI_RX_SRC, SDI_RX_DESC and the validity of its streams; with a group, SDI_GROUP_STAT of its members
(R220, R230, R248). -/
def Dev.sdiShow1 (d : Dev) (n : Nat) : Dev :=
  let good := d.sdiGood n (d.sdi n).frame
  let a := d.sdiSrc n false
  let b := d.sdiSrc n true
  let upd := fun (e : Dev) (s : Option Nat) => match s with
    | some i => if (e.src i).any (fun x => x.valid != good) then e.updSrc i fun x => { x with valid := good } else e
    | none => e
  let d1 := upd (upd d a) b
  let d2 := d1.wrNat (Reg.SDI_RX_SRC n) (a.getD 0 + b2n (a.isSome && good) * 32768 + b.getD 0 % 1024 * 65536 +
    b2n (b.isSome && good) * 2147483648)
  let desc := (a.bind d2.src).bind Source.desc
  (List.range 8).foldl (fun e i => e.wrNat (Reg.SDI_RX_DESC n i) ((desc.map fun y => y.word i).getD 0)) d2

/-- Show SDI_GROUP_STAT of a lane of a group. -/
def Dev.sdiShowGroup (d : Dev) (n : Nat) : Dev :=
  if !d.sdiGrouped n then d.wrNat (Reg.SDI_GROUP_STAT n) 0
  else
    let g := d.sdiGroupOf n
    let ms := d.sdiMembersOf g.1
    let mask := fun (p : Nat → Bool) => (List.range 4).foldl (fun a i => a + b2n (p (ms.getD i 0)) * 2 ^ i) 0
    let skew := ms.foldl (fun a m => max a (d.sdi m).skew) 0
    d.wrNat (Reg.SDI_GROUP_STAT n) (mask (fun m => d.rxState m == rxLocked) + mask (fun m => d.sdiState m == sdiValid) * 16 +
      b2n (g.1 ≠ n) * 256 + min skew 65535 * 65536)

/-- Show a lane and its group. -/
def Dev.sdiShow (d : Dev) (n : Nat) : Dev :=
  (d.sdiMates n).foldl (fun a m => (a.sdiShow1 m).sdiShowGroup m) d

/-- Move an input to a state, with the interrupt of R249. -/
def Dev.setSdiState (d : Dev) (n st clean : Nat) : Dev :=
  let d1 := (d.setFld (Reg.SDI_RX_STAT n) 2 0 st).setFld (Reg.SDI_RX_STAT n) 5 4 clean
  let d2 := if d.sdiState n ≠ st then d1.statusIrq (sdiPage n) 8 else d1
  if (d.sdiState n == sdiValid) != (st == sdiValid) then d2.sdiShow n else d2

/-! ### Audio and ANC (R237 to R241) -/

/-- Is the packet one that the decoder consumes: ST 299-1 and ST 299-2 audio and control, ST 352, EDH (R240)? By data
identifier (notes/assumptions/15.md). -/
def ancConsumed (p : AncPacket) : Bool :=
  let did := p.words.getD 0 0 % 256
  let sdid := p.words.getD 1 0 % 256
  (decide (0xE0 ≤ did) && decide (did ≤ 0xE7)) || (decide (0xA0 ≤ did) && decide (did ≤ 0xA7)) ||
    (did == 0x41 && sdid == 1) || did == 0xF4

/-- Audio groups an interface can carry into the matrix: 8 on 6G and 12G, 4 on HD and 3G, none on SD (R237, R238). -/
def sdiAudioGroups (r : Raster) (sampling : Nat) : Nat :=
  match (rasterCode r.width r.lines r.interlaced r.psf).bind fun c => sdiIface c r.rate sampling with
  | some 1 => 0
  | some 4 => 8
  | some 5 => 8
  | some _ => 4
  | none => 0

/-- Highest audio group of the last frame of an input. -/
def SdiIn.topGroup (x : SdiIn) : Nat := x.groups.foldl max 0

/-- Does member index i of a group contribute audio (R237)? A lane outside a group always does. -/
def Dev.sdiContributes (d : Dev) (n i : Nat) : Bool :=
  !d.sdiGrouped n || d.live (Reg.SDI_RX_AUD (d.sdiGroupOf n).1) 19 16 / 2 ^ i % 2 == 1

/-- First stream channel of a lane's audio within its stream: the channels of the contributing members before it. -/
def Dev.sdiAudioBase (d : Dev) (n : Nat) : Nat :=
  let g := d.sdiGroupOf n
  if !d.sdiGrouped n then 0
  else ((List.range g.2).filter fun i => d.sdiContributes n i).foldl
    (fun a i => a + 4 * (d.sdi ((d.sdiMembersOf g.1).getD i 0)).topGroup) 0

/-- Channel count of the descriptor of lane n (R237): in a group every contributing member counts, on member 0. -/
def Dev.sdiAudioCount (d : Dev) (n : Nat) : Nat :=
  if !d.sdiGrouped n then 4 * (d.sdi n).topGroup
  else if (d.sdiGroupOf n).1 ≠ n then 0
  else min 128 (((List.range 4).filter fun i => d.sdiContributes n i).foldl
    (fun a i => a + 4 * (d.sdi ((d.sdiMembersOf n).getD i 0)).topGroup) 0)

/-- Words waiting on a stream channel. -/
def SdiIn.words (x : SdiIn) (c : Nat) : List Nat := ((x.chans.find? fun y => y.chan == c).map AudioChan.words).getD []

/-- Append words to a stream channel. -/
def SdiIn.addWords (x : SdiIn) (c : Nat) (w : List Nat) : SdiIn :=
  { x with chans := (x.chans.filter fun y => y.chan != c) ++ [⟨c, x.words c ++ w⟩] }

/-- Close one cell of a block: `p` periods of its 16 channels, channels without words silent. -/
def Dev.sdiAudioCell (d : Dev) (n b p : Nat) : Dev :=
  let x := d.sdi n
  match x.stamps.find? fun s => s.1 == b, d.sdiSrc n false with
  | some (_, f, l, ph), some src =>
    let periods := (List.range p).map fun i => (List.range 16).map fun c => (x.words (16 * b + c)).getD i 0
    let x1 : SdiIn := { x with
      chans := (x.chans.map fun y => if y.chan / 16 = b then { y with words := y.words.drop p } else y).filter
        fun y => !y.words.isEmpty
      stamps := x.stamps.filter fun s => s.1 != b }
    (d.setSdi n x1).writeCell src (Cell.at 1 (d.sdiTp n) f l 0 (packAudio b ph periods))
  | _, _ => d

/-- Close the cells of a block that are full: every channel with words or expected has three periods (R239). -/
def Dev.sdiCloseBlock (d : Dev) (n b f l ph : Nat) (expected : List Nat) : Nat → Dev
  | 0 => d
  | fuel + 1 =>
    let x := d.sdi n
    let live := (x.chans.filter fun y => y.chan / 16 = b).map AudioChan.chan ++ expected.filter fun c => c / 16 = b
    if live ≠ [] ∧ live.all (fun c => decide (3 ≤ (x.words c).length)) = true then
      let d1 := d.sdiAudioCell n b 3
      -- what is left starts the next cell on this line
      let left := (d1.sdi n).chans.any fun y => y.chan / 16 = b
      (if left then d1.updSdi n fun x => { x with stamps := x.stamps ++ [(b, f, l, ph + 3)] } else d1).sdiCloseBlock n b f l ph
        expected fuel
    else d

/-- Blocks with words. -/
def SdiIn.blocks (x : SdiIn) : List Nat := (x.chans.map fun y => y.chan / 16).eraseDups

/-- Close what is left of a stream's cells: the input is lost or its descriptor changes (R239). -/
def Dev.sdiFlushAudio (d : Dev) (n : Nat) : Dev :=
  (d.sdi n).blocks.foldl (fun a b =>
    let p := ((a.sdi n).chans.filter fun y => y.chan / 16 = b).foldl (fun m y => max m y.words.length) 0
    if p = 0 then a else a.sdiAudioCell n b (min p 3)) d

/-- The audio groups of one line: matrix inputs receive the samples, and the stream's cells fill (R237 to R239). -/
def Dev.sdiAudio (d : Dev) (n f : Nat) (x : SdiLine) (good : Bool) : Dev :=
  let g := d.sdiGroupOf n
  let lead := g.1
  let top := sdiAudioGroups x.raster (d.sdi n).sampling
  let heard := x.audio.filter fun y => decide (1 ≤ y.group) && decide (y.group ≤ top)
  let bad := heard.filter fun y => !y.sync48
  let d1 := d.updSdi n fun s => { s with
    groupsNow := heard.foldl (fun a y => insertUp y.group a) s.groupsNow
    unsup := bad.foldl (fun a y => insertUp y.group a) s.unsup }
  let d2 := if bad = [] then d1 else d1.raise (sdiPage n) 7 (bad.map AudioGroup.group |>.getD 0 0)
  if !good || !d2.sdiContributes n g.2 then d2
  else
    let base := d2.sdiAudioBase n
    let first := d2.live (Reg.SDI_RX_AUD lead) 12 0
    let d3 := (heard.filter fun y => y.sync48).foldl (fun a y =>
      (List.range 4).foldl (fun a c =>
        let ch := base + 4 * (y.group - 1) + c
        let ws := y.periods.map fun p => p.getD c 0 % 2 ^ 28
        if ch ≥ 128 then a
        else
          let a1 := ws.foldl (fun e w => e.pushInput (first + ch) w) a
          let b := ch / 16
          a1.updSdi lead fun s => { s.addWords ch ws with
            stamps := if s.stamps.any (fun t => t.1 == b) || ws.isEmpty then s.stamps else s.stamps ++ [(b, f, x.line, y.phase)] }) a) d2
    let expected := (d3.sdiMates n).flatMap fun m =>
      let i := (d3.sdiGroupOf m).2
      if d3.sdiContributes m i then
        ((d3.sdi m).groups.filter fun q => !(d3.sdi m).unsup.contains q).flatMap fun q =>
          (List.range 4).map fun c => d3.sdiAudioBase m + 4 * (q - 1) + c
      else []
    (List.range 8).foldl (fun a b =>
      a.sdiCloseBlock lead b f x.line ((heard.head?.map AudioGroup.phase).getD 0) expected 16) d3

/-! ### Descriptors (R217, R225, R230, R234) -/

/-- The descriptor that an input's present format, ST 352 and audio give it. -/
def Dev.sdiDesc (d : Dev) (n : Nat) (second : Bool) : Option Desc :=
  let x := d.sdi n
  x.fmt.map fun r =>
    let cfg := Reg.SDI_RX_CFG n
    let g := d.sdiGroupOf n
    let grouped := d.sdiGrouped n
    let own := (d.sdiSrc n second).getD 0
    { width := r.width
      lines := r.lines
      total := r.total
      spl := r.spl
      rate := r.rate
      interlaced := r.interlaced
      psf := r.psf
      tp := d.sdiTp n
      sampling := x.sampling
      color := (x.pid.map PayloadId.color).getD (d.live cfg 11 8)
      xfer := (x.pid.map PayloadId.xfer).getD (d.live cfg 13 12)
      fullRange := (x.pid.map PayloadId.fullRange).getD (d.liveFlag cfg 14)
      audio := if second then 0 else d.sdiAudioCount n
      anc := x.anc && !second
      groupSize := if grouped then 4 else 1
      member := if grouped then g.2 else 0
      square := if grouped then (x.pid.map PayloadId.square).getD (d.liveFlag (Reg.SDI_GROUP g.1) 25) else false
      kind := 0
      lead := if grouped then (d.sdiSrc g.1 false).getD 0 else own
      cells := cellsPerLine r.width x.sampling
      seq := 0 }

/-- The same descriptor with the colour codes of another: a change of those alone waits for DESC_CHG (R225). -/
def Desc.withColor (y o : Desc) : Desc := { y with color := o.color, xfer := o.xfer, fullRange := o.fullRange }

/-- Bring the descriptor of a stream up to date before line l of frame f; `colour` says whether its colour codes may
change too (R225). -/
def Dev.sdiRedesc (d : Dev) (n f l : Nat) (second colour : Bool) : Dev :=
  match d.sdiSrc n second, d.sdiDesc n second with
  | some i, some y =>
    match (d.src i).bind Source.desc with
    | none => d.setDesc i y f l
    | some o =>
      let y1 := { (if colour then y else y.withColor o) with seq := o.seq }
      if y1 = o then d else (if second then d else d.sdiFlushAudio n).setDesc i y1 f l
  | _, _ => d

/-! ### States (R216 to R227) -/

/-- Is a format one that R215 lists for an input: level B carries two HD formats (R215, R220)? -/
def sdiSupported (x : SdiIn) : Bool :=
  match x.fmt with
  | none => false
  | some r =>
    match (rasterCode r.width r.lines r.interlaced r.psf).bind fun c => sdiIface c r.rate x.sampling with
    | none => false
    | some i => !x.levelB || i == 2

/-- Candidate 6 is measured from this lane (R56). -/
def Dev.sdiIsRef (d : Dev) (n : Nat) : Bool := d.live (Reg.REF_CAND_CTRL 6) 31 24 == n && d.rankOf 6 != 15

/-- Frame rate that candidate 6 expects (R62). -/
def Dev.sdiRefRate (d : Dev) : Nat := d.live (Reg.REF_CAND_CTRL 6) 7 4

/-- The format changes (R224): cells invalid, SETTLING, counted, FMT_CHG; candidate 6 falls (R61, R787). -/
def Dev.sdiFmtChange (d : Dev) (n : Nat) (r : Raster) (levelB : Bool) (sampling : Nat) : Dev :=
  let d1 := d.updSdi n fun x => { x with fmt := some r, levelB := levelB, sampling := sampling, frameOk := false, redesc := false }
  let d2 := (d1.setSdiState n sdiSettling 0).bump (Reg.SDI_RX_EVT_CNT n) 31 16
  let d3 := d2.raise (sdiPage n) 1 (d2.fld (Reg.SDI_RX_EVT_CNT n) 31 16)
  if d3.sdiIsRef n then d3.disqualify 6 (if r.rate = d3.sdiRefRate then 8 else 6) else d3

/-- The ST 352 of a line: shown, checked against the measured structure and the group's order; a change of colour alone
waits for the next frame start (R216, R217, R225, R229). -/
def Dev.sdiPid (d : Dev) (n : Nat) (p : PayloadId) (r : Raster) : Dev :=
  let x := d.sdi n
  let was := x.pid
  let g := d.sdiGroupOf n
  let bad := d.sdiGrouped n && p.link != g.2 + 1
  let colour := match was with
    | some o => decide (o.color ≠ p.color ∨ o.xfer ≠ p.xfer ∨ o.fullRange ≠ p.fullRange)
    | none => false
  let d1 := (d.setSdi n { x with
    pid := some p
    pidFrame := true
    orderBad := bad
    redesc := x.redesc || colour }).wrNat (Reg.SDI_RX_PID n) p.raw
  let d2 := if p.raster ≠ r then d1.raise (sdiPage n) 4 p.raw else d1
  let arg := g.2 + p.link % 256 * 256
  let d3 := if !bad then d2 else if x.orderBad then d2.raise (sdiPage g.1) 9 arg else d2.raiseLog (sdiPage g.1) 9 arg
  if bad != x.orderBad then d3.sdiShow n else d3

/-- Sampling in force after a line's ST 352 (R217). -/
def Dev.sdiSampling (d : Dev) (n : Nat) (x : SdiLine) : Nat :=
  match x.pid, (d.sdi n).pid with
  | some p, _ => p.sampling
  | none, some p => p.sampling
  | none, none => d.live (Reg.SDI_RX_CFG n) 18 16

/-- Has the ST 352 of a line changed to another raster or rate than the one before it named (R224)? -/
def pidMoved (was : Option PayloadId) (now : Option PayloadId) : Bool :=
  match was, now with
  | some a, some b => decide (a.raster ≠ b.raster)
  | _, _ => false

/-- Write the video and ANC cells of one line: valid, or invalid when the line is not clean or the input is not valid;
nothing before the input has been VALID (R13, R222, R227). -/
def Dev.sdiCells (d : Dev) (n : Nat) (x : SdiLine) (good : Bool) : Dev :=
  let one := fun (e : Dev) (second : Bool) (video : List Nat) (anc : List AncPacket) =>
    match e.sdiSrc n second with
    | none => e
    | some i =>
      match e.src i with
      | none => e
      | some s =>
        match s.desc with
        | none => e
        | some y =>
          if !s.everValid then e
          else
            -- the control cell of line 1 (R327)
            let e1 := if x.line = 1 then e.writeCell i (descCell y x.frame 1) else e
            let e2 := if x.active then
                e1.writeCells i (lineCells 0 y.tp x.frame x.line x.first x.final (!good) (packLine y.sampling video y.cells))
              else e1
            let carried := anc.filter fun p => !ancConsumed p
            if good && !carried.isEmpty then
              e2.writeCells i (lineCells 2 y.tp x.frame x.line false false false (packAnc carried))
            else e2
  let d1 := one d false x.video x.anc
  if d1.liveFlag (Reg.SDI_RX_CFG n) 4 && x.levelB then one d1 true x.video2 [] else d1

/-- The frame of an input ends (R221, R223, R226, R219). -/
def Dev.sdiFrameEnd (d : Dev) (n : Nat) (clean : Bool) : Dev :=
  let d0 := (d.setFlag (Reg.SDI_RX_STAT n) 8 (d.sdi n).pidFrame).updSdi n fun x => { x with
    pid := if x.pidFrame then x.pid else none
    pidFrame := false
    groups := x.groupsNow
    groupsNow := []
    unsup := []
    anc := x.ancNow
    ancNow := false }
  let d1 := if d0.flag (Reg.SDI_RX_STAT n) 8 then d0 else d0.wrNat (Reg.SDI_RX_PID n) 0
  let x := d1.sdi n
  if !clean then (if d1.sdiState n = sdiValid then d1 else d1.setFld (Reg.SDI_RX_STAT n) 5 4 0)
  else if !sdiSupported x then (d1.setSdiState n sdiUnsupported 0).raise (sdiPage n) 6 0
  else if (x.fmt.map Raster.rate).getD 0 ≠ d1.planeRate (d1.sdiTp n) then
    (d1.setSdiState n sdiWrongRate 0).raise (sdiPage n) 5 ((x.fmt.map Raster.rate).getD 0)
  else if d1.sdiState n = sdiValid then d1
  else d1.setSdiState n sdiSettling (min 2 (d1.sdiClean n + 1))

/-- Line 1 of a received frame: its offset from the plane (R17), its skew in a group (R231), the phase of candidate 6, and
a descriptor that changed in more than its colours. -/
def Dev.sdiFrameStart (d : Dev) (n : Nat) (x : SdiLine) : Dev :=
  let upd := fun (e : Dev) (s : Option Nat) => match s with
    | some i => e.updSrc i fun y => { y with ofs := x.offset }
    | none => e
  let d1 := upd (upd d (d.sdiSrc n false)) (d.sdiSrc n true)
  let was := (d1.sdi n).skewBad
  let g := d1.sdiGroupOf n
  let bad := d1.sdiGrouped n && decide (x.raster.spl < x.skew.natAbs)
  let d2 := if d1.sdiGrouped n then d1.updSdi n fun s => { s with skew := x.skew.natAbs, skewBad := bad } else d1
  let d3 := if bad then d2.raise (sdiPage g.1) 8 x.skew.natAbs else d2
  let d4 := if was != bad then d3.sdiShow n else if d3.sdiGrouped n then d3.sdiShowGroup g.1 else d3
  let d5 := if d4.sdiState n = sdiValid then
      (d4.sdiRedesc n x.frame 1 false false).sdiRedesc n x.frame 1 true false else d4
  if d5.sdiIsRef n then
    let d6 := d5.measurePhase 6 (x.offset * 4)
    if d6.candAllowed 6 && !d6.qualified 6 && x.raster.rate == d6.sdiRefRate then d6.startQualifying 6 else d6
  else d5

/-- A line received by the decoder of lane n (R216 to R226, R232, R237 to R241). -/
def Dev.sdiLineRx (d : Dev) (n : Nat) (x : SdiLine) : Dev :=
  if !d.sdiWanted n then d
  else
    let s := d.sdi n
    if !x.trs then
      -- a line without valid TRS: invalid cells (R222)
      let d1 := d.setSdi n { s with noTrs := s.noTrs + 1, frameOk := false, line := x.line, frame := x.frame }
      let d2 := if x.last then d1.sdiFrameEnd n false else d1
      d2.sdiCells n x false
    else
      let sampling := d.sdiSampling n x
      let first := s.fmt.isNone
      let changed := match s.fmt with
        | none => false
        | some r => decide (r ≠ x.raster) || pidMoved s.pid x.pid || (x.pid.isSome && decide (sampling ≠ s.sampling))
      let d1 := match x.pid with
        | some p => d.sdiPid n p x.raster
        | none => d
      let d2 := (if first then
          (d1.updSdi n fun s => { s with fmt := some x.raster, levelB := x.levelB, sampling := sampling }).setSdiState n sdiSettling 0
        else if changed then d1.sdiFmtChange n x.raster x.levelB sampling
        else if d1.sdiState n = sdiLost then d1.setSdiState n sdiSettling 0
        else d1).setFlag (Reg.SDI_RX_STAT n) 9 x.levelB
      let sd := match (rasterCode x.raster.width x.raster.lines x.raster.interlaced x.raster.psf) with
        | some c => decide (c ≤ 1)
        | none => false
      -- CRC and line numbers, on HD and faster (R218)
      let d3 := if !sd && !x.crcOk then (d2.bump (Reg.SDI_RX_CRC_ERR n) 31 0).raise (sdiPage n) 2 0 else d2
      let d4 := if !sd && x.numbered != x.line then (d3.bump (Reg.SDI_RX_LN_ERR n) 31 0).raise (sdiPage n) 3 x.line else d3
      let follows := s.line ≠ 0 && (if s.line = x.raster.total then x.numbered == 1 else x.numbered == s.line + 1)
      let clean := follows && !changed
      let d5 := d4.updSdi n fun y => { y with
        noTrs := 0
        line := x.numbered
        frame := x.frame
        frameOk := if x.line = 1 then clean else y.frameOk && clean
        ancNow := y.ancNow || x.anc.any fun p => !ancConsumed p }
      let d6 := if x.line = 1 then d5.sdiFrameStart n x else d5
      let good := clean && d6.sdiGood n x.frame
      let d7 := (d6.sdiCells n x good).sdiAudio n x.frame x good
      if x.last then d7.sdiFrameEnd n ((d7.sdi n).frameOk && decide (x.line = x.raster.total)) else d7

def execSdiLineRx (n : Fin 192) (x : SdiLine) (s : State) := s.onDev fun d => d.sdiLineRx n.val x

/-- The input is lost (R222), or returns to IDLE when it has never been VALID (R227); the lane aligns again (R195). -/
def Dev.sdiLose (d : Dev) (n : Nat) : Dev :=
  if !d.sdiWanted n ∨ (d.sdi n).noTrs < 3 ∨ d.sdiState n = sdiLost ∨ d.sdiState n = sdiIdle then d
  else
    let ever := ((d.sdiSrc n false).bind d.src).any Source.everValid
    let d0 := if d.rxState n = rxLocked then d.alignLost n else d
    if !ever then
      (d0.updSdi n fun x => { x with fmt := none, line := 0, frameOk := false }).setSdiState n sdiIdle 0
    else
      let d1 := (d0.sdiFlushAudio (d0.sdiGroupOf n).1).updSdi n fun x => { x with line := 0, frameOk := false }
      let d2 := (d1.setSdiState n sdiLost 0).bump (Reg.SDI_RX_EVT_CNT n) 15 0
      let d3 := d2.raiseLog (sdiPage n) 0 (d2.fld (Reg.SDI_RX_EVT_CNT n) 15 0)
      if d3.sdiIsRef n then d3.disqualify 6 8 else d3

def execSdiLost (n : Fin 192) (s : State) := s.onDev fun d => d.sdiLose n.val

/-- Two consecutive clean frames of a supported format (R223): VALID with the new descriptor, and in a group every member
from the same frame (R232). -/
def Dev.sdiBecomeValid (d : Dev) (n : Nat) : Dev :=
  if !d.sdiWanted n ∨ d.sdiState n ≠ sdiSettling ∨ d.sdiClean n < 2 then d
  else
    let d1 := d.setSdiState n sdiValid 2
    let mates := d1.sdiMates n
    let from_ := mates.foldl (fun a m => max a ((d1.sdi m).frame + 1)) 0
    let up := fun (e : Dev) (m : Nat) => e.updSdi m fun x => { x with validFrom := from_, redesc := false }
    let d2 := if mates.all fun m => d1.sdiState m == sdiValid then mates.foldl up d1 else up d1 n
    let ever := fun (e : Dev) (s : Option Nat) => match s with
      | some i => e.updSrc i fun x => { x with everValid := true }
      | none => e
    let d3 := (d2.sdiRedesc n (d2.sdi n).validFrom 1 false true).sdiRedesc n (d2.sdi n).validFrom 1 true true
    let d4 := ever (ever d3 (d3.sdiSrc n false)) (d3.sdiSrc n true)
    d4.sdiShow n

def execSdiValid (n : Fin 192) (s : State) := s.onDev fun d => d.sdiBecomeValid n.val

/-- The descriptor takes new colour codes at the frame start (R225). -/
def Dev.sdiDescChange (d : Dev) (n : Nat) : Dev :=
  if d.sdiWanted n ∧ d.sdiState n = sdiValid ∧ (d.sdi n).redesc = true then
    let f := (d.sdi n).frame + 1
    let d1 := d.updSdi n fun x => { x with redesc := false }
    (((d1.sdiRedesc n f 1 false true).sdiRedesc n f 1 true true).sdiShow n).raise (sdiPage n) 11 0
  else d

def execDescChg (n : Fin 192) (s : State) := s.onDev fun d => d.sdiDescChange n.val

/-! ### Outputs (R242 to R246) -/

/-- Is an SDI output enabled; the destination it sends? -/
def Dev.sdiTxOn (d : Dev) (n : Nat) : Bool := d.laneRole n == 1 && d.liveFlag (Reg.SDI_TX_CFG n) 12
def Dev.sdiTxDst (d : Dev) (n : Nat) : Nat := d.live (Reg.SDI_TX_CFG n) 10 0

/-- Interface of an output (R215, R242): QUAD sends 2160p50 to 60 as a quad 3G group. -/
def Dev.sdiTxIface (d : Dev) (n : Nat) : Option Nat :=
  let k := d.sdiTxDst n
  match sdiIface (d.dstRaster k) (d.planeRate (d.dstPlane k)) (d.dstSampling k) with
  | some 5 => if d.liveFlag (Reg.SDI_TX_CFG n) 13 ∧ d.dstRaster k = 6 then some 3 else some 5
  | o => o

/-- Is a ÷ 1.001 lane rate needed (R215)? A 270 Mb/s output never needs it (R183). -/
def Dev.sdiTxFrac (d : Dev) (n : Nat) : Bool :=
  isFractional (d.planeRate (d.dstPlane (d.sdiTxDst n))) && d.sdiTxIface n != some 1

/-- Most audio channels an interface embeds (R244). -/
def audioLimit (iface : Nat) : Nat := if iface = 1 then 0 else if iface ≤ 3 then 16 else 32

/-- Does the encoder send a signal: its destination is enabled, its transmitter on, its power state passes billets (R43,
R246)? -/
def Dev.sdiSends (d : Dev) (n : Nat) : Bool :=
  d.sdiTxOn n && d.dstEnabled (d.sdiTxDst n) && d.dataRuns && d.flag (Reg.LN_STAT n) 4 && (d.sdiTxIface n).isSome

/-- SDI_TX_STAT (R248). -/
def Dev.sdiTxShow (d : Dev) (n : Nat) : Dev :=
  let en := d.sdiTxOn n && d.dstEnabled (d.sdiTxDst n)
  d.wrNat (Reg.SDI_TX_STAT n) ((if en then (d.sdiTxIface n).getD 0 else 0) + b2n (d.sdiSends n) * 16 +
    b2n (en && d.liveFlag (Reg.SDI_TX_GROUP n) 24) * 32 + b2n (en && d.sdiTxFrac n) * 64)

/-- SDI output beyond its registers. -/
def Dev.sdiTx (d : Dev) (n : Nat) : SdiOut := Sparse.get (fun _ => SdiOut.reset) d.sdiOut n

/-- Samples of matrix output o that came after sample count `since`, oldest first (at most the 512 kept); 0 for samples at
which the output carried none. -/
def Dev.audioSince (d : Dev) (o since : Nat) : List Nat :=
  let n := min 512 (d.audioCount - since)
  let l := (Sparse.get (fun _ => []) d.audioOut o).take n
  List.replicate (n - l.length) 0 ++ l.reverse

/-- Place ANC packets on a line (R245): HANC packets and, on a vertical blanking line, VANC packets and those that wait,
at the earliest free positions, in order. What is sent, and what waits on. -/
def placeAnc (x : TxLine) (moved : Bool) (own waiting : List AncPacket) : List AncPacket × List AncPacket :=
  let fit := fun (acc : List AncPacket × List AncPacket × Nat × Nat) (p : AncPacket) =>
    let need := p.words.length + 3
    if p.vanc then
      if need ≤ acc.2.2.2 then (acc.1 ++ [p], acc.2.1, acc.2.2.1, acc.2.2.2 - need)
      else (acc.1, acc.2.1 ++ [p], acc.2.2.1, acc.2.2.2)
    else if need ≤ acc.2.2.1 then (acc.1 ++ [p], acc.2.1, acc.2.2.1 - need, acc.2.2.2)
    else (acc.1, acc.2.1 ++ [p], acc.2.2.1, acc.2.2.2)
  let room := if x.vertical then x.vancRoom else 0
  let a := own.foldl fit ([], [], x.hancRoom, room)
  -- packets moved from elsewhere: VANC only, on a vertical blanking line at or after ANC_LINE
  let b := waiting.foldl (fun acc p =>
    if moved && x.vertical && p.vanc && decide (p.words.length + 3 ≤ acc.2.2.2) then
      (acc.1 ++ [p], acc.2.1, acc.2.2.1, acc.2.2.2 - (p.words.length + 3))
    else (acc.1, acc.2.1 ++ [p], acc.2.2.1, acc.2.2.2)) (a.1, [], a.2.2.1, a.2.2.2)
  (b.1, b.2.1 ++ a.2.1)

/-- Line l of frame f of output n (R242 to R246): the destination's picture, its ANC, and the matrix samples that have
fallen due, with no audio in the line after the switch line of a switch and none on SD. -/
def Dev.sdiTxLine (d : Dev) (n f l : Nat) (x : TxLine) : Dev :=
  let d0 := d.sdiTxShow n
  if !d0.sdiSends n then d0
  else
    let k := d0.sdiTxDst n
    let t := d0.sdiTx n
    let o := d0.outLine k l
    let iface := (d0.sdiTxIface n).getD 0
    let count := min (d0.live (Reg.SDI_TX_AUD n) 21 16) (audioLimit iface)
    let base := d0.live (Reg.SDI_TX_AUD n) 12 0
    let quiet := (d0.dst k).switchedF == some f && l == d0.switchLine k + 1
    let audio := if quiet then [] else (List.range count).map fun c => d0.audioSince (base + c) t.sent
    let anc := placeAnc x (decide (d0.live (Reg.SDI_TX_CFG n) 21 16 ≤ l)) o.2.2 t.waiting
    let dropped := if x.lastVertical then anc.2.length else 0
    let t1 : SdiOut := ⟨if quiet then t.sent else d0.audioCount, if x.lastVertical then [] else anc.2⟩
    let d1 : Dev := { d0 with sdiOut := Sparse.set (fun _ => SdiOut.reset) d0.sdiOut n t1 }
    let d2 := if dropped = 0 then d1 else (d1.bumpBy (Reg.SDI_TX_ANC_DROP n) 15 0 dropped).raise (sdiPage n) 10 dropped
    let d3 := d2.send (.sdiLine n 0 f l o.1 audio anc.1)
    if d3.liveFlag (Reg.SDI_TX_GROUP n) 24 then
      [1, 2, 3].foldl (fun a m =>
        a.send (.sdiLine (a.live (Reg.SDI_TX_GROUP n) (8 * m - 1) (8 * (m - 1))) m f l
          (if a.dstGroupSize k = 4 then (a.outLine (k + m) l).1 else o.1) [] [])) d3
    else d3

def execSdiTxLine (n : Fin 192) (f l : Nat) (x : TxLine) (s : State) := s.onDev fun d => d.sdiTxLine n.val f l x

/-! ### Commits (R219, R220, R227, R228, R233, R247) -/

/-- Is a receive group led by lane n well made (R228)? -/
def Dev.sdiGroupOk (e : Dev) (n : Nat) : Bool :=
  let ms := e.sdiMembersOf n
  !e.sdiLeads n || (ms.all (fun m => decide (m < 192) && e.laneRole m == 1) && !hasDup ms &&
    ((List.range 192).all fun p => p == n || !e.sdiLeads p || (e.sdiMembersOf p).all fun m => !ms.contains m))

/-- Is a transmit group led by lane n well made (R233)? -/
def Dev.sdiTxGroupOk (e : Dev) (n : Nat) : Bool :=
  let ms := [e.live (Reg.SDI_TX_GROUP n) 7 0, e.live (Reg.SDI_TX_GROUP n) 15 8, e.live (Reg.SDI_TX_GROUP n) 23 16]
  !e.liveFlag (Reg.SDI_TX_GROUP n) 24 ||
    (ms.all fun m => decide (m < 192) && e.laneRole m == 1 && !e.liveFlag (Reg.SDI_TX_CFG m) 12) && !hasDup (n :: ms)

/-- The checks of R247 on output n: DETAIL of the first that fails. -/
def Dev.sdiOutCheck (e : Dev) (n : Nat) : Option Nat :=
  let en := e.liveFlag (Reg.SDI_TX_CFG n) 12
  let cnt := e.live (Reg.SDI_TX_AUD n) 21 16
  if !e.sdiGroupOk n || !e.sdiTxGroupOk n then some 0x13
  else if !en then none
  else if e.laneRole n ≠ 1 then some 0x13
  else if !e.dstEnabled (e.sdiTxDst n) then (if cnt % 4 ≠ 0 then some 0x14 else none)
  else match e.sdiTxIface n with
    | none => some 0x11
    | some i =>
      let cls := e.quadClass (quadOf n)
      if cls ≠ (if e.sdiTxFrac n then 2 else 1) then some 0x12
      else if cnt % 4 ≠ 0 ∨ audioLimit i < cnt then some 0x14
      else none

/-- The lanes whose SDI pages a commit on an LN page, an SDI page or a TAKE_DST page bears on. -/
def Dev.sdiConcerned (e : Dev) (page : Nat) : List Nat :=
  if 0x100 ≤ page ∧ page < 0x1C0 then
    lanesOfQuad ((page - 0x100) / 4) ++ (List.range 192).filter fun p =>
      (e.sdiLeads p && (e.sdiMembersOf p).any fun m => m / 4 == (page - 0x100) / 4) || e.liveFlag (Reg.SDI_TX_GROUP p) 24
  else if 0x200 ≤ page ∧ page < 0x2C0 then
    (page - 0x200) :: (List.range 192).filter fun p => e.sdiLeads p || e.liveFlag (Reg.SDI_TX_GROUP p) 24
  else if 0x600 ≤ page ∧ page < 0x680 then
    (List.range 192).filter fun p => e.liveFlag (Reg.SDI_TX_CFG p) 12 && e.sdiTxDst p / 16 == page - 0x600
  else []

/-- R247 for a commit on a page: REASON BLOCK and the DETAIL. -/
def sdiCommitCheck (e : Dev) (page : Nat) : Option (Nat × Nat) :=
  ((e.sdiConcerned page).findSome? e.sdiOutCheck).map fun x => (0x0A, x)

/-- Set up, keep or remove the sources of lane n after a commit on its LN or SDI page (R211, R220, R227). -/
def Dev.sdiSources (d : Dev) (n : Nat) : Dev :=
  let want := d.sdiWanted n
  let want2 := want && d.liveFlag (Reg.SDI_RX_CFG n) 4
  let tp := d.sdiTp n
  let rate := huntReserve (d.huntMask n)
  let d1 := match d.sdiSrc n false with
    | none => if want then (d.setSdi n SdiIn.reset).addSrc (Source.fresh 0 n false tp rate) else d
    | some i =>
      if want then d.updSrc i fun x => { x with tp := tp, rate := rate }
      else ((d.removeSrc i).setSdi n SdiIn.reset).wrNat (Reg.SDI_RX_STAT n) 0
  let d2 := match d1.sdiSrc n true with
    | none => if want2 then d1.addSrc (Source.fresh 0 n true tp 665350) else d1
    | some i => if want2 then d1.updSrc i fun x => { x with tp := tp } else d1.removeSrc i
  if want then d2
  else (((d2.wrNat (Reg.SDI_RX_PID n) 0).wrNat (Reg.SDI_RX_SRC n) 0).wrNat (Reg.SDI_GROUP_STAT n) 0)

/-- The group size, member index and lead of the sources of lane n follow SDI_GROUP (R228, R230). -/
def Dev.sdiGroupSources (d : Dev) (n : Nat) : Dev :=
  match d.sdiSrc n false with
  | none => d
  | some i =>
    let g := d.sdiGroupOf n
    if d.sdiGrouped n then
      d.updSrc i fun x => { x with groupSize := 4, member := g.2, lead := (d.sdiSrc g.1 false).getD i }
    else d.updSrc i fun x => { x with groupSize := 1, member := 0, lead := i }

/-- Effects of an applied SDI commit (R219, R228, R248). -/
def sdiCommitEffect (old d : Dev) (n : Nat) : Dev :=
  let d1 := d.sdiSources n
  let touched := (old.sdiMates n ++ d1.sdiMates n).eraseDups
  let d2 := touched.foldl (fun a m => a.sdiGroupSources m) d1
  let d3 := touched.foldl (fun a m => (a.sdiShow1 m).sdiShowGroup m) d2
  -- the plane of the input (R219)
  let moved := old.sdiTp n ≠ d3.sdiTp n
  let rate := ((d3.sdi n).fmt.map Raster.rate).getD 0
  let same := rate = d3.planeRate (d3.sdiTp n)
  let d4 := if moved ∧ d3.sdiWanted n then
      if d3.sdiState n = sdiWrongRate ∧ same then
        (d3.updSdi n fun x => { x with frameOk := false }).setSdiState n sdiSettling 0
      else if d3.sdiState n = sdiValid ∧ ¬ same then (d3.setSdiState n sdiWrongRate 0).raise (sdiPage n) 5 rate
      else d3
    else d3
  (d4.sdiTxShow n).hrtRefresh

/-- What an applied LN commit does to the SDI page of its lane (R211, R227). -/
def sdiLaneEffect (d : Dev) (n : Nat) : Dev :=
  if n < 192 then ((d.sdiSources n).sdiShow n).sdiTxShow n else d

end Sys2Proof.Machine
end

