-- ==== Sys2Proof/Machine/Mac.lean ====
section
/-!
DEFINITION. Ethernet MACs and host rings (spec/07_ethernet_mac.md, R250 to R287), and the end of a pause for held flow
packets (spec/08_media_flows.md, R313).
-/

namespace Sys2Proof.Machine

open Sys2Proof

/-! ### Instances -/

/-- Page of a MAC. -/
def macPage (m : Nat) : Nat := 0x300 + m

/-- MAC beyond its registers. -/
def Dev.macX (d : Dev) (m : Nat) : MacX := Sparse.get (fun _ => MacX.reset) d.media.macs m

/-- Replace it. -/
def Dev.setMacX (d : Dev) (m : Nat) (x : MacX) : Dev :=
  { d with media := { d.media with macs := Sparse.set (fun _ => MacX.reset) d.media.macs m x } }

/-- Host ring pair beyond its registers. -/
def Dev.ringX (d : Dev) (k : Nat) : RingX := Sparse.get (fun _ => RingX.reset) d.media.rings k

/-- Replace it. -/
def Dev.setRingX (d : Dev) (k : Nat) (x : RingX) : Dev :=
  { d with media := { d.media with rings := Sparse.set (fun _ => RingX.reset) d.media.rings k x } }

/-- Page of a host ring pair. -/
def ringPage (k : Nat) : Nat := 0x60 + k

/-- LINK and PAUSED. -/
def Dev.macLink (d : Dev) (m : Nat) : Bool := d.flag (Reg.MAC_STAT m) 0
def Dev.macPaused (d : Dev) (m : Nat) : Bool := d.flag (Reg.MAC_STAT m) 3

/-- Count one of the counters of R283. -/
def Dev.macCount (d : Dev) (m i : Nat) : Dev := d.bump (Reg.MAC_CNT m i) 31 0

/-- Count received or sent bytes: the low half shows at once, the high half when it is latched (R283). -/
def Dev.macBytes (d : Dev) (m : Nat) (tx : Bool) (n : Nat) : Dev :=
  let x := d.macX m
  if tx then
    let b := satNat 64 (x.txBytes + n)
    (d.setMacX m { x with txBytes := b }).wrNat (Reg.MAC_CNT m 4) b
  else
    let b := satNat 64 (x.rxBytes + n)
    (d.setMacX m { x with rxBytes := b }).wrNat (Reg.MAC_CNT m 1) b

/-- A read of RX_BYTES_LO or TX_BYTES_LO latches the high half. -/
def execMacBytesRead (m : Fin 193) (tx : Bool) (s : State) :=
  s.onDev fun d =>
    if !d.macActive m.val then d
    else if tx then d.wrNat (Reg.MAC_CNT m.val 5) ((d.macX m.val).txBytes / 2 ^ 32)
    else d.wrNat (Reg.MAC_CNT m.val 2) ((d.macX m.val).rxBytes / 2 ^ 32)

/-! ### Link (R255) -/

/-- Is the lane of a MAC LOCKED (all four on ETH100)? The management port has no lane. -/
def Dev.macLocked (d : Dev) (m : Nat) : Bool :=
  m == 192 || (if d.laneRole m == 4 then lanesOfQuad (quadOf m) else [m]).all fun i => d.rxState i == rxLocked

/-- Change LINK, with its interrupt (R284). -/
def Dev.setLink (d : Dev) (m : Nat) (b : Bool) : Dev :=
  if d.macLink m = b then d else (d.setFlag (Reg.MAC_STAT m) 0 b).statusIrq (macPage m) 16

/-- 1 ms LOCKED with no fault: LINK is 1; with RS-FEC the lock and the lane order show (R253, R255). -/
def Dev.macLinkUp (d : Dev) (m order : Nat) : Dev :=
  if d.macActive m && d.macLocked m && !d.flag (Reg.MAC_STAT m) 1 && !d.flag (Reg.MAC_STAT m) 2 then
    let fec := d.liveFlag (Reg.MAC_CFG m) 0 && m != 192
    let d1 := d.setFlag (Reg.MAC_STAT m) 6 fec
    (if d.laneRole m = 4 ∧ m < 192 then d1.setFld (Reg.MAC_STAT m) 15 8 order else d1).setLink m true
  else d

def execMacLinkUp (m : Fin 193) (order : Nat) (s : State) := s.onDev fun d => d.macLinkUp m.val order

/-- The faults of a link change; while one is sent or received LINK is 0 (R255). -/
def Dev.macFault (d : Dev) (m : Nat) (lf rf : Bool) : Dev :=
  if !d.macActive m then d
  else
    let lf' := lf || !d.macLocked m
    let d1 := (d.setFlag (Reg.MAC_STAT m) 1 lf').setFlag (Reg.MAC_STAT m) 2 rf
    if lf' || rf then d1.setLink m false else d1

def execMacLinkFault (m : Fin 193) (localFault remoteFault : Bool) (s : State) :=
  s.onDev fun d => d.macFault m.val localFault remoteFault

/-! ### Pause (R278, R313) -/

/-- Send a flow packet now: counted on its MAC and its entry. -/
def Dev.flowSendNow (d : Dev) (m : Nat) (p : FlowSend) : Dev :=
  (((d.macCount m 3).macBytes m true p.bytes).bump (Reg.FLW_TX_PKTS p.flow) 31 0).send (.flowPacket m p)

/-- The pause ends: held packets at most HOLD µs past their time go out back to back and count in LATE, the others are
dropped and counted in PAUSE_DROP (R313). -/
def Dev.pauseEnd (d : Dev) (m : Nat) : Dev :=
  if !d.macPaused m then d
  else
    let hold := d.live Reg.FLW_ENG_HOLD 7 0 * 1000
    let held := (d.macX m).held
    let d1 := ((d.setFlag (Reg.MAC_STAT m) 3 false).wrNat (Reg.MAC_PAUSE_LEFT m) 0).setMacX m { d.macX m with held := [] }
    held.foldl (fun a h =>
      let t := h.2.flow
      let a1 := a.setFlag (Reg.FLW_TX_STAT t) 1 false
      if !a1.macLink m then a1.macCount m 17
      else if d.nowNs ≤ h.1 + hold then
        ((a1.flowSendNow m h.2).bump (Reg.FLW_TX_LATE t) 31 0).raiseEntry (0x900 + t / 16) (t % 16) 1 0
      else (a1.bump (Reg.FLW_TX_PAUSE_DROP t) 31 0).raiseEntry (0x900 + t / 16) (t % 16) 0 0) d1

def execPauseEnd (m : Fin 193) (s : State) := s.onDev fun d => d.pauseEnd m.val

/-! ### Receiving (R257 to R272) -/

/-- Big-endian number of bytes. -/
def natBE (l : List Byte) : Nat := l.foldl (fun a b => a * 256 + b.toNat) 0

/-- Bytes [i, i + n) of a frame as a number. -/
def frameNat (l : List Byte) (i n : Nat) : Nat := natBE ((l.drop i).take n)

/-- MAC address of a MAC. -/
def Dev.macAddr (d : Dev) (m : Nat) : Nat := d.live (Reg.MAC_ADDR_HI m) 15 0 * 2 ^ 32 + d.live (Reg.MAC_ADDR_LO m) 31 0

/-- 802.1Q tag of a frame: present when bytes 12 and 13 are 0x8100 and its control information is there. -/
def frameTag (l : List Byte) : Option Nat := if 16 ≤ l.length ∧ frameNat l 12 2 = 0x8100 then some (frameNat l 14 2) else none

/-- EtherType that the filters test (R260); `none` in a frame too short to hold it. -/
def frameType (l : List Byte) : Option Nat :=
  let at_ := if (frameTag l).isSome then 16 else 12
  if at_ + 2 ≤ l.length then some (frameNat l at_ 2) else none

/-- Error flags of a frame (R258), FCS_ERR, RUNT, OVERSIZE, ALIGN. -/
structure RxErr where
  fcs : Bool
  runt : Bool
  oversize : Bool
  align : Bool
  deriving DecidableEq, Repr

/-- Any of them. -/
def RxErr.any (e : RxErr) : Bool := e.fcs || e.runt || e.oversize || e.align

/-- The flags of a received frame. -/
def Dev.rxErr (d : Dev) (m : Nat) (x : RxFrame) : RxErr :=
  ⟨!x.fcsOk, decide (x.bytes.length < 64), decide (d.live (Reg.MAC_MAX_FRAME m) 13 0 < x.bytes.length), x.align⟩

/-- Count the error flags, each with its sticky bit. -/
def Dev.countErr (d : Dev) (m : Nat) (e : RxErr) : Dev :=
  let one := fun (a : Dev) (b : Bool) (cnt st : Nat) => if b then (a.macCount m cnt).raise (macPage m) st 0 else a
  one (one (one (one d e.fcs 6 0) e.runt 7 1) e.oversize 8 2) e.align 9 3

/-- Does filter entry i match a frame (R261)? -/
def Dev.filtMatch (d : Dev) (m i : Nat) (l : List Byte) : Bool :=
  let p := 2 * m + i / 128
  let act := d.rd (Reg.MAC_FILT_ACT p (i % 128) + 0x800)
  let mt := d.rd (Reg.MAC_FILT_MATCH p (i % 128) + 0x800)
  let tag := frameTag l
  bit act 31 &&
    (bit act 0 || tag.any fun t => t % 4096 == bits mt 11 0) &&
    (bit act 1 || tag.any fun t => t / 8192 == bits mt 14 12) &&
    (bit act 2 || frameType l == some (bits mt 31 16)) &&
    (bits act 5 4 == 0 || (bits act 5 4 == 1 && tag.isNone && decide (14 ≤ l.length)) || (bits act 5 4 == 2 && tag.isSome))

/-- Action, ring and matching entry of a frame; 0x100 is MAC_RX_DEF. -/
def Dev.filtAction (d : Dev) (m : Nat) (l : List Byte) : Nat × Nat × Nat :=
  match (List.range 256).find? fun i => d.filtMatch m i l with
  | some i =>
    let act := d.rd (Reg.MAC_FILT_ACT (2 * m + i / 128) (i % 128) + 0x800)
    (bits act 9 8, bits act 21 16, i)
  | none => (d.live (Reg.MAC_RX_DEF m) 1 0, d.live (Reg.MAC_RX_DEF m) 13 8, 0x100)

/-- Address of receive descriptor i of ring k. -/
def Dev.rxDescAddr (d : Dev) (k i : Nat) : Nat :=
  d.rd64 (Reg.MAC_RING_RX_BASE_LO k + 0x800) (Reg.MAC_RING_RX_BASE_HI k + 0x800) +
    32 * (i % max 1 (d.live (Reg.MAC_RING_RX_COUNT k) 16 0))

/-- Address of transmit descriptor i of ring k. -/
def Dev.txDescAddr (d : Dev) (k i : Nat) : Nat :=
  d.rd64 (Reg.MAC_RING_TX_BASE_LO k + 0x800) (Reg.MAC_RING_TX_BASE_HI k + 0x800) +
    32 * (i % max 1 (d.live (Reg.MAC_RING_TX_COUNT k) 16 0))

/-- Descriptors handed over and not yet used: TAIL − HEAD modulo 2³² (R268). -/
def handedOver (tail head : Nat) : Nat := (tail + 2 ^ 32 - head) % 2 ^ 32

/-- RX_FRAME falls due after RX_IRQ_MOD.FRAMES frames, 0 meaning 1 (R272). -/
def Dev.rxModerate (d : Dev) (k : Nat) : Dev :=
  let n := (d.ringX k).since + 1
  if max 1 (d.fld (Reg.MAC_RING_RX_IRQ_MOD k) 7 0) ≤ n then
    (d.setRingX k { d.ringX k with since := 0 }).raiseLog (ringPage k) 0 0
  else d.setRingX k { d.ringX k with since := n }

def execRxIrqModTimer (k : Fin 64) (s : State) :=
  s.onDev fun d =>
    if (d.ringX k.val).since = 0 then d
    else (d.setRingX k.val { d.ringX k.val with since := 0 }).raiseLog (ringPage k.val) 0 0

/-- Write a frame to a host ring (R265 to R270): descriptors from RX_HEAD on, the buffers filled in order; with too few
descriptors the frame is truncated, with none it is dropped. `entry` is the filter entry. -/
def ringWrite (d : Dev) (mem : Mem) (m k entry : Nat) (l : List Byte) (e : RxErr) : Dev × Mem :=
  let head := d.fld (Reg.MAC_RING_RX_HEAD k) 31 0
  let have_ := handedOver (d.fld (Reg.MAC_RING_RX_TAIL k) 31 0) head
  let buf := max 1 (d.live (Reg.MAC_RING_RX_BUF k) 14 0)
  let need := ceilDiv l.length buf
  let dram := d.liveFlag (Reg.MAC_RING_RX_CFG k) 2
  let bad := d.liveFlag (Reg.MAC_RING_RX_CFG k) 1
  if !d.liveFlag (Reg.MAC_RING_RX_CFG k) 0 ∨ have_ = 0 then
    ((d.bump (Reg.MAC_RING_RX_NOBUF k) 31 0).raise (ringPage k) 2 0, mem)
  else
    let n := min have_ need
    let trunc := decide (have_ < need)
    let discard := trunc && !bad
    let tag := frameTag l
    let length := if trunc then n * buf else l.length
    let mem1 := (List.range n).foldl (fun (mm : Mem) i =>
      let at_ := d.rxDescAddr k (head + i)
      let part := (l.drop (i * buf)).take buf
      let first := i == 0 && !discard
      let last := i + 1 == n && !discard
      let flags := 1 + b2n first * 2 + b2n last * 4 + b2n e.fcs * 8 + b2n e.runt * 16 + b2n e.oversize * 32 +
        b2n e.align * 64 + b2n (last && trunc) * 128 + b2n discard * 256 + b2n tag.isSome * 512
      let back := bytesLE 2 part.length ++ bytesLE 2 flags ++ bytesLE 2 m ++ bytesLE 2 entry ++ bytesLE 2 (tag.getD 0) ++
        bytesLE 2 (if last then length % 16384 else 0) ++ bytesLE 4 0 ++ bytesLE 8 (if first then d.nowNs else 0)
      (mm.setBytes dram (mm.nat dram at_ 8) part).setBytes dram (at_ + 8) back) mem
    let d1 := d.wrNat (Reg.MAC_RING_RX_HEAD k) (head + n)
    let d2 := if trunc then (d1.bump (Reg.MAC_RING_RX_TRUNC k) 31 0).raise (ringPage k) 3 0 else d1
    (d2.rxModerate k, mem1)

/-- A frame for the control cores: at most 200,000 in a second (R263). -/
def Dev.toCores (d : Dev) (m : Nat) : Dev :=
  let sec := d.nowNs / 1000000000
  let n := if sec = d.media.coreSecond then d.media.coreFrames else 0
  if n ≥ 200000 then (d.macCount m 14).raise (macPage m) 5 0
  else { d with media := { d.media with coreSecond := sec, coreFrames := n + 1 } }

/-- A MAC control frame (R259, R278). -/
def Dev.macControl (d : Dev) (m : Nat) (l : List Byte) (err : Bool) : Dev :=
  let at_ := if (frameTag l).isSome then 18 else 14
  let op := frameNat l at_ 2
  let dst := frameNat l 0 6
  if err then d.macCount m 12
  else if op = 0x0101 then (d.macCount m 16).raise (macPage m) 9 0
  else if op ≠ 0x0001 ∨ (dst ≠ 0x0180C2000001 ∧ dst ≠ d.macAddr m) then d.macCount m 12
  else
    let quanta := frameNat l (at_ + 2) 2
    let d1 := (d.macCount m 15).raise (macPage m) 7 quanta
    if !d1.liveFlag (Reg.MAC_CFG m) 2 then d1
    else if quanta = 0 then d1.pauseEnd m
    else (d1.setFlag (Reg.MAC_STAT m) 3 true).wrNat (Reg.MAC_PAUSE_LEFT m) quanta

/-- RS-FEC codewords (R254). -/
def Dev.fecCount (d : Dev) (m : Nat) (x : RxFrame) : Dev :=
  let d1 := d.bumpBy (Reg.MAC_FEC_CORR m) 31 0 x.corrected
  if x.uncorrectable = 0 then d1
  else (d1.bumpBy (Reg.MAC_FEC_UNCORR m) 31 0 x.uncorrectable).raise (macPage m) 6 x.uncorrectable

/-- A received frame (R257 to R263). Frames handed to the flow engine arrive there as FLOW_PACKET_RX. -/
def macRx (d : Dev) (mem : Mem) (m : Nat) (x : RxFrame) : Dev × Mem :=
  if !d.macActive m then (d, mem)
  else
    let d0 := d.fecCount m x
    let dst := frameNat x.bytes 0 6
    let group := frameNat x.bytes 0 1 % 2 == 1
    if !(dst == d0.macAddr m || group || d0.liveFlag (Reg.MAC_CFG m) 1) then (d0.macCount m 10, mem)
    else
      let e := d0.rxErr m x
      let d1 := ((d0.macCount m 0).macBytes m false x.bytes.length).countErr m e
      let l := x.bytes.take (d1.live (Reg.MAC_MAX_FRAME m) 13 0)
      if frameType l = some 0x8808 then (d1.macControl m l e.any, mem)
      else if 20480 < x.held + l.length then ((d1.macCount m 13).raise (macPage m) 4 0, mem)
      else if frameType l = some 0x88CC then
        (if e.any then d1.macCount m 12 else d1.toCores m, mem)
      else
        let a := d1.filtAction m l
        let d2 := if a.2.2 < 256 then d1.bump (Reg.MAC_FILT_HITS (2 * m + a.2.2 / 128) (a.2.2 % 128)) 31 0 else d1
        match a.1 with
        | 0 => (d2.macCount m 11, mem)
        | 1 =>
          let k := a.2.1
          if e.any && !d2.liveFlag (Reg.MAC_RING_RX_CFG k) 1 then (d2.macCount m 12, mem)
          else ringWrite d2 mem m k a.2.2 l e
        | 2 => (if e.any then d2.macCount m 12 else d2.toCores m, mem)
        | _ => (if e.any then d2.macCount m 12 else d2, mem)

def execMacFrameRx (m : Fin 193) (x : RxFrame) (s : State) := s.onBoth fun d mem => macRx d mem m.val x

/-! ### Ring counts (R268, R271, R273) -/

/-- A write of a tail: one that would make TAIL − HEAD exceed the count is ignored with TAIL_BAD. -/
def Dev.tailWrite (d : Dev) (k tailAddr headAddr countAddr off v : Nat) (w : Writer) : Dev :=
  d.gated (ringPage k) off w fun d =>
    if d.live countAddr 16 0 < handedOver v (d.fld headAddr 31 0) then d.raise (ringPage k) 5 v else d.wrNat tailAddr v

def execRxTailWrite (k : Fin 64) (v : BitVec 32) (cells : List Host.Cell) (w : Writer) (s : State) :=
  s.onDevHost cells fun _ d =>
    d.tailWrite k.val (Reg.MAC_RING_RX_TAIL k.val) (Reg.MAC_RING_RX_HEAD k.val) (Reg.MAC_RING_RX_COUNT k.val) 0x058 v.toNat w

def execTxTailWrite (k : Fin 64) (v : BitVec 32) (cells : List Host.Cell) (w : Writer) (s : State) :=
  s.onDevHost cells fun _ d =>
    d.tailWrite k.val (Reg.MAC_RING_TX_TAIL k.val) (Reg.MAC_RING_TX_HEAD k.val) (Reg.MAC_RING_TX_COUNT k.val) 0x094 v.toNat w

/-- A disable that waited for its frame applies (R271). -/
def execRingDisableDone (k : Fin 64) (s : State) :=
  s.onDev fun d =>
    if (d.ringX k.val).rxOff then
      (d.setRingX k.val { d.ringX k.val with rxOff := false }).setFlag (Reg.MAC_RING_RX_CFG k.val + 0x800) 0 false
    else d

/-! ### Transmitting (R273 to R277) -/

/-- Flags halfword and length of transmit descriptor i of ring k. -/
def Dev.txFlags (d : Dev) (mem : Mem) (k i : Nat) : Nat :=
  mem.nat (d.liveFlag (Reg.MAC_RING_TX_CFG k) 2) (d.txDescAddr k i + 10) 2

/-- Number of descriptors of the frame at TX_HEAD, when all of them through EOF have been handed over (R276). -/
def Dev.txFrameLen (d : Dev) (mem : Mem) (k : Nat) : Option Nat :=
  let head := d.fld (Reg.MAC_RING_TX_HEAD k) 31 0
  let n := handedOver (d.fld (Reg.MAC_RING_TX_TAIL k) 31 0) head
  ((List.range n).find? fun i => d.txFlags mem k (head + i) / 4 % 2 == 1).map (· + 1)

/-- Is ring k bound to MAC m and enabled? -/
def Dev.txBound (d : Dev) (m k : Nat) : Bool :=
  d.liveFlag (Reg.MAC_RING_TX_CFG k) 0 && d.live (Reg.MAC_RING_TX_CFG k) 15 8 == m

/-- The host ring whose frame goes next: in round robin after the ring served last (R277). -/
def Dev.txNextRing (d : Dev) (mem : Mem) (m : Nat) : Option Nat :=
  ((List.range 64).map fun i => ((d.macX m).lastRing + 1 + i) % 64).find? fun k =>
    d.txBound m k && (d.txFrameLen mem k).isSome

/-- Return the descriptors of the frame at TX_HEAD with DONE, and TX_ERR when it was not sent. -/
def txReturn (d : Dev) (mem : Mem) (k n : Nat) (err : Bool) : Dev × Mem :=
  let head := d.fld (Reg.MAC_RING_TX_HEAD k) 31 0
  let dram := d.liveFlag (Reg.MAC_RING_TX_CFG k) 2
  let mem1 := (List.range n).foldl (fun (mm : Mem) i =>
    mm.setBytes dram (d.txDescAddr k (head + i) + 10)
      (bytesLE 2 ((d.txFlags mm k (head + i) ||| 1) ||| (if err then 16 else 0)))) mem
  let d1 := (d.wrNat (Reg.MAC_RING_TX_HEAD k) (head + n)).raise (ringPage k) 1 0
  (if err then (d1.bump (Reg.MAC_RING_TX_ERR_CNT k) 31 0).raise (ringPage k) 4 0 else d1, mem1)

/-- Send a frame of the cores or a host ring: padded to 60 bytes; the FCS adds four (R275). -/
def Dev.macSend (d : Dev) (m : Nat) (l : List Byte) : Dev :=
  let p := l ++ List.replicate (60 - l.length) 0
  ((d.macCount m 3).macBytes m true (p.length + 4)).send (.ethFrame m p)

/-- A frame boundary (R256, R275 to R277, R282): nothing while paused or waking; LPI is left first; with LINK 0 the frame
is discarded. The control cores come before the host rings; flow packets have gone at their own times. -/
def macTx (d : Dev) (mem : Mem) (m : Nat) (core : Option (List Byte)) : Dev × Mem :=
  if !d.macActive m || d.macPaused m || (d.macX m).waking then (d, mem)
  else
    let ring := d.txNextRing mem m
    if core.isNone && ring.isNone then (d, mem)
    else if d.flag (Reg.MAC_STAT m) 4 then
      ((d.setFlag (Reg.MAC_STAT m) 4 false).setMacX m { d.macX m with waking := true }, mem)
    else match core, ring with
      | some l, _ => (if d.macLink m then d.macSend m l else d.macCount m 17, mem)
      | none, none => (d, mem)
      | none, some k =>
        let head := d.fld (Reg.MAC_RING_TX_HEAD k) 31 0
        let dram := d.liveFlag (Reg.MAC_RING_TX_CFG k) 2
        let n := (d.txFrameLen mem k).getD 0
        let l := (List.range n).flatMap fun i =>
          let a := d.txDescAddr k (head + i)
          mem.bytes dram (mem.nat dram a 8) (mem.nat dram (a + 8) 2 % 16384)
        let d0 := d.setMacX m { d.macX m with lastRing := k }
        if !d.macLink m then txReturn (d0.macCount m 17) mem k n true
        else if d.live (Reg.MAC_MAX_FRAME m) 13 0 < l.length + 4 then txReturn d0 mem k n true
        else
          let d1 := d0.macSend m l
          let d2 := if d.txFlags mem k head / 8 % 2 = 1 then
              d1.tsqPush m ⟨mem.nat dram (d.txDescAddr k head + 12) 2, d.nowNs⟩ else d1
          txReturn d2 mem k n false

def execMacFrameTx (m : Fin 193) (core : Option (List (BitVec 8))) (s : State) :=
  s.onBoth fun d mem => macTx d mem m.val core

/-! ### Low Power Idle (R280 to R282) -/

/-- Is a transmit flow enabled on a MAC? -/
def Dev.macHasFlow (d : Dev) (m : Nat) : Bool :=
  (List.range 4096).any fun t => d.liveFlag (Reg.FLW_TX_CFG t) 0 && d.live (Reg.FLW_TX_MAC t) 7 0 == m

/-- The MAC signals LPI when R280 holds. -/
def lpiEnter (d : Dev) (mem : Mem) (m : Nat) : Dev :=
  if d.macActive m && m != 192 && d.liveFlag (Reg.MAC_CFG m) 3 && d.flag (Reg.MAC_LPI_STAT m) 16 && d.macLink m &&
      !d.macHasFlow m && (d.macPaused m || (d.txNextRing mem m).isNone) && !d.flag (Reg.MAC_STAT m) 4 && !(d.macX m).waking then
    (d.setFlag (Reg.MAC_STAT m) 4 true).macCount m 18
  else d

def execLpiEnter (m : Fin 193) (s : State) := s.onBoth fun d mem => (lpiEnter d mem m.val, mem)

/-- TW µs of idle have passed: the waiting frame may go (R282). -/
def execLpiWakeDone (m : Fin 193) (s : State) := s.onDev fun d => d.setMacX m.val { d.macX m.val with waking := false }

/-- The LLDP service settles the transmit wake time (R281). -/
def execLldpRx (m : Fin 193) (tw : Nat) (s : State) :=
  s.onDev fun d =>
    if d.serviceOn 2 && d.macActive m.val && m.val != 192 then d.wrNat (Reg.MAC_LPI_STAT m.val) (tw % 65536 + 65536) else d

/-- The far end's information expires: AGREED clears and LPI ends at once (R281). -/
def execLldpExpiry (m : Fin 193) (s : State) :=
  s.onDev fun d => (d.setFlag (Reg.MAC_LPI_STAT m.val) 16 false).setFlag (Reg.MAC_STAT m.val) 4 false

/-- The LLDP service sends on the management port and each Ethernet-role MAC (R281). -/
def execLldpTransmit (s : State) :=
  s.onDev fun d =>
    ((List.range 193).filter fun m => d.serviceOn 2 && d.macActive m).foldl (fun a m =>
      if a.macLink m then a.send (.lldp m (a.live (Reg.MAC_LPI_CFG m) 15 0)) else a.macCount m 17) d

/-! ### Commits (R252, R269, R271, R273) -/

/-- Is a MAC one that an enabled transmit ring may be bound to? -/
def Dev.macIsEth (e : Dev) (m : Nat) : Bool := m == 192 || (decide (m < 192) && isEthRole (e.laneRole m))

/-- FEC against the lane's role (R252). -/
def macCheck (e : Dev) (m : Nat) : Option (Nat × Nat) :=
  let fec := e.liveFlag (Reg.MAC_CFG m) 0
  if m < 192 ∧ ((e.laneRole m = 2 ∧ fec = true) ∨ (e.laneRole m = 4 ∧ m % 4 = 0 ∧ fec = false)) then some (0x0A, 0x23) else none

/-- RING_SHORT, RING_ACTIVE and TX_MAC: `d` before, `e` after. -/
def ringCheck (d e : Dev) (k : Nat) : Option (Nat × Nat) :=
  let on := fun (x : Dev) => x.liveFlag (Reg.MAC_RING_RX_CFG k) 0
  let buf := max 1 (e.live (Reg.MAC_RING_RX_BUF k) 14 0)
  let same := fun (r : Nat) => decide (d.rd (r + 0x800) = e.rd (r + 0x800))
  if on e = true ∧ e.live (Reg.MAC_RING_RX_COUNT k) 16 0 < 2 * ceilDiv 9728 buf then some (0x0A, 0x21)
  else if on d = true ∧ (same (Reg.MAC_RING_RX_COUNT k) && same (Reg.MAC_RING_RX_BUF k) && same (Reg.MAC_RING_RX_BASE_LO k) &&
      same (Reg.MAC_RING_RX_BASE_HI k)) = false then some (0x0A, 0x22)
  else if e.liveFlag (Reg.MAC_RING_TX_CFG k) 0 = true ∧ e.macIsEth (e.live (Reg.MAC_RING_TX_CFG k) 15 8) = false then
    some (0x0A, 0x24)
  else none

/-- A commit that disables a receive ring waits for the frame being written (R271): until RING_DISABLE_DONE the ring stays
enabled. -/
def ringEffect (old d : Dev) (k : Nat) : Dev :=
  if old.liveFlag (Reg.MAC_RING_RX_CFG k) 0 && !d.liveFlag (Reg.MAC_RING_RX_CFG k) 0 then
    (d.setFlag (Reg.MAC_RING_RX_CFG k + 0x800) 0 true).setRingX k { d.ringX k with rxOff := true }
  else if d.liveFlag (Reg.MAC_RING_RX_CFG k) 0 then d.setRingX k { d.ringX k with rxOff := false }
  else d

end Sys2Proof.Machine
end

