-- ==== Sys2Proof/Machine/Flows.lean ====
section
/-!
DEFINITION. ST 2110 flows and the flow engine (spec/08_media_flows.md, R288 to R323).
-/

namespace Sys2Proof.Machine

open Sys2Proof

/-! ### Receive entries -/

/-- Receive flow beyond its registers. -/
def Dev.flowIn (d : Dev) (r : Nat) : FlowIn := Sparse.get (fun _ => FlowIn.reset) d.media.flowsIn r

/-- Replace it. -/
def Dev.setFlowIn (d : Dev) (r : Nat) (x : FlowIn) : Dev :=
  { d with media := { d.media with flowsIn := Sparse.set (fun _ => FlowIn.reset) d.media.flowsIn r x } }

/-- Change it. -/
def Dev.updFlowIn (d : Dev) (r : Nat) (f : FlowIn → FlowIn) : Dev := d.setFlowIn r (f (d.flowIn r))

/-- Page of a receive entry. -/
def flwRxPage (r : Nat) : Nat := 0x800 + r / 16

/-- Fields of a receive entry (R320). -/
def Dev.rxEn (d : Dev) (r : Nat) : Bool := d.liveFlag (Reg.FLW_RX_CFG r) 0
def Dev.rxType (d : Dev) (r : Nat) : Nat := d.live (Reg.FLW_RX_CFG r) 2 1
def Dev.rxIpv6 (d : Dev) (r : Nat) : Bool := d.liveFlag (Reg.FLW_RX_CFG r) 3
def Dev.rxSrcFilt (d : Dev) (r : Nat) : Bool := d.liveFlag (Reg.FLW_RX_CFG r) 4
def Dev.rxPair (d : Dev) (r : Nat) : Bool := d.liveFlag (Reg.FLW_RX_CFG r) 5
def Dev.rxTp (d : Dev) (r : Nat) : Nat := d.live (Reg.FLW_RX_CFG r) 10 8
def Dev.rxPartner (d : Dev) (r : Nat) : Nat := d.live (Reg.FLW_RX_CFG r) 27 16
def Dev.rxMac (d : Dev) (r : Nat) : Nat := d.live (Reg.FLW_RX_MAC r) 7 0
def Dev.rxPt (d : Dev) (r : Nat) : Nat := d.live (Reg.FLW_RX_MAC r) 14 8
def Dev.rxBindEn (d : Dev) (r : Nat) : Bool := d.rxType r != 0 && d.liveFlag (Reg.FLW_RX_BIND r) 15
def Dev.rxBind (d : Dev) (r : Nat) : Nat := d.live (Reg.FLW_RX_BIND r) 11 0
def Dev.rxBase (d : Dev) (r : Nat) : Nat := d.live (Reg.FLW_RX_BIND r) 28 16
def Dev.rxFmt (d : Dev) (r : Nat) : Word := d.rd (Reg.FLW_RX_FMT r + 0x800)

/-- An address of four words, word 0 lowest; an IPv4 address is word 0 (notes/assumptions/16.md). -/
def Dev.addr4 (d : Dev) (ipv6 : Bool) (a0 a1 a2 a3 : Nat) : Nat :=
  let w := fun (a : Nat) => (d.rd (a + 0x800)).toNat
  if ipv6 then w a0 + (w a1 + (w a2 + w a3 * 2 ^ 32) * 2 ^ 32) * 2 ^ 32 else w a0

/-- Destination and source address of a receive entry. -/
def Dev.rxDaddr (d : Dev) (r : Nat) : Nat :=
  d.addr4 (d.rxIpv6 r) (Reg.FLW_RX_DADDR0 r) (Reg.FLW_RX_DADDR1 r) (Reg.FLW_RX_DADDR2 r) (Reg.FLW_RX_DADDR3 r)
def Dev.rxSaddr (d : Dev) (r : Nat) : Nat :=
  d.addr4 (d.rxIpv6 r) (Reg.FLW_RX_SADDR0 r) (Reg.FLW_RX_SADDR1 r) (Reg.FLW_RX_SADDR2 r) (Reg.FLW_RX_SADDR3 r)

/-- Is an address a multicast group: 224.0.0.0/4 or ff00::/8 (R306, R317)? -/
def isMulticast (ipv6 : Bool) (a : Nat) : Bool := if ipv6 then a / 2 ^ 120 % 256 == 0xFF else a / 2 ^ 28 % 16 == 0xE

/-- The key of an enabled entry (R289): MAC, version, destination, port, and the source where SRC_FILT is set. -/
def Dev.rxKey (d : Dev) (r : Nat) : Nat × Bool × Nat × Nat × Option Nat :=
  (d.rxMac r, d.rxIpv6 r, d.rxDaddr r, d.live (Reg.FLW_RX_PORT r) 15 0, if d.rxSrcFilt r then some (d.rxSaddr r) else none)

/-- Enabled receive entries, rising. A word that differs from its reset value is listed, so the listed CFG words are all
that can be enabled. -/
def Dev.rxEntries (d : Dev) : List Nat :=
  d.regs.filterMap fun p =>
    let o := p.1 % 0x1000
    if decide (0x800000 ≤ p.1) && decide (p.1 < 0x900000) && decide (0x900 ≤ o) && (o - 0x900) % 0x60 == 0 &&
        decide ((o - 0x900) / 0x60 < 16) && bit p.2 0 then some ((p.1 / 0x1000 - 0x800) * 16 + (o - 0x900) / 0x60) else none

/-- Enabled transmit entries, rising. -/
def Dev.txEntries (d : Dev) : List Nat :=
  d.regs.filterMap fun p =>
    let o := p.1 % 0x1000
    if decide (0x900000 ≤ p.1) && decide (p.1 < 0xA00000) && decide (0x900 ≤ o) && (o - 0x900) % 0x60 == 0 &&
        decide ((o - 0x900) / 0x60 < 16) && bit p.2 0 then some ((p.1 / 0x1000 - 0x900) * 16 + (o - 0x900) / 0x60) else none

/-- The entry that takes a packet (R289). -/
def Dev.rxMatch (d : Dev) (m : Nat) (p : FlowPacket) : Option Nat :=
  d.rxEntries.find? fun r =>
    d.rxMac r == m && d.rxIpv6 r == p.ipv6 && d.rxDaddr r == p.dst && d.live (Reg.FLW_RX_PORT r) 15 0 == p.port &&
      (!d.rxSrcFilt r || d.rxSaddr r == p.src)

/-- The lead of the pair that an entry belongs to; itself when in none (R302). -/
def Dev.rxLead (d : Dev) (r : Nat) : Nat :=
  if d.rxPair r then r else (d.rxEntries.find? fun p => d.rxPair p && d.rxPartner p == r).getD r

/-- Does an entry have an SRC of its own (R293, R305)? -/
def Dev.rxHasSrc (d : Dev) (r : Nat) : Bool := d.rxEn r && d.rxLead r == r && !d.rxBindEn r

/-- The entry whose stream a flow's cells join. -/
def Dev.rxStream (d : Dev) (r : Nat) : Nat := if d.rxBindEn r then d.rxBind r else r

/-- SRC of the stream. -/
def Dev.rxSrc (d : Dev) (r : Nat) : Option Nat := d.srcOf 1 (d.rxStream r) false

/-- STATE and CLEAN of an entry (R320): 0 IDLE, 1 LOST, 2 SETTLING, 3 VALID. -/
def Dev.rxStat (d : Dev) (r : Nat) : Nat := d.fld (Reg.FLW_RX_STAT r) 2 0

/-- Audio channels of an audio entry; periods in one of its packets (R297, R312). -/
def Dev.rxChans (d : Dev) (r : Nat) : Nat := bits (d.rxFmt r) 6 0
def ptimePeriods (fast : Bool) : Nat := if fast then 6 else 48

/-- Flows bound to a video flow, rising. -/
def Dev.rxBound (d : Dev) (v : Nat) : List Nat :=
  d.rxEntries.filter fun r => d.rxBindEn r && d.rxBind r == v && d.rxLead r == r

/-- First stream channel of an audio flow: each begins a block of 16 (notes/assumptions/16.md). -/
def Dev.rxFirstChan (d : Dev) (r : Nat) : Nat :=
  if !d.rxBindEn r then 0
  else ((d.rxBound (d.rxBind r)).filter fun q => decide (q < r) && (d.rxType q == 1 || d.rxType q == 2)).foldl
    (fun a q => a + 16 * ceilDiv (d.rxChans q) 16) 0

/-- Audio channels of a stream: a multiple of 4, at most 128 (R234). -/
def Dev.rxStreamChans (d : Dev) (r : Nat) : Nat :=
  let own := fun (q : Nat) => d.rxFirstChan q + d.rxChans q
  let l := (if d.rxType r = 0 then d.rxBound r else [r]).filter fun q => d.rxType q == 1 || d.rxType q == 2
  min 128 (4 * ceilDiv (l.foldl (fun a q => max a (own q)) 0) 4)

/-- Does a stream carry ANC? -/
def Dev.rxStreamAnc (d : Dev) (r : Nat) : Bool :=
  d.rxType r == 3 || (d.rxType r == 0 && (d.rxBound r).any fun q => d.rxType q == 3)

/-- The descriptor of a flow's stream (R294). -/
def Dev.rxDesc (d : Dev) (r : Nat) : Desc :=
  let w := d.rxFmt r
  let code := bits w 2 0
  let rate := d.planeRate (d.rxTp r)
  let video := d.rxType r == 0
  let own := (d.rxSrc r).getD 0
  { width := if video then rasterWidth code else 0
    lines := if video then rasterLines code else 0
    total := if video then rasterTotal code else d.planeLines (d.rxTp r)
    spl := if video then rasterSpl code rate else d.planeSamples (d.rxTp r)
    rate := rate
    interlaced := video && rasterInter code
    psf := video && (rasterOf code).2.2.2.2
    tp := d.rxTp r
    sampling := if video then bits w 6 4 else 0
    color := if video then bits w 11 8 else 15
    xfer := if video then bits w 13 12 else 3
    fullRange := video && bit w 14
    audio := d.rxStreamChans r
    anc := d.rxStreamAnc r
    groupSize := 1
    member := 0
    square := false
    kind := 1
    lead := own
    cells := if video then cellsPerLine (rasterWidth code) (bits w 6 4) else 0
    seq := 0 }

/-- Ingress reservation of a stream (R328, R329). -/
def Dev.rxRate (d : Dev) (r : Nat) : Nat :=
  let y := d.rxDesc r
  cellRate y.width y.lines y.total y.rate y.sampling y.audio y.anc

/-- Show an entry: SRC, IN_TIME, and the validity of the source of its stream (R305, R320). -/
def Dev.rxShow (d : Dev) (r : Nat) : Dev :=
  let valid := d.rxStat r == 3
  let own := if d.rxHasSrc r then d.rxSrc r else none
  let d1 := match own with
    | some n => if (d.src n).any (fun (x : Source) => x.valid != valid) then d.updSrc n fun x => { x with valid := valid } else d
    | none => d
  let inTime := own.any fun n => (d1.src n).any fun (x : Source) => d1.srcInTime x
  (((d1.setFld (Reg.FLW_RX_STAT r) 17 8 (own.getD 0)).setFlag (Reg.FLW_RX_STAT r) 18 own.isSome).setFlag
    (Reg.FLW_RX_STAT r) 20 inTime)

/-- Move an entry to a state, with the interrupt of R323. -/
def Dev.setRxStat (d : Dev) (r st clean : Nat) : Dev :=
  let d1 := (d.setFld (Reg.FLW_RX_STAT r) 2 0 st).setFld (Reg.FLW_RX_STAT r) 5 4 clean
  (if d.rxStat r ≠ st then d1.statusIrq (flwRxPage r) 16 else d1).rxShow r

/-- Entry sticky bit of a receive entry. -/
def Dev.rxSticky (d : Dev) (r n arg : Nat) : Dev := d.raiseEntry (flwRxPage r) (r % 16) n arg

/-! ### Frames and times (R295) -/

/-- Start of frame f of a plane in ns. -/
def Dev.frameNs (d : Dev) (tp f : Nat) : Nat := d.instantOf ⟨tp, f, 1, 0⟩ / 65536

/-- 90 kHz ticks of the start of frame f, before the modulus (R310). -/
def Dev.frameTicks (d : Dev) (tp f : Nat) : Nat :=
  match ratePeriod (d.planeRate tp) with
  | none => 0
  | some (num, den) =>
    (((f * num * 90000 * 1000000000 : Nat) : Int) + d.planeOfs tp * 90000 * (den : Int)).toNat / (den * 1000000000)

/-- The frame whose start lies nearest an RTP timestamp of 90 kHz, and the difference in ns (R295). -/
def Dev.frameOfTs (d : Dev) (tp ts : Nat) : Nat × Int :=
  let now := (d.coordNow tp).f
  let dt := diff32 ts (d.frameTicks tp now)
  let t := (((d.frameNs tp now : Nat) : Int) + dt * 1000000000 / 90000).toNat
  let f := (d.coordAt tp (t * 65536)).f
  let a := (t : Int) - (d.frameNs tp f : Int)
  let b := (t : Int) - (d.frameNs tp (f + 1) : Int)
  if a.natAbs ≤ b.natAbs then (f, a) else (f + 1, b)

/-- Device time in ns of a 48 kHz timestamp nearest now (R295). -/
def Dev.audioNs (d : Dev) (ts : Nat) : Nat :=
  let now := d.nowNs * 48000 / 1000000000
  ceilDiv ((((now : Int) + diff32 ts (now % 2 ^ 32)).toNat) * 1000000000) 48000

/-- Lines per frame in which an entry's stream counts: those of its raster, or of its plane's. -/
def Dev.rxTotal (d : Dev) (r : Nat) : Nat :=
  let s := d.rxStream r
  if d.rxType s = 0 then rasterTotal (bits (d.rxFmt s) 2 0) else d.planeLines (d.rxTp s)

/-- Frame, line and sample of a device time (ns) in a raster of `total` lines of `spl` samples on a plane (R86). -/
def Dev.lineAt (d : Dev) (tp total spl ns : Nat) : Nat × Nat × Nat :=
  match ratePeriod (d.planeRate tp) with
  | none => (0, 0, 0)
  | some (num, den) =>
    let p := num * ticksPerSecond
    let x := ((((ns * 65536 : Nat) : Int) - d.planeOfs tp * 65536) * (den : Int)).toNat
    let y := (x % p) * max 1 total
    (x / p, y / p + 1, (y % p) * spl / p)

/-! ### Packets in (R289 to R305) -/

/-- Count a dropped packet on the FLW_ENG page. -/
def Dev.flwCount (d : Dev) (i : Nat) : Dev :=
  let d1 := d.bump (Reg.FLW_ENG_CNT i) 31 0
  if i < 4 then d1.raise Reg.pageFLWENG i 0 else d1

/-- Extend a 16-bit sequence number by its distance from the highest one seen (R303). -/
def extendSeq (hi : Option Nat) (s : Nat) : Nat :=
  match hi with
  | none => 65536 + s % 65536
  | some h => (((h : Int) + toSigned 16 (s % 65536 + 65536 - h % 65536)).toNat)

/-- Change the mark of a frame. -/
def FlowIn.mark (x : FlowIn) (f : Nat) (g : FrameMark → FrameMark) : FlowIn :=
  let old := (x.marks.find? fun m => m.f == f).getD ⟨f, false, false, false⟩
  { x with marks := (x.marks.filter fun m => m.f != f) ++ [g old] }

/-- Record a sequence number brought by a leg; is it the first copy (R303)? -/
def FlowIn.seeSeq (x : FlowIn) (ext key : Nat) (second : Bool) : FlowIn × Bool :=
  let hi := match x.seq with
    | some h => if h < ext then ext else h
    | none => ext
  match x.seen.find? fun s => s.1 == ext with
  | some _ =>
    ({ x with
      seq := some hi
      seen := x.seen.map fun s => if s.1 = ext then (s.1, s.2.1, s.2.2.1 || !second, s.2.2.2 || second) else s }, false)
  | none => ({ x with seq := some hi, seen := x.seen ++ [(ext, key, !second, second)] }, true)

/-- Emit audio cells of a flow once three periods wait: one per block of 16 channels (R239, R300). -/
def Dev.flowAudioCells (d : Dev) (r : Nat) (valid : Bool) : Nat → Dev
  | 0 => d
  | fuel + 1 =>
    let x := d.flowIn r
    if x.periods.length < 3 then d
    else
      let c := x.stamp.getD (0, 1, 0)
      let first := d.rxFirstChan r
      let now := x.periods.take 3
      let s := d.rxStream r
      let spl := (d.rxDesc s).spl
      let cells := (List.range (ceilDiv (d.rxChans r) 16)).map fun b =>
        { Cell.at 1 (d.rxTp r) c.1 c.2.1 0
            (packAudio (first / 16 + b) c.2.2 (now.map fun p => (List.range 16).map fun i => p.getD (16 * b + i) 0)) with
          invalid := !valid }
      let t := d.rasterInstant (d.rxTp r) (d.rxTotal r) c.1 c.2.1 / 65536 + ceilDiv (3 * 1000000000) 48000
      let d1 := d.setFlowIn r { x with periods := x.periods.drop 3, stamp := some (d.lineAt (d.rxTp r) (d.rxTotal r) spl t) }
      let d2 := match d1.rxSrc r with
        | some n => if (d1.src n).any Source.everValid then d1.writeCells n cells else d1
        | none => d1
      d2.flowAudioCells r valid fuel

/-- A packet that its entry accepts goes into its line (R295, R297, R300, R301, R303). -/
def Dev.flowAccept (d : Dev) (r : Nat) (p : FlowPacket) : Dev :=
  let lead := d.rxLead r
  let second := r != lead
  let typ := d.rxType lead
  let tp := d.rxTp lead
  let d0 := d.bump (Reg.FLW_RX_PKTS r) 31 0
  let d1 := if (d0.flowIn r).legLost then d0.updFlowIn r fun x => { x with legLost := false } else d0
  let d2 := if d1.rxStat lead = 0 ∨ d1.rxStat lead = 1 then d1.setRxStat lead 2 0 else d1
  let bad := fun (e : Dev) (f : Nat) =>
    let e1 := e.bump (Reg.FLW_RX_FMTERR r) 31 0
    let was := ((e.flowIn lead).marks.find? fun m => m.f == f).any FrameMark.fmtErr
    (if was then e1 else e1.rxSticky r 1 f).updFlowIn lead fun x => x.mark f fun m => { m with fmtErr := true }
  let late := fun (e : Dev) (f ext : Nat) =>
    let e1 := (e.bump (Reg.FLW_RX_LATE r) 31 0).rxSticky r 2 f
    let other := (e.flowIn lead).seen.any fun s => s.1 == ext && (if second then s.2.2.1 else s.2.2.2)
    let e2 := if e.rxPair lead && other then e1.rxSticky r 4 f else e1
    if other then e2 else e2.updFlowIn lead fun x => x.mark f fun m => { m with spoiled := true }
  let ext := extendSeq (d2.flowIn lead).seq p.seq
  let put := fun (e : Dev) (key f : Nat) (g : FlowIn → FlowIn) =>
    if key ≤ (e.flowIn lead).released then late e f ext
    else
      let s := (e.flowIn lead).seeSeq ext key second
      if s.2 then e.setFlowIn lead (g s.1) else e.setFlowIn lead s.1
  match p.payload with
  | .video line ofs len words =>
    let code := bits (d2.rxFmt lead) 2 0
    let s := bits (d2.rxFmt lead) 6 4
    let total := rasterWidth code * bitsPerPixel s / bitsPerWord s
    let ft := d2.frameOfTs tp p.ts
    if typ ≠ 0 then bad d2 ft.1
    else
      let d3 := (d2.wrSat (Reg.FLW_RX_TSOFS lead) ft.2)
      let d4 := match d3.rxSrc lead with
        | some n => if (d3.src n).any (fun (x : Source) => x.ofs != ft.2) then (d3.updSrc n fun x => { x with ofs := ft.2 }).rxShow lead else d3
        | none => d3
      let d5 := if p.marker then d4.updFlowIn lead fun x => x.mark ft.1 fun m => { m with marker := true } else d4
      if line = 0 ∨ rasterTotal code < line ∨ len = 0 ∨ words.length ≠ len ∨ total < ofs + len then bad d5 ft.1
      else put d5 (lineKey ft.1 line) ft.1 fun x => { x with video := x.video ++ [(ft.1, line, ofs, words)] }
  | .audio chans periods =>
    let t := d2.audioNs p.ts
    let c := d2.lineAt tp (d2.rxTotal lead) (d2.rxDesc (d2.rxStream lead)).spl t
    if (typ ≠ 1 ∧ typ ≠ 2) ∨ chans ≠ d2.rxChans lead ∨ periods.length ≠ ptimePeriods (bit (d2.rxFmt lead) 8) then bad d2 c.1
    else
      let fresh := !((d2.flowIn lead).seen.any fun s => s.1 == ext) && decide ((d2.flowIn lead).released < lineKey c.1 c.2.1)
      let d3 := put d2 (lineKey c.1 c.2.1) c.1 fun x => { x with
        periods := x.periods ++ periods
        stamp := if x.periods = [] then some c else x.stamp }
      let valid := d3.rxStat lead == 3 && (!d3.rxBindEn lead || d3.rxStat (d3.rxBind lead) == 3)
      let d4 := if fresh && valid then
          periods.foldl (fun a q => (List.range chans).foldl (fun b i => b.pushInput (d3.rxBase lead + i) (q.getD i 0)) a) d3
        else d3
      d4.flowAudioCells lead valid 20
  | .anc items =>
    let ft := d2.frameOfTs tp p.ts
    let dflt := if bits (d2.rxFmt lead) 21 16 = 0 then 9 else bits (d2.rxFmt lead) 21 16
    if typ ≠ 3 then bad d2 ft.1
    else
      let placed := items.map fun i =>
        if i.1 = 0x7FF then (ft.1, dflt, { i.2 with pos := 0x1FFF }) else (ft.1, i.1, i.2)
      let key := placed.foldl (fun a i => max a (lineKey i.1 i.2.1)) (lineKey ft.1 1)
      put d2 key ft.1 fun x => { x with anc := x.anc ++ placed }

/-- A packet handed to the flow engine: header checks, matching, RTP checks, its line (R289, R291). -/
def Dev.flowRx (d : Dev) (m : Nat) (p : FlowPacket) : Dev :=
  if !p.ipOk then d.flwCount 1
  else if !p.csumOk then d.flwCount 2
  else match d.rxMatch m p with
    | none => d.flwCount 0
    | some r => if p.version ≠ 2 ∨ p.pt ≠ d.rxPt r then d.flwCount 3 else d.flowAccept r p

def execFlowPacketRx (m : Fin 192) (p : FlowPacket) (s : State) := s.onDev fun d => d.flowRx m.val p

/-- Settle the merge window up to a line: RECOV of the leg that missed a number, MISS of the lead for a number that neither
brought (R303). -/
def Dev.flowSettle (d : Dev) (r key : Nat) : Dev :=
  let x := d.flowIn r
  let done := x.seen.filter fun s => decide (s.2.1 ≤ key)
  let top := done.foldl (fun a s => max a s.1) 0
  if done = [] then d
  else
    let d1 := d.setFlowIn r { x with
      seen := x.seen.filter fun s => decide (key < s.2.1)
      settled := some (max top (x.settled.getD 0)) }
    if !d.rxPair r then d1
    else
      let lost2 := (done.filter fun s => s.2.2.1 && !s.2.2.2).length
      let lost1 := (done.filter fun s => s.2.2.2 && !s.2.2.1).length
      let gap := match x.settled with
        | none => 0
        | some b => top - b - (x.seen.filter fun s => decide (b < s.1) && decide (s.1 ≤ top)).length
      ((d1.bumpBy (Reg.FLW_RX_RECOV r) 31 0 lost1).bumpBy (Reg.FLW_RX_RECOV (d.rxPartner r)) 31 0 lost2).bumpBy
        (Reg.FLW_RX_MISS r) 31 0 gap

/-- The sample words of a line from its runs; `none` where nothing arrived. -/
def lineWords (total : Nat) (runs : List (Nat × List Nat)) : List (Option Nat) :=
  (List.range total).map fun i =>
    (runs.find? fun u => decide (u.1 ≤ i) && decide (i < u.1 + u.2.length)).map fun u => u.2.getD (i - u.1) 0

/-- The cells of a line whose words are all there, by index: cell k carries bits 2,048 k to 2,048 k + 2,047 (R235). -/
def completeCells (sampling : Nat) (words : List (Option Nat)) (n : Nat) : List (Nat × List Byte) :=
  let w := bitsPerWord sampling
  ((packLine sampling (words.map fun x => x.getD 0) n).mapIdx fun k p => (k, p)).filter fun c =>
    let lo := c.1 * 2048 / w
    let hi := min words.length (ceilDiv ((c.1 + 1) * 2048) w)
    ((words.drop lo).take (hi - lo)).all Option.isSome

/-- A flow becomes VALID from frame f on, with its descriptor before its first cell (R223, R294, R297). -/
def Dev.flowValid (d : Dev) (r f : Nat) : Dev :=
  let d1 := (d.setRxStat r 3 2).updFlowIn r fun x => { x with validFrom := f }
  if !d1.rxHasSrc r then d1
  else match d1.rxSrc r with
    | none => d1
    | some n =>
      let y := d1.rxDesc r
      let d2 := match (d1.src n).bind Source.desc with
        | none => d1.setDesc n y f 1
        | some o => if { y with seq := o.seq } = o then d1 else d1.setDesc n y f 1
      (d2.updSrc n fun x => { x with everValid := true }).rxShow r

/-- The last active line of frame f has been released (R223, R297, R298). -/
def Dev.flowFrameEnd (d : Dev) (r f : Nat) : Dev :=
  let x := d.flowIn r
  let m := (x.marks.find? fun m => m.f == f).getD ⟨f, false, false, true⟩
  let errs := if m.fmtErr then x.errFrames + 1 else 0
  let d1 := d.setFlowIn r { x with marks := x.marks.filter fun m => decide (f < m.f), errFrames := errs }
  let clean := m.marker && !m.fmtErr && !m.spoiled
  if d1.rxStat r = 3 then (if errs ≥ 2 then d1.setRxStat r 2 0 else d1)
  else if d1.rxStat r = 2 then
    let c := if clean then d1.fld (Reg.FLW_RX_STAT r) 5 4 + 1 else 0
    if c ≥ 2 then d1.flowValid r (f + 1) else d1.setRxStat r 2 c
  else d1

/-- The release of line l of frame f of a flow (R296): video cells that are complete, ANC cells; later packets are late. A
lost flow that has been VALID writes invalid cells for its active lines (R298). -/
def Dev.flowRelease (d : Dev) (r f l : Nat) (active first final : Bool) : Dev :=
  if !d.rxEn r || d.rxLead r != r then d
  else
    let x := d.flowIn r
    let key := lineKey f l
    let d0 := d.setFlowIn r { x with
      released := max x.released key
      video := x.video.filter fun v => decide (key < lineKey v.1 v.2.1)
      anc := x.anc.filter fun v => decide (key < lineKey v.1 v.2.1) }
    let d1 := d0.flowSettle r key
    let good := d1.rxStat r == 3 && decide (x.validFrom ≤ f) && (!d1.rxBindEn r || d1.rxStat (d1.rxBind r) == 3)
    match d1.rxSrc r with
    | none => d1
    | some n =>
      let ever := (d1.src n).any Source.everValid
      match d1.rxType r with
      | 0 =>
        if !active then d1
        else
          let s := bits (d1.rxFmt r) 6 4
          let width := rasterWidth (bits (d1.rxFmt r) 2 0)
          let total := width * bitsPerPixel s / bitsPerWord s
          let count := cellsPerLine width s
          let runs := (x.video.filter fun v => v.1 == f && v.2.1 == l).map fun v => (v.2.2.1, v.2.2.2)
          let words := lineWords total runs
          let whole := words.all Option.isSome
          let lost := d1.rxStat r == 1
          let cells := if lost then (List.range count).map fun i => (i, List.replicate 256 0) else completeCells s words count
          let d2 := if l = 1 ∨ first then
              (if ever then match (d1.src n).bind Source.desc with
                | some y => d1.writeCell n (descCell y f 1)
                | none => d1 else d1) else d1
          let d3 := if !ever then d2
            else d2.writeCells n (cells.map fun c => { Cell.at 0 (d2.rxTp r) f l c.1 c.2 with
              sol := c.1 == 0
              eol := c.1 + 1 == count
              sof := first && c.1 == 0
              eof := final && c.1 + 1 == count
              invalid := !good })
          let d4 := if whole then d3.updFlowIn r fun y => y.mark f id
            else d3.updFlowIn r fun y => y.mark f fun m => { m with spoiled := true }
          if final then d4.flowFrameEnd r f else d4
      | 3 =>
        let items := (x.anc.filter fun v => v.1 == f && v.2.1 == l).map fun v => v.2.2
        if items = [] || !ever then d1
        else d1.writeCells n (lineCells 2 (d1.rxTp r) f l false false (!good) (packAnc items))
      | _ => d1

def execFlowLineRelease (r : Fin 4096) (f l : Nat) (active first final : Bool) (s : State) :=
  s.onDev fun d => d.flowRelease r.val f l active first final

/-- No packet for the limit of R298 or R299: the flow is lost; one leg of a pair alone only sets LEG_LOST (R305). A flow
that has never been VALID returns to IDLE. -/
def Dev.flowLost (d : Dev) (r : Nat) : Dev :=
  if !d.rxEn r then d
  else
    let lead := d.rxLead r
    let paired := d.rxPair lead
    let d1 := if paired ∧ (d.flowIn r).legLost = false then
        (d.updFlowIn r fun x => { x with legLost := true }).rxSticky r 3 0 else d
    let other := if r = lead then d1.rxPartner lead else lead
    if paired ∧ (d1.flowIn other).legLost = false then d1
    else if d1.rxStat lead = 1 ∨ d1.rxStat lead = 0 then d1
    else
      let was := d1.rxStat lead
      let ever := was == 3 || (d1.rxHasSrc lead && ((d1.rxSrc lead).bind d1.src).any Source.everValid)
      if ever then
        let d2 := d1.setRxStat lead 1 0
        d2.raiseEntryLog (flwRxPage lead) (lead % 16) 0 0
      else d1.setRxStat lead 0 0

def execFlowLost (r : Fin 4096) (s : State) := s.onDev fun d => d.flowLost r.val

/-- An audio or ANC flow is valid again (R299). -/
def Dev.flowRestore (d : Dev) (r : Nat) : Dev :=
  if d.rxEn r && d.rxLead r == r && d.rxType r != 0 && d.rxStat r == 2 then d.flowValid r 0 else d

def execFlowAudioRestore (r : Fin 4096) (s : State) := s.onDev fun d => d.flowRestore r.val

/-! ### Membership (R317, R318) -/

/-- Send the membership of an entry, or its leave. -/
def Dev.sendMembership (d : Dev) (r : Nat) (leave : Bool) : Dev :=
  let m := d.rxMac r
  if !d.macLink m then d.macCount m 17
  else d.send (.membership m (d.rxDaddr r) (if d.rxSrcFilt r then some (d.rxSaddr r) else none) leave)

/-- Does an entry hold a membership? -/
def Dev.rxJoined (d : Dev) (r : Nat) : Bool := d.rxEn r && isMulticast (d.rxIpv6 r) (d.rxDaddr r)

def execIgmpReportRepeat (r : Fin 4096) (s : State) :=
  s.onDev fun d =>
    let n := (d.flowIn r.val).repeats
    if n = 0 || !d.rxJoined r.val then d
    else (d.updFlowIn r.val fun x => { x with repeats := n - 1 }).sendMembership r.val false

/-- A query is answered with the reports it asks for; one of an old version is counted (R288, R317). -/
def execIgmpQueryRx (m : Fin 192) (q : MembershipQuery) (s : State) :=
  s.onDev fun d =>
    if !q.current then d.flwCount 4
    else (d.rxEntries.filter fun r => d.rxJoined r && d.rxMac r == m.val && (q.group.isNone || q.group == some (d.rxDaddr r))).foldl
      (fun a r => a.sendMembership r false) d

/-! ### Packets out (R306 to R314) -/

/-- Transmit flow beyond its registers. -/
def Dev.flowOut (d : Dev) (t : Nat) : FlowOut := Sparse.get (fun _ => FlowOut.reset) d.media.flowsOut t

/-- Replace it. -/
def Dev.setFlowOut (d : Dev) (t : Nat) (x : FlowOut) : Dev :=
  { d with media := { d.media with flowsOut := Sparse.set (fun _ => FlowOut.reset) d.media.flowsOut t x } }

/-- Fields of a transmit entry (R321). -/
def Dev.txEn (d : Dev) (t : Nat) : Bool := d.liveFlag (Reg.FLW_TX_CFG t) 0
def Dev.txType (d : Dev) (t : Nat) : Nat := d.live (Reg.FLW_TX_CFG t) 2 1
def Dev.txIpv6 (d : Dev) (t : Nat) : Bool := d.liveFlag (Reg.FLW_TX_CFG t) 3
def Dev.txDst (d : Dev) (t : Nat) : Nat := d.live (Reg.FLW_TX_CFG t) 18 8
def Dev.txMac (d : Dev) (t : Nat) : Nat := d.live (Reg.FLW_TX_MAC t) 7 0
def Dev.txPktBytes (d : Dev) (t : Nat) : Nat := d.live (Reg.FLW_TX_FMT t) 10 0
def Dev.txChans (d : Dev) (t : Nat) : Nat := d.live (Reg.FLW_TX_FMT t) 22 16
def Dev.txFast (d : Dev) (t : Nat) : Bool := d.liveFlag (Reg.FLW_TX_FMT t) 24
def Dev.txDaddr (d : Dev) (t : Nat) : Nat :=
  d.addr4 (d.txIpv6 t) (Reg.FLW_TX_DADDR0 t) (Reg.FLW_TX_DADDR1 t) (Reg.FLW_TX_DADDR2 t) (Reg.FLW_TX_DADDR3 t)

/-- Sample bytes of one line of a destination (R307). -/
def Dev.dstLineBytes (d : Dev) (k : Nat) : Nat := rasterWidth (d.dstRaster k) * bitsPerPixel (d.dstSampling k) / 8

/-- Packets per line and per frame of a video flow. -/
def Dev.txPerLine (d : Dev) (t : Nat) : Nat := ceilDiv (d.dstLineBytes (d.txDst t)) (max 1 (d.txPktBytes t))
def Dev.txPerFrame (d : Dev) (t : Nat) : Nat := d.txPerLine t * rasterLines (d.dstRaster (d.txDst t))

/-- Frame bytes around `n` bytes of RTP payload: RTP, UDP, IP, Ethernet with FCS, and the tag (R308). -/
def Dev.txFrameBytes (d : Dev) (t n : Nat) : Nat :=
  n + 12 + 8 + (if d.txIpv6 t then 40 else 20) + 18 + (if d.liveFlag (Reg.FLW_TX_NET t) 15 then 4 else 0)

/-- Bytes of an ANC packet in an RFC 8331 payload: its header word and its 10-bit words, padded to 32 bits. -/
def ancBytes (p : AncPacket) : Nat := 4 + 4 * ceilDiv (10 * p.words.length) 32

/-- The first ANC packets of a list that fit in a number of bytes. -/
def ancTake : (room : Nat) → List (Nat × AncPacket) → List (Nat × AncPacket)
  | _, [] => []
  | room, p :: t => if ancBytes p.2 ≤ room then p :: ancTake (room - ancBytes p.2) t else []

/-- ANC packets that destination k sends in frame f, by line (R30, R351). -/
def Dev.ancOfFrame (d : Dev) (k f : Nat) : List (Nat × AncPacket) :=
  let x := d.dst k
  let direct := match x.ancHold with
    | some (p, _) => p
    | none => if x.readF = f then x.ancCur else if x.readF = f + 1 then x.ancFrame else []
  match d.store k with
  | none => direct
  | some st =>
    if st.pre.any fun p => decide (f < p.2) then direct
    else match st.shown with
      | .frame g _ =>
        if st.inLoss then []
        else match x.ancHold with
          | some (p, _) => p
          | none => ((st.frames.find? fun y => y.f == g).map fun y => y.lines.flatMap fun l =>
            (ancOfCells (l.2.filter fun c => c.typ == 2)).map fun a => (l.1, a)).getD []
      | _ => []

/-- Packet k of frame f of flow t falls due (R308 to R314): the sequence moves on whatever becomes of it; it is held while
the MAC is paused, dropped without link, else sent. -/
def Dev.flowTx (d : Dev) (t f k l : Nat) (last : Bool) : Dev :=
  let dst := d.txDst t
  if !d.txEn t || !d.dstEnabled dst || !d.dataRuns then d
  else
    let m := d.txMac t
    let seq := d.fld (Reg.FLW_TX_SEQ t) 31 0
    let x := d.flowOut t
    let frameTs := d.frameTicks (d.dstPlane dst) f % 2 ^ 32
    let d0 := (d.wrNat (Reg.FLW_TX_SEQ t) (seq + 1)).setFlag (Reg.FLW_TX_STAT t) 0 true
    let built : FlowSend × Dev := match d.txType t with
      | 0 =>
        let ppl := max 1 (d.txPerLine t)
        let ofs := k % ppl * d.txPktBytes t
        let len := min (d.txPktBytes t) (d.dstLineBytes dst - ofs)
        let ppf := d.txPerFrame t
        let field := rasterInter (d.dstRaster dst) && k + 1 == ppf / 2
        (⟨t, seq, frameTs, k + 1 == ppf || field, d.txFrameBytes t (len + 8), .video l ofs len (d.outLine dst l).1⟩, d0)
      | 3 =>
        let sent := if x.ancF = f then x.ancSent else 0
        let items := ancTake 1392 ((d.ancOfFrame dst f).drop sent)
        (⟨t, seq, frameTs, last, d.txFrameBytes t (8 + items.foldl (fun a p => a + ancBytes p.2) 0), .anc items⟩,
          d0.setFlowOut t { x with ancF := f, ancSent := sent + items.length })
      | _ =>
        let n := ptimePeriods (d.txFast t)
        let base := d.live (Reg.FLW_TX_AUD t) 12 0
        let chans := (List.range (d.txChans t)).map fun c => (d.audioSince (base + c) x.sent).take n
        let periods := (List.range n).map fun i => chans.map fun c => c.getD i 0
        let first := d.nowNs * 48000 / 1000000000 + 1 - (d.audioCount - x.sent)
        (⟨t, seq, first % 2 ^ 32, false, d.txFrameBytes t (n * d.txChans t * (if d.txType t = 2 then 4 else 3)), .audio periods⟩,
          d0.setFlowOut t { x with sent := min d.audioCount (x.sent + n) })
    let p := built.1
    let d1 := built.2
    if d1.macPaused m then
      (d1.setMacX m { d1.macX m with held := (d1.macX m).held ++ [(d1.nowNs, p)] }).setFlag (Reg.FLW_TX_STAT t) 1 true
    else if !d1.macLink m then d1.macCount m 17
    else d1.flowSendNow m p

def execFlowPacketTx (t : Fin 4096) (f k l : Nat) (last : Bool) (s : State) := s.onDev fun d => d.flowTx t.val f k l last

/-! ### Commits (R290, R293, R302, R306, R309, R312, R316, R318) -/

/-- Offset ÷ 4 of a register within its page. -/
def regOff (a : Nat) : Nat := a % 0x1000 / 4

/-- Checks of a receive entry on the state after the commits due. -/
def flwRxCheck (e : Dev) (r : Nat) : Option (Nat × Nat) :=
  if !e.rxEn r then none
  else match e.rxEntries.find? fun q => q != r && e.rxKey q == e.rxKey r with
    | some q => some (0x05, min q r)
    | none =>
      if e.rxBindEn r ∧ (e.rxEn (e.rxBind r) && e.rxType (e.rxBind r) == 0 && e.rxTp (e.rxBind r) == e.rxTp r) = false then
        some (0x05, e.rxBind r)
      else
        let q := e.rxPartner r
        if e.rxPair r ∧ (e.rxEn q && q != r && e.rxType q == e.rxType r && e.rxFmt q == e.rxFmt r && e.rxTp q == e.rxTp r &&
            e.rxPt q == e.rxPt r && !e.rxPair q) = false then some (0x05, q)
        else if !e.rxIpv6 r && isMulticast false (e.rxDaddr r) && e.live (Reg.FLW_IFADDR (e.rxMac r)) 31 0 == 0 then
          some (0x01, regOff (Reg.FLW_RX_MAC r))
        else none

/-- Default TRO of a raster, in lines (R308). -/
def defaultTro (total : Nat) : Nat := ceilDiv (43 * total) 1125

/-- TRO of a transmit flow in lines of its destination's raster: the field counts lines of the plane (R308, R309). -/
def Dev.txTro (d : Dev) (t : Nat) : Nat :=
  let tp := d.dstPlane (d.txDst t)
  let v := d.live (Reg.FLW_TX_TRO t) 10 0
  let lines := if v = 0 then defaultTro (d.planeLines tp) else v
  lines * rasterTotal (d.dstRaster (d.txDst t)) / max 1 (d.planeLines tp)

/-- Does the TRO of an enabled video or ANC flow lie after its destination's switch line (R309)? -/
def Dev.txTroOk (d : Dev) (t : Nat) : Bool :=
  !d.txEn t || d.txType t == 1 || d.txType t == 2 || !d.dstEnabled (d.txDst t) ||
    decide (d.switchLine (d.txDst t) < d.txTro t)

/-- Bytes of a pgroup (ST 2110-20; notes/assumptions/16.md). -/
def pgroupBytes : Nat → Nat
  | 0 => 5
  | 1 => 15
  | 3 => 15
  | _ => 9

/-- Wire rate of a transmit flow in bits per second (R316). -/
def Dev.txWireRate (d : Dev) (t : Nat) : Nat :=
  let k := d.txDst t
  let rate := rateMilli (d.planeRate (d.dstPlane k))
  match d.txType t with
  | 0 => ceilDiv (d.txPerFrame t * rate * (d.txFrameBytes t (d.txPktBytes t + 8) + 20) * 8) 1000
  | 3 => ceilDiv (rate * (d.txFrameBytes t 1400 + 20) * 8) 1000
  | y =>
    let n := ptimePeriods (d.txFast t)
    48000 / n * (d.txFrameBytes t (n * d.txChans t * (if y = 2 then 4 else 3)) + 20) * 8

/-- Line rate of a MAC in bits per second. -/
def Dev.macRate (d : Dev) (m : Nat) : Nat :=
  if m = 192 then 1000000000
  else match d.laneRole m with
    | 2 => 10000000000
    | 3 => 25000000000
    | 4 => 100000000000
    | _ => 0

/-- Checks of a transmit entry on the state after the commits due. -/
def flwTxCheck (e : Dev) (t : Nat) : Option (Nat × Nat) :=
  if !e.txEn t then none
  else
    let y := e.txType t
    let pb := e.txPktBytes t
    let n := e.txChans t
    let m := e.txMac t
    if 192 ≤ m then some (0x01, regOff (Reg.FLW_TX_MAC t))
    else if !isMulticast (e.txIpv6 t) (e.txDaddr t) then some (0x01, regOff (Reg.FLW_TX_DADDR0 t))
    else if y = 0 ∧ (pb < 180 ∨ 1400 < pb ∨ pb % pgroupBytes (e.dstSampling (e.txDst t)) ≠ 0) then
      some (0x01, regOff (Reg.FLW_TX_FMT t))
    else if (y = 1 ∨ y = 2) ∧ (n = 0 ∨ (if e.txFast t then 64 else 8) < n) then some (0x01, regOff (Reg.FLW_TX_FMT t))
    else if !e.txTroOk t then some (0x01, regOff (Reg.FLW_TX_TRO t))
    else if e.macRate m * 9 < ((e.txEntries.filter fun q => e.txMac q == m).foldl (fun a q => a + e.txWireRate q) 0) * 10 then
      some (0x02, m)
    else none

/-- Reservations follow the entries: the video flow that an entry binds to is looked at again (R293, R329). -/
def Dev.rxReserve (d : Dev) (r : Nat) : Dev :=
  match (if d.rxHasSrc r then d.srcOf 1 r false else none) with
  | some n => if (d.src n).any (fun (x : Source) => x.rate != d.rxRate r || x.tp != d.rxTp r) then
      d.updSrc n fun x => { x with rate := d.rxRate r, tp := d.rxTp r } else d
  | none => d

/-- Effects of an applied receive entry (R293, R317, R319): its source appears, goes, or starts again when its addresses or
format change; its membership follows. -/
def flwRxEffect (old d : Dev) (r : Nat) : Dev :=
  let sameKey := old.rxEn r == d.rxEn r && old.rxKey r == d.rxKey r && old.rxFmt r == d.rxFmt r && old.rxType r == d.rxType r &&
    old.rxTp r == d.rxTp r
  let had := d.srcOf 1 r false
  let want := d.rxHasSrc r
  let d1 := match had with
    | some n => if want then d else d.removeSrc n
    | none => if want then d.addSrc (Source.fresh 1 r false (d.rxTp r) (d.rxRate r)) else d
  -- a changed entry starts invalid (R319)
  let d2 := if sameKey then d1
    else (d1.setFlowIn r { FlowIn.reset with released := 0 }).setRxStat r 0 0
  let d3 := d2.rxReserve r
  let d4 := if d3.rxBindEn r then d3.rxReserve (d3.rxBind r) else d3
  let d5 := if old.rxBindEn r then d4.rxReserve (old.rxBind r) else d4
  -- membership
  let was := old.rxJoined r
  let now := d5.rxJoined r
  let moved := !sameKey || old.rxMac r != d5.rxMac r
  let d6 := if was && (!now || moved) then
      (if old.macLink (old.rxMac r) then d5.send (.membership (old.rxMac r) (old.rxDaddr r)
        (if old.rxSrcFilt r then some (old.rxSaddr r) else none) true) else d5.macCount (old.rxMac r) 17) else d5
  let d7 := if now && (!was || moved) then (d6.sendMembership r false).updFlowIn r fun x => { x with repeats := 2 } else d6
  (d7.setFlag (Reg.FLW_RX_STAT r) 19 now).rxShow r

/-- Effects of an applied transmit entry: RUNNING shows whether it is enabled (R321). -/
def flwTxEffect (old d : Dev) (t : Nat) : Dev :=
  let d1 := d.setFlag (Reg.FLW_TX_STAT t) 0 (d.txEn t)
  let d2 := if d1.txEn t then d1 else d1.setFlag (Reg.FLW_TX_STAT t) 1 false
  if !old.txEn t && d2.txEn t then d2.setFlowOut t { d2.flowOut t with sent := d2.audioCount } else d2

end Sys2Proof.Machine
end

