-- ==== Sys2Proof/Machine/Filigree.lean ====
section
/-!
DEFINITION. Filigree compositors (spec/13_filigree_compositor.md, R480 to R505): surfaces and the tile-compressed format,
keys and blending, readiness and the late policies, surface loads, and the commit checks of R503.
-/

namespace Sys2Proof.Machine

open Sys2Proof

/-! ### Surfaces (R494 to R497) -/

/-- Format code and, for TILE, the base format. -/
def Surface.format (x : Surface) : Nat := x.num_at 4 1
def Surface.base (x : Surface) : Nat := if x.format = 4 then x.num_at 5 1 else x.format
/-- Stride, offsets of data and of palette or tile table. -/
def Surface.stride (x : Surface) : Nat := x.num_at 12 4
def Surface.dataAt (x : Surface) : Nat := x.num_at 16 4
def Surface.tableAt (x : Surface) : Nat := x.num_at 20 4

/-- Bytes per pixel of a base format (R494). -/
def pixelBytes (fmt : Nat) : Nat := if fmt = 0 then 4 else if fmt = 3 then 1 else 5

/-- Component width of a base format (R495). -/
def compBits (fmt : Nat) : Nat := if fmt = 1 ∨ fmt = 2 then 10 else 8

/-- The components of a packed pixel in ascending bit order. -/
def unpackPx (fmt v : Nat) : List Nat := (List.range 4).map fun c => v / 2 ^ (compBits fmt * c) % 2 ^ compBits fmt

/-- Tiles across and down (R495). -/
def Surface.tilesX (x : Surface) : Nat := ceilDiv x.width 64
def Surface.tilesY (x : Surface) : Nat := ceilDiv x.height 4
def Surface.tiles (x : Surface) : Nat := x.tilesX * x.tilesY

/-- Offset of tile t from the start of tile data. -/
def Surface.tileOfs (x : Surface) (t : Nat) : Nat := x.num_at (x.tableAt + 4 * t) 4

/-- Length of tile t. -/
def Surface.tileLen (x : Surface) (t : Nat) : Nat :=
  if t + 1 = x.tiles then x.length - x.dataAt - x.tileOfs t else x.tileOfs (t + 1) - x.tileOfs t

/-- Bytes of tile t. -/
def Surface.tileBytes (x : Surface) (t : Nat) : List Byte := (x.bytes.drop (x.dataAt + x.tileOfs t)).take (x.tileLen t)

/-- read_bits of R496 on a bit stream held as a number, from bit position `pos`; the first bit read is bit 0. -/
def readBits (stream pos n : Nat) : Nat := stream / 2 ^ pos % 2 ^ n

/-- Ones before the first zero, at most `fuel`. -/
def countOnes (stream : Nat) : (fuel : Nat) → (pos : Nat) → Nat
  | 0, _ => 0
  | fuel + 1, pos => if readBits stream pos 1 = 1 then 1 + countOnes stream fuel (pos + 1) else 0

/-- One component of a DELTA tile (R496): the value read and the position after it; `none` when u is 2^B or more. -/
def deltaComp (b k stream pos pred : Nat) : Option (Nat × Nat) :=
  let n := countOnes stream 16 pos
  let r := if n = 16 then (readBits stream (pos + 16) b, pos + 16 + b)
    else (n * 2 ^ k + readBits stream (pos + n + 1) k, pos + n + 1 + k)
  if 2 ^ b ≤ r.1 then none
  else
    let d : Int := if r.1 % 2 = 0 then (r.1 / 2 : Nat) else -(((r.1 + 1) / 2 : Nat) : Int)
    some ((((pred : Int) + d) % ((2 ^ b : Nat) : Int)).toNat, r.2)

/-- The components of a DELTA tile, in the order of R496, newest first in `acc`: the prediction is the component 4 before
(the pixel to the left), or 256 before (the first pixel of the row above), or 0. -/
def deltaGo (b : Nat) (ks : List Nat) (stream : Nat) : (fuel : Nat) → (i pos : Nat) → (acc : List Nat) → Option (List Nat × Nat)
  | 0, _, pos, acc => some (acc, pos)
  | fuel + 1, i, pos, acc =>
    let pred := if i / 4 % 64 ≠ 0 then acc.getD 3 0 else if i / 256 ≠ 0 then acc.getD 255 0 else 0
    match deltaComp b (ks.getD (i % 4) 0) stream pos pred with
    | none => none
    | some (v, p) => deltaGo b ks stream fuel (i + 1) p (v :: acc)

/-- The 256 pixels of a tile as components, in raster order; `none` for a tile that R497 refuses. -/
def decodeTile (base : Nat) (bytes : List Byte) : Option (List (List Nat)) :=
  let h := natLE (bytes.take 4)
  let pb := pixelBytes base
  let body := bytes.drop 4
  if bytes.length < 4 then none
  else match h % 4 with
    | 0 =>
      if body.length < 256 * pb then none
      else some ((List.range 256).map fun i => unpackPx base (natLE ((body.drop (i * pb)).take pb)))
    | 1 => if body.length < pb then none else some (List.replicate 256 (unpackPx base (natLE (body.take pb))))
    | 2 =>
      let b := compBits base
      let ks := (List.range 4).map fun c => h / 2 ^ (4 + 4 * c) % 16
      if (ks.any fun k => decide (b < k)) || decide (4 + 256 * pb < bytes.length) then none
      else match deltaGo b ks (natLE body) 1024 0 0 [] with
        | none => none
        | some (acc, pos) =>
          if body.length * 8 < pos then none
          else some ((List.range 256).map fun i => (acc.reverse.drop (4 * i)).take 4)
    | _ => none

/-- The checks of R497. -/
def Surface.ok (x : Surface) : Bool :=
  let fmt := x.format
  let n := x.bytes.length
  decide (64 ≤ n) && x.num_at 0 4 == 0x4653525A && decide (fmt ≤ 4) && (if fmt = 4 then decide (x.base ≤ 2) else x.num_at 5 1 == 0) &&
    decide (1 ≤ x.width) && decide (x.width ≤ 4096) && decide (1 ≤ x.height) && decide (x.height ≤ 4320) &&
    x.length == n && x.dataAt % 64 == 0 && x.num_at 60 4 == Config.crc32 ((x.bytes.take 60) ++ x.bytes.drop 64) &&
    (if fmt = 4 then
      x.stride == 0 && (List.range x.tiles).all fun t =>
        x.tileOfs t % 4 == 0 && (decide (t + 1 = x.tiles) || decide (x.tileOfs t < x.tileOfs (t + 1))) &&
          decide (x.dataAt + x.tileOfs t ≤ n) && (decodeTile x.base (x.tileBytes t)).isSome
    else
      x.stride % 64 == 0 && decide (x.width * pixelBytes fmt ≤ x.stride) && decide (x.dataAt + x.stride * x.height ≤ n) &&
        (decide (fmt ≠ 3) || decide (x.tableAt + 1024 ≤ n)))

/-- The components of pixel (px, py) of a surface in ascending bit order, an index looked up in its palette (R494). -/
def Surface.pixel (x : Surface) (px py : Nat) : List Nat :=
  if x.format = 4 then
    ((decodeTile x.base (x.tileBytes (py / 4 * x.tilesX + px / 64))).getD []).getD (py % 4 * 64 + px % 64) []
  else
    let pb := pixelBytes x.format
    let v := x.num_at (x.dataAt + py * x.stride + px * pb) pb
    if x.format = 3 then unpackPx 0 (x.num_at (x.tableAt + 4 * v) 4) else unpackPx x.format v

/-! ### Conversion, keys and blending (R488 to R490) -/

/-- Widen a component by bit replication. -/
def widen (v fromB toB : Nat) : Nat := if toB ≤ fromB then v else v * 2 ^ (toB - fromB) + v / 2 ^ (2 * fromB - toB)

/-- Sampling family and depth of an output. -/
def outRgb (sampling : Nat) : Bool := sampling == 3 || sampling == 4
def outBits (sampling : Nat) : Nat := bitsPerWord sampling

/-- A surface pixel converted to the output's family, depth and range (R488): `color` and `full` are the output's. -/
def Surface.px (x : Surface) (sampling color : Nat) (full : Bool) (u v : Nat) : Px :=
  let c := x.pixel u v
  let base := if x.format = 3 then 0 else x.base
  let b := compBits base
  let ob := outBits sampling
  let w := fun i => widen (c.getD i 0) b ob
  let rgb := base != 2
  let own := x.num_at 28 1
  let srcFull := if rgb then true else own / 64 % 2 == 1
  let t : Nat × Nat × Nat := if rgb then (w 2, w 1, w 0) else (w 0, w 1, w 2)
  let t1 := if rgb = outRgb sampling ∧ srcFull = full then t
    else Config.convert rgb (if rgb then color else own % 16) srcFull (outRgb sampling) full ob t
  ⟨t1.1, t1.2.1, t1.2.2, widen (c.getD 3 0) b 10⟩

/-- Y, Cb, Cr of a pixel scaled to 10 bits, for the keys (R490). -/
def keyYcc (sampling color : Nat) (full : Bool) (p : Px) : Nat × Nat × Nat :=
  let t := if outRgb sampling then Config.convert true color full false full (outBits sampling) (p.c0, p.c1, p.c2)
    else (p.c0, p.c1, p.c2)
  if outBits sampling = 12 then (t.1 / 4, t.2.1 / 4, t.2.2 / 4) else t

/-- k of R490 from d, SOFT and KEY_INV. -/
def keyAlpha (d : Int) (soft : Nat) (inv : Bool) : Nat :=
  let k : Nat := if soft = 0 then (if 0 ≤ d then 1023 else 0)
    else (max 0 (min 1023 ((d * 1023).tdiv (soft : Int)))).toNat
  if inv then 1023 - k else k

/-- One blending step of R489 on one component. -/
def blendComp (alpha layer below : Nat) : Nat := (alpha * layer + (1023 - alpha) * below + 511) / 1023

/-- Alpha of a layer's pixel (R489): per-pixel alpha, GALPHA and the key's k. -/
def blendAlpha (a10 g k : Nat) : Nat := ((a10 * g + 511) / 1023 * k + 511) / 1023

/-- Key alpha of layer l of compositor n for a pixel. -/
def Dev.layerKey (d : Dev) (n l : Nat) (p : Px) : Nat :=
  let cfg := Reg.FIL_L_CFG n l
  let key := d.live cfg 9 8
  let t := keyYcc (d.filSampling n) (d.live (Reg.FIL_OUT_COLOR n) 3 0) (d.liveFlag (Reg.FIL_OUT_COLOR n) 6) p
  let a := d.live (Reg.FIL_L_KEY0 n l) 9 0
  let soft := d.live (Reg.FIL_L_KEY1 n l) 9 0
  let inv := d.liveFlag cfg 10
  match key with
  | 2 => keyAlpha ((t.1 : Int) - a) soft inv
  | 3 =>
    let cb : Int := (t.2.1 : Int) - a
    let cr : Int := (t.2.2 : Int) - d.live (Reg.FIL_L_KEY0 n l) 19 10
    keyAlpha ((max cb.natAbs cr.natAbs : Nat) - (d.live (Reg.FIL_L_KEY0 n l) 29 20 : Int)) soft inv
  | _ => if inv then 0 else 1023

/-- One layer's pixel applied on the result below it (R489). -/
def Dev.blendPx (d : Dev) (n l : Nat) (p below : Px) : Px :=
  let a10 := if d.live (Reg.FIL_L_CFG n l) 9 8 = 1 then p.a else 1023
  let al := blendAlpha a10 (d.live (Reg.FIL_L_ALPHA n l) 9 0) (d.layerKey n l p)
  ⟨blendComp al p.c0 below.c0, blendComp al p.c1 below.c1, blendComp al p.c2 below.c2, below.a⟩

/-- The background in the output's family and depth (R489, FS_DSTe_FIELD's layout). -/
def Dev.filBg (d : Dev) (n : Nat) : Px :=
  let r := Reg.FIL_OUT_BG n
  let s := if outBits (d.filSampling n) = 12 then 4 else 1
  if outRgb (d.filSampling n) then ⟨d.live r 29 20 * s, d.live r 9 0 * s, d.live r 19 10 * s, 1023⟩
  else ⟨d.live r 9 0 * s, d.live r 19 10 * s, d.live r 29 20 * s, 1023⟩

/-- Position of a layer (R486). -/
def Dev.layerX (d : Dev) (n l : Nat) : Int := toSigned 14 (d.live (Reg.FIL_L_POS n l) 13 0)
def Dev.layerY (d : Dev) (n l : Nat) : Int := toSigned 14 (d.live (Reg.FIL_L_POS n l) 29 16)

/-- What layer l shows at output sample (x, y): its pixel where its rectangle covers the sample. A surface at factor 1 is
read directly; any other layer's pixels are those its scaler delivers. -/
def Dev.layerPx (d : Dev) (n l : Nat) (sh : LayerShow) (given : List (List Px)) (x y : Nat) : Option Px :=
  let u := (x : Int) - d.layerX n l
  let v := (y : Int) - d.layerY n l
  if u < 0 ∨ v < 0 ∨ (d.layerW n l : Int) ≤ u ∨ (d.layerH n l : Int) ≤ v then none
  else
    let fromList := fun (g : List (List Px)) => (g[v.toNat]?).bind fun row => row[u.toNat]?
    match sh with
    | .live px => fromList (if given = [] then px else given)
    | .surface m =>
      match d.surface m with
      | none => none
      | some s =>
        if s.width = d.layerW n l ∧ s.height = d.layerH n l then
          some (s.px (d.filSampling n) (d.live (Reg.FIL_OUT_COLOR n) 3 0) (d.liveFlag (Reg.FIL_OUT_COLOR n) 6) u.toNat v.toNat)
        else fromList given

/-- Enabled layers of a compositor by ascending Z (R487). -/
def Dev.layersByZ (d : Dev) (n : Nat) : List Nat :=
  (List.range 8).filterMap fun z => (List.range 8).find? fun l => d.layerOn n l && d.live (Reg.FIL_L_CFG n l) 6 4 == z

/-- The output sample (x, y) before chroma subsampling. -/
def Dev.filPx (d : Dev) (n : Nat) (shown : List (Nat × LayerShow)) (given : Nat → List (List Px)) (x y : Nat) : Px :=
  (d.layersByZ n).foldl (fun below l =>
    match (shown.find? fun p => p.1 == l).bind fun p => d.layerPx n l p.2 (given l) x y with
    | none => below
    | some p => d.blendPx n l p below) (d.filBg n)

/-- Chroma at an even position: [1, 2, 1] ÷ 4 across the line, the edge pixel repeated (R489). -/
def chroma121 (c : List Nat) (x : Nat) : Nat :=
  let at_ := fun i => c.getD (min i (c.length - 1)) 0
  (at_ (x - 1) + 2 * at_ x + at_ (x + 1)) / 4

/-- Sample words of a line in the order of R235. -/
def filWords (sampling : Nat) (l : List Px) : List Nat :=
  if sampling = 0 then
    l.zipIdx.flatMap fun p =>
      if p.2 % 2 = 0 then [chroma121 (l.map Px.c1) p.2, p.1.c0] else [chroma121 (l.map Px.c2) (p.2 - 1), p.1.c0]
  else if outRgb sampling then l.flatMap fun p => [p.c0, p.c1, p.c2]
  else l.flatMap fun p => [p.c1, p.c0, p.c2]

/-! ### Compositors -/

/-- A compositor beyond its registers. -/
def Dev.filX (d : Dev) (n : Nat) : FilX := Sparse.get (fun _ => FilX.reset) d.fil n
/-- Replace it. -/
def Dev.setFilX (d : Dev) (n : Nat) (x : FilX) : Dev := { d with fil := Sparse.set (fun _ => FilX.reset) d.fil n x }

/-- SRC of a compositor's output. -/
def Dev.filSrc (d : Dev) (n : Nat) : Option Nat := d.srcOf 3 n false

/-- Source of the layer that AUD_LAYER names, when AUD_EN is set (R484). -/
def Dev.filAudioSrc (d : Dev) (n : Nat) : Option Nat :=
  let l := d.live (Reg.FIL_OUT_CFG n) 18 16
  if d.liveFlag (Reg.FIL_OUT_CFG n) 19 && d.layerOn n l && !d.layerSurface n l then (d.dst (d.layerDst n l)).src else none

/-- Descriptor of a compositor's output (R480, R484). -/
def Dev.filDesc (d : Dev) (n src : Nat) : Desc :=
  let r := d.filRaster n
  let rate := d.planeRate (d.filPlane n)
  let a := ((d.filAudioSrc n).bind d.src).bind Source.desc
  { width := rasterWidth r, lines := rasterLines r, total := rasterTotal r, spl := rasterSpl r rate, rate := rate,
    interlaced := rasterInter r, psf := (rasterOf r).2.2.2.2, tp := d.filPlane n, sampling := d.filSampling n,
    color := d.live (Reg.FIL_OUT_COLOR n) 3 0, xfer := d.live (Reg.FIL_OUT_COLOR n) 5 4,
    fullRange := d.liveFlag (Reg.FIL_OUT_COLOR n) 6, audio := (a.map Desc.audio).getD 0, anc := (a.map Desc.anc).getD false,
    groupSize := 1, member := 0, square := false, kind := 3, lead := src,
    cells := cellsPerLine (rasterWidth r) (d.filSampling n), seq := 0 }

/-- Reservation of a compositor's output (R329): its format with the audio and ANC of its descriptor. -/
def Dev.filRate (d : Dev) (n : Nat) : Nat :=
  let y := d.filDesc n 0
  cellRate y.width y.lines y.total y.rate y.sampling y.audio y.anc

/-- Is a surface in DRAM and ready? -/
def Dev.surfReady (d : Dev) (m : Nat) : Bool := d.engines.resident.any fun r => r.num == m && r.ready

/-- Swages that serve a layer: those bound to it in SWG_BIND with LAYER set. -/
def Dev.layerSwageList (d : Dev) (n l : Nat) : List Nat :=
  (List.range 32).filter fun g => d.swageUsable g && d.liveFlag (Reg.SWG_CFG g) 0 && d.liveFlag (Reg.SWG_BIND g) 11 &&
    d.live (Reg.SWG_BIND g) 10 0 == d.layerDst n l

/-- Is a live layer's Swage unplaced (R500)? -/
def Dev.layerNoEngine (d : Dev) (n l : Nat) : Bool :=
  !d.layerSurface n l && decide ((d.layerSwageList n l).length < (d.layerSwages n l).getD 0)

/-- The pinned Swage of a live layer whose input, the destination's raster, is not what it is set for (R472, R485). -/
def Dev.layerMismatch (d : Dev) (n l : Nat) : Option Nat :=
  let r := d.dstRaster (d.layerDst n l)
  if d.layerSurface n l then none
  else d.pinnedWrong (d.layerDst n l) true (rasterWidth r) (lineCount (rasterLines r) (rasterInter r)) (rasterInter r)

/-- Is a live layer's source of another colorimetry or transfer than the output (R488)? -/
def Dev.layerMix (d : Dev) (n l : Nat) : Bool :=
  !d.layerSurface n l &&
    match ((d.dst (d.layerDst n l)).src.bind d.src).bind Source.desc with
    | some y => y.color != d.live (Reg.FIL_OUT_COLOR n) 3 0 || y.xfer != d.live (Reg.FIL_OUT_COLOR n) 5 4
    | none => false

/-- Is a layer ready (R500)? -/
def Dev.layerReady (d : Dev) (n l : Nat) : Bool :=
  if d.layerSurface n l then d.surfReady (d.live (Reg.FIL_L_SURF n l) 15 0)
  else d.srcValid (d.dst (d.layerDst n l)).src && !d.layerNoEngine n l

/-- What each enabled layer shows in a frame (R501): a ready layer its own source, one that is not ready what it showed last
under HOLD, and nothing under OMIT. -/
def Dev.layerShown (d : Dev) (n : Nat) (given : Nat → List (List Px)) : List (Nat × LayerShow) :=
  ((List.range 8).filter (d.layerOn n)).filterMap fun l =>
    if d.layerReady n l then
      some (l, if d.layerSurface n l then .surface (d.live (Reg.FIL_L_SURF n l) 15 0) else .live (given l))
    else if d.live (Reg.FIL_L_CFG n l) 13 12 = 0 then (d.filX n).held.find? fun p => p.1 == l
    else none

/-- FIL_Ll_STAT of every layer. -/
def Dev.filLayerStat (d : Dev) (n : Nat) : Dev :=
  (List.range 8).foldl (fun a l =>
    let sw := a.layerSwageList n l
    let on := a.layerOn n l
    let rdy := on && a.layerReady n l
    let held := on && !rdy && a.live (Reg.FIL_L_CFG n l) 13 12 == 0 && ((a.filX n).held.any fun p => p.1 == l)
    let surf := a.layerSurface n l
    a.wrNat (Reg.FIL_L_STAT n l) (if on then
      b2n rdy + (if surf then 0 else b2n (decide (sw ≠ [])) * 2 + b2n (decide (1 < sw.length)) * 4) + b2n held * 8 +
        b2n (surf && !rdy) * 16 + (if surf then 0 else sw.getD 0 0 * 65536 + sw.getD 1 0 * 16777216) else 0)) d

/-- Bring the descriptor and reservation of a compositor's output up to date before frame f. -/
def Dev.filRedesc (d : Dev) (n src f : Nat) : Dev :=
  let y := d.filDesc n src
  let d1 := d.updSrc src fun x => { x with rate := d.filRate n, tp := d.filPlane n }
  match (d1.src src).bind Source.desc with
  | some o => if { y with seq := o.seq } = o then d1 else d1.setDesc src y f 1
  | none => d1.setDesc src y f 1

/-- The cells of frame f: each active line of the raster, from the line payloads. -/
def filCells (tp f : Nat) (l : List (Nat × List (List Byte))) : List Cell :=
  l.zipIdx.flatMap fun p => lineCells 0 tp f p.1.1 (p.2 == 0) (p.2 + 1 == l.length) false p.1.2

/-- A frame of a compositor at its switch line (R480, R486 to R490, R500, R501). -/
def Dev.filCompose (d : Dev) (n f : Nat) (x : FilFrame) : Dev :=
  match d.filSrc n with
  | none => d
  | some src =>
    if !d.filEnabled n || !d.dataRuns || !d.planeOn (d.filPlane n) then d
    else
      let given := fun l => ((x.layers.find? fun p => p.1.val == l).map Prod.snd).getD []
      let on := (List.range 8).filter (d.layerOn n)
      let late := on.filter fun l => !d.layerReady n l
      let mask := late.foldl (fun a l => a + 2 ^ l) 0
      let shown := d.layerShown n given
      let block := (late.any fun l => d.live (Reg.FIL_L_CFG n l) 13 12 == 2) && decide ((d.filX n).last ≠ [])
      let w := rasterWidth (d.filRaster n)
      let lines := if block then (d.filX n).last else
        x.lines.zipIdx.map fun (p : Nat × Nat) =>
          (p.1, packLine (d.filSampling n)
            (filWords (d.filSampling n) ((List.range w).map fun u => d.filPx n shown given u p.2))
            (cellsPerLine w (d.filSampling n)))
      let held := (on.filterMap fun l =>
        if d.layerReady n l then shown.find? fun p => p.1 == l else (d.filX n).held.find? fun p => p.1 == l)
      let d1 := (d.setFilX n ⟨held, lines⟩).filRedesc n src f
      let d2 := match (d1.src src).bind Source.desc with
        | some y => d1.writeCell src (descCell y f 1)
        | none => d1
      let d3 := (d2.writeCells src (filCells (d.filPlane n) f lines)).updSrc src fun x => { x with valid := true, everValid := true }
      let page := Reg.pageFIL n
      let d4 := if late = [] then d3
        else
          let e := ((d3.bump (Reg.FIL_LATE_CNT n) 31 0).raise page 1 mask)
          late.foldl (fun a l => a.stickyOnly page (8 + l)) e
      let d5 := if on.any (d.layerMix n) then d4.raise page 2 0 else d4
      let d6 := (on.filterMap (d.layerMismatch n)).foldl (fun a g => a.raise (Reg.pageSWG g) 1 0)
        (if on.any (d.layerNoEngine n) then d5.raise page 4 mask else d5)
      let was := d.flag (Reg.FIL_OUT_STAT n) 11
      let d7 := (d6.wrNat (Reg.FIL_OUT_STAT n) (src + 1024 + 2048 + mask * 65536)).filLayerStat n
      if was then d7 else d7.statusIrq page 16

def execFilCompose (n : Fin 16) (f : Nat) (x : FilFrame) (s : State) := s.onDev fun d => d.filCompose n.val f x

/-! ### Surface loads (R498) -/

/-- Pages armed on a slot, with the device time of its coordinate. -/
def Dev.armedPages (d : Dev) : List (Nat × Nat) :=
  d.hostif.commits.filterMap fun c =>
    match c.slot with
    | some k =>
      some (c.page, d.instantOf ⟨d.fld (Reg.SYS_CSLOT_F_HI k) 18 16, d.fld (Reg.SYS_CSLOT_F_LO k) 31 0 +
        d.fld (Reg.SYS_CSLOT_F_HI k) 15 0 * 2 ^ 32, max 1 (d.fld (Reg.SYS_CSLOT_LS k) 12 0), d.fld (Reg.SYS_CSLOT_LS k) 29 16⟩)
    | none => some (c.page, d.time)

/-- Surfaces that the shadow fields of a page name: enabled surface layers of a FIL page, loss surfaces of an FS_DST page. -/
def Dev.shadowSurfaces (d : Dev) (page : Nat) : List Nat :=
  match pageType page with
  | 0x17 =>
    let n := page - 0x40
    if d.flag (Reg.FIL_OUT_CFG n) 0 then
      ((List.range 8).filter fun l => d.flag (Reg.FIL_L_CFG n l) 0 && d.flag (Reg.FIL_L_CFG n l) 1).map fun l =>
        d.fld (Reg.FIL_L_SURF n l) 15 0
    else []
  | 0x1F =>
    let b := (page - 0x680) * 16
    ((List.range 16).filter fun e => d.fld (Reg.FS_DST_CFG (b + e)) 2 1 == 2).map fun e => d.fld (Reg.FS_DST_SURF (b + e)) 31 0
  | _ => []

/-- Surfaces wanted in DRAM with the instant they are wanted for: named by applied commits and loss policies, by commits
requested or armed, and those a layer under HOLD still shows. -/
def Dev.surfWanted (d : Dev) : List (Nat × Nat) :=
  (d.namedSurfaces ++ d.hie.surfs).map (fun m => (m, 0)) ++
    d.armedPages.flatMap (fun p => (d.shadowSurfaces p.1).map fun m => (m, p.2)) ++
    d.layers.filterMap fun p =>
      match (d.filX p.1).held.find? fun h => h.1 == p.2 with
      | some (_, .surface m) => if d.layerReady p.1 p.2 then none else some (m, 0)
      | _ => none

/-- Start queued loads in the order of their commit coordinates, at most 8 at once. -/
def startLoads : (fuel : Nat) → List Resident → List Resident
  | 0, l => l
  | fuel + 1, l =>
    if 8 ≤ (l.filter fun r => r.started && !r.ready).length then l
    else
      let next := (l.filter fun r => !r.started).foldl (fun (a : Option Resident) r =>
        match a with
        | none => some r
        | some b => if r.due < b.due then some r else a) none
      match next with
      | none => l
      | some r => startLoads fuel (l.map fun y => if y.num = r.num then { y with started := true } else y)

/-- Loads and evictions after a change of what is named: surfaces nobody names leave, new ones queue (R498). -/
def Dev.surfRefresh (d : Dev) : Dev :=
  let want := d.surfWanted
  let keep := d.engines.resident.filter fun r => want.any fun p => p.1 == r.num
  let new := (want.filter fun p => (d.surface p.1).isSome).foldl (fun (acc : List Resident) p =>
    if acc.any fun r => r.num == p.1 then acc else acc ++ [⟨p.1, false, false, p.2⟩]) keep
  { d with engines := { d.engines with resident := startLoads 8 new } }

/-- A load ends: the surface is checked again (R497); a good one is ready, a bad one leaves the queue. -/
def Dev.surfLoaded (d : Dev) (m : Nat) : Dev :=
  if d.engines.resident.any fun r => r.num == m && r.started && !r.ready then
    let good := ((d.surface m).map Surface.ok).getD false
    let l := d.engines.resident.filterMap fun r =>
      if r.num = m then (if good then some { r with ready := true } else none) else some r
    { d with engines := { d.engines with resident := startLoads 8 l } }
  else d

def execSurfaceLoadDone (num : Fin 65536) (s : State) := s.onDev fun d => d.surfLoaded num.val

/-! ### Commits (R480 to R485, R491 to R493, R499, R502, R503) -/

/-- Is destination k bound to an exit: an SDI output, a transmit flow or a compositor's binding? -/
def Dev.dstHasExit (e : Dev) (k : Nat) : Bool :=
  ((List.range 192).any fun n => e.sdiTxOn n && e.sdiTxDst n == k) ||
    (e.txEntries.any fun t => e.live (Reg.FLW_TX_CFG t) 18 8 == k) ||
    (List.range 16).any fun n => e.filEnabled n &&
      ((e.liveFlag (Reg.FIL_OUT_BIND n) 15 && e.live (Reg.FIL_OUT_BIND n) 10 0 == k) ||
       (e.liveFlag (Reg.FIL_OUT_BIND n) 31 && e.live (Reg.FIL_OUT_BIND n) 26 16 == k))

/-- Live layers that name destination k. -/
def Dev.dstLayers (e : Dev) (k : Nat) : List (Nat × Nat) :=
  e.layers.filter fun p => !e.layerSurface p.1 p.2 && e.layerDst p.1 p.2 == k

/-- Destinations bound to a compositor (R483). -/
def Dev.filBinds (e : Dev) (n : Nat) : List Nat :=
  (if e.liveFlag (Reg.FIL_OUT_BIND n) 15 then [e.live (Reg.FIL_OUT_BIND n) 10 0] else []) ++
    (if e.liveFlag (Reg.FIL_OUT_BIND n) 31 then [e.live (Reg.FIL_OUT_BIND n) 26 16] else [])

/-- Size and scan of what a layer's scaler reads: the destination's raster, or the surface. -/
def Dev.layerSource (e : Dev) (n l : Nat) : Nat × Nat :=
  if e.layerSurface n l then
    match e.surface (e.live (Reg.FIL_L_SURF n l) 15 0) with
    | some s => (s.width, s.height)
    | none => (0, 0)
  else (rasterWidth (e.dstRaster (e.layerDst n l)), rasterLines (e.dstRaster (e.layerDst n l)))

/-- Checks of one enabled layer. -/
def Dev.layerCheck (e : Dev) (n l : Nat) : Option (Nat × Nat) :=
  let cfg := Reg.FIL_L_CFG n l
  let k := e.layerDst n l
  let w := e.layerW n l
  let h := e.layerH n l
  let sz := (0x10C + 0x40 * l) / 4
  let src := e.layerSource n l
  let surf := e.layerSurface n l
  let scan := !surf && rasterInter (e.dstRaster k) != rasterInter (e.filRaster n)
  if w = 0 ∨ 4096 < w ∨ h = 0 ∨ 4320 < h then some (0x01, sz)
  else if !surf && (!e.dstEnabled k || e.dstPlane k != e.filPlane n || e.dstHasExit k || decide ((e.dstLayers k).length ≠ 1)) then
    some (0x0A, 0x52)
  else if surf && !(((e.surface (e.live (Reg.FIL_L_SURF n l) 15 0)).map Surface.ok).getD false) then some (0x0A, 0x53)
  else if !surf && e.live cfg 9 8 == 1 then some (0x0A, 0x55)
  else if !pixelsOk e.opPct w h (e.planeRate (e.filPlane n)) then some (0x02, 2)
  else if !scan && layerFits src.1 src.2 w h then none
  else if !surf && (e.liveFlag cfg 14 || !(e.pinnedAt k true).isEmpty) then (if (e.layerSwages n l).isSome then none else some (0x02, 2))
  else if scan then some (0x0A, 0x54)
  else if 12 < layerRows src.2 h then some (0x04, n * 8 + l)
  else some (0x01, sz)

/-- Checks of a FIL commit on compositor n: `e` is the state after the commits due. -/
def filCheck (e : Dev) (n : Nat) : Option (Nat × Nat) :=
  if !e.filEnabled n then none
  else
    let on := (List.range 8).filter (e.layerOn n)
    let z := fun l => e.live (Reg.FIL_L_CFG n l) 6 4
    let al := e.live (Reg.FIL_OUT_CFG n) 18 16
    let r := e.filRaster n
    if r = 7 ∨ e.filSampling n > 4 then some (0x01, 0x10)
    else if !e.planeOn (e.filPlane n) then some (0x01, 0x10)
    else if on.length < 2 then some (0x0A, 0x51)
    else if !pixelsOk e.opPct (rasterWidth r) (rasterLines r) (e.planeRate (e.filPlane n)) then some (0x02, 2)
    else if e.liveFlag (Reg.FIL_OUT_CFG n) 19 && (!e.layerOn n al || e.layerSurface n al) then some (0x01, 0x10)
    else match on.find? fun l => on.any fun m => decide (l < m) && z l == z m with
      | some l => some (0x05, l)
      | none =>
        match on.findSome? (e.layerCheck n) with
        | some c => some c
        | none =>
          if (e.filBinds n).any (fun k => !e.dstEnabled k || decide (e.dstLayers k ≠ [])) then some (0x0A, 0x52)
          else if ((List.range 32).filter fun g => e.swageUsable g).length < e.swagesUsed then some (0x02, 2)
          else if e.budgetBroken.isSome then some (0x02, 3)
          else none

/-- The trace of a checked configuration: FIL_LBUF for the layer with the most rows, and LBUF_SHORT on a refusal for rows
(R493). -/
def filChecked (d e : Dev) (n : Nat) : Dev :=
  if !e.filEnabled n then d
  else
    let rows := fun l => layerRows (e.layerSource n l).2 (e.layerH n l)
    match filCheck e n with
    | some (0x04, det) =>
      ((d.wrNat (Reg.FIL_LBUF n) (min 127 (rows (det % 8)) + 12 * 256 + det % 8 * 65536)).raise (Reg.pageFIL n) 0 det)
    | _ =>
      match ((List.range 8).filter (e.layerOn n)).foldl (fun (a : Option Nat) l =>
          match a with
          | none => some l
          | some b => if rows b < rows l then some l else a) none with
      | some l => d.wrNat (Reg.FIL_LBUF n) (min 127 (rows l) + 12 * 256 + l * 65536)
      | none => d

/-- Configure the Swages of live layer l (R492): those it has, then the first usable free pages, scaling to W × H. -/
def Dev.placeLayer (d : Dev) (n l : Nat) : Dev :=
  let put := fun (a : Dev) (r v : Nat) => (a.wrNat r v).wrNat (r + 0x800) v
  let k := d.layerDst n l
  let had := d.layerSwageList n l
  let d1 := had.foldl (fun a g => (put a (Reg.SWG_CFG g) 0).wrNat (Reg.SWG_STAT g) 0) d
  let free := had ++ (List.range 32).filter fun g => d1.swageUsable g && !d1.liveFlag (Reg.SWG_CFG g) 0 && !had.contains g
  let r := d.dstRaster k
  let oi := rasterInter (d.filRaster n)
  let rate := d.planeRate (d.filPlane n)
  let lI := lineCount (rasterLines r) (rasterInter r)
  let lO := lineCount (d.layerH n l) oi
  let conf := fun (a : Dev) (g mode w h w2 h2 stage2 from_ : Nat) =>
    let a1 := put a (Reg.SWG_CFG g) (1 + mode * 2 + d.live (Reg.FS_DST_CFG k) 5 4 * 8)
    let a2 := put a1 (Reg.SWG_BIND g) (k + 2048 + stage2 * 4096 + from_ * 65536)
    let a3 := put (put a2 (Reg.SWG_IN_SIZE g) (w + h * 65536)) (Reg.SWG_OUT_SIZE g) (w2 + h2 * 65536)
    (((a3.wrNat (Reg.SWG_STAT g) (3 + b2n (decide (h ≤ 2 * h2)) * 8)).wrNat (Reg.SWG_LBUF g)
      (swageRows h h2 + swageHas w * 256))).wrNat (Reg.SWG_RATE g)
        (w * h * rateMilli rate / 1000000000 + w2 * h2 * rateMilli rate / 1000000000 * 65536)
  match (d.layerSwages n l).getD 0, free, placeScale d.opPct (d.chainOk k) rate (rasterWidth r) lI (d.layerW n l) lO with
  | 1, g :: _, some _ => conf d1 g (swageMode (rasterInter r) oi) (rasterWidth r) lI (d.layerW n l) lO 0 0
  | 2, g :: g2 :: _, some (_, wM, hM) =>
    conf (conf d1 g (swageMode (rasterInter r) oi) (rasterWidth r) lI wM hM 0 0) g2 (if oi then 1 else 0) wM hM
      (d.layerW n l) lO 1 g
  | _, _, _ => d1

/-- Release the Swages of layers that compositor n no longer has. -/
def Dev.releaseLayers (old d : Dev) (n : Nat) : Dev :=
  (List.range 8).foldl (fun a l =>
    if old.layerOn n l && !old.layerSurface n l && decide (a.dstLayers (old.layerDst n l) = []) then
      (old.layerSwageList n l).foldl (fun b g =>
        ((b.wrNat (Reg.SWG_CFG g) 0).wrNat (Reg.SWG_CFG g + 0x800) 0).wrNat (Reg.SWG_STAT g) 0) a
    else a) d

/-- Effect of an applied FIL commit (R480, R483, R484, R492, R504): the output's source, the layers' Swages, the bindings
that come and go, and the status. -/
def filEffect (old d : Dev) (n : Nat) : Dev :=
  let on := d.filEnabled n
  let d1 := match d.filSrc n with
    | none => if on then d.addSrc (Source.fresh 3 n false (d.filPlane n) (d.filRate n)) else d
    | some s =>
      if on then d.updSrc s fun x => { x with tp := d.filPlane n, rate := d.filRate n }
      else (d.removeSrc s).setFilX n FilX.reset
  let d2 := d1.releaseLayers old n
  let d3 := if on then ((List.range 8).filter fun l => d.layerOn n l && !d.layerSurface n l).foldl (fun a l => a.placeLayer n l) d2
    else d2
  let was := if old.filEnabled n then old.filBinds n else []
  let now := if on then d.filBinds n else []
  let d4 := (was.filter fun k => !now.contains k).foldl (fun a k => a.releaseRequest k 1 2 0 .none_) d3
  let d5 := match d4.filSrc n with
    | none => d4
    | some s => (now.filter fun k => !was.contains k).foldl (fun a k =>
        (a.takeRequest k (some s) none (a.dstPlane k) 2 0 .none_ none).holdRequest k 1 2 0 .none_) d4
  let ran := d.flag (Reg.FIL_OUT_STAT n) 11
  let d6 := match d5.filSrc n with
    | some s => d5.wrNat (Reg.FIL_OUT_STAT n) (s + 1024 + (if ran then 2048 else 0) + d.fld (Reg.FIL_OUT_STAT n) 23 16 * 65536)
    | none => d5.wrNat (Reg.FIL_OUT_STAT n) 0
  let d7 := if ran && !on then d6.statusIrq (Reg.pageFIL n) 16 else d6
  let mine := (d7.layers.filter fun p => p.1 == n && d7.layerSurface p.1 p.2).map fun p =>
    ((d7.surface (d7.live (Reg.FIL_L_SURF p.1 p.2) 15 0)).map Surface.length).getD 0
  let copies := ({ d7 with regs := d7.regs.filter fun p => !(decide (0x40000 ≤ p.1) && decide (p.1 < 0x50000) &&
    decide (p.1 / 0x1000 ≠ 0x40 + n)) } : Dev).copyCost
  let rate := rateMilli (d7.planeRate (d7.filPlane n))
  ((((d7.wrNat (Reg.FIL_BW n) (ceilDiv (mine.foldl (fun a b => a + b * rate / 1000) 0 + copies.2) 1000000)).wrNat (Reg.FIL_EXT n)
    (mine.foldl (fun a b => a + ceilDiv b extentBytes) 0 + copies.1)).filLayerStat n).surfRefresh).fsRefresh.hrtRefresh

end Sys2Proof.Machine
end

