-- ==== Sys2Proof/Machine/Audio.lean ====
section
/-!
DEFINITION. The audio matrix (spec/14_audio_matrix.md, R506 to R538): input ranges, sums and coefficients, follow, the gain
classes, data bursts, output delays, silence, and the commit checks.
-/

namespace Sys2Proof.Machine

open Sys2Proof

/-! ### Inputs (R506 to R509) -/

/-- A matrix input beyond its registers. -/
def Dev.audIn (d : Dev) (i : Nat) : AudIn := Sparse.get (fun _ => AudIn.reset) d.audio.ins i
/-- Replace it. -/
def Dev.setAudIn (d : Dev) (i : Nat) (x : AudIn) : Dev :=
  { d with audio := { d.audio with ins := Sparse.set (fun _ => AudIn.reset) d.audio.ins i x } }
/-- A matrix output beyond its registers. -/
def Dev.audOut (d : Dev) (o : Nat) : AudOut := Sparse.get (fun _ => AudOut.reset) d.audio.outs o
/-- Replace it. -/
def Dev.setAudOut (d : Dev) (o : Nat) (x : AudOut) : Dev :=
  { d with audio := { d.audio with outs := Sparse.set (fun _ => AudOut.reset) d.audio.outs o x } }

/-- Is an audio port enabled; does it run at 96 kHz; its slots in each direction (R539, R541)? -/
def Dev.aptEn (d : Dev) (p : Nat) : Bool := d.liveFlag (Reg.APT_CFG p) 0
def Dev.apt96 (d : Dev) (p : Nat) : Bool := d.liveFlag (Reg.APT_CFG p) 12
def Dev.aptSlots (d : Dev) (p : Nat) : Nat := if d.liveFlag (Reg.APT_CFG p) 2 then 2 else d.live (Reg.APT_CFG p) 9 4

/-- Channels of the range that an SDI input owns (R237, R506): those of the fastest interface it may hunt, over the
contributing members of its group (notes/assumptions/17.md). -/
def Dev.sdiRange (d : Dev) (n : Nat) : Nat :=
  let one := fun (m : Nat) => match firstHuntStep (d.huntMask m) with
    | 0 => 32
    | 1 => 32
    | 2 => 16
    | 3 => 16
    | _ => 0
  if !d.sdiGrouped n then one n
  else if (d.sdiGroupOf n).1 ≠ n then 0
  else min 128 (((List.range 4).filter fun i => d.sdiContributes n i).foldl
    (fun a i => a + one ((d.sdiMembersOf n).getD i 0)) 0)

/-- Every range of matrix inputs in use: first input and count; the pool last (R506 to R508, R543). -/
def Dev.inputRanges (d : Dev) : List (Nat × Nat) :=
  ((List.range 192).filter d.sdiWanted).map (fun n => (d.live (Reg.SDI_RX_AUD n) 12 0, d.sdiRange n)) ++
    ((d.rxEntries.filter fun r => (d.rxType r == 1 || d.rxType r == 2) && d.rxLead r == r).map fun r => (d.rxBase r, d.rxChans r)) ++
    (((List.range 16).filter d.aptEn).map fun p =>
      (d.live (Reg.APT_RX_BASE p) 12 0, d.aptSlots p * (if d.apt96 p then 2 else 1))) ++
    [(d.live Reg.AUD_POOL_IN 12 0, d.live Reg.AUD_POOL_IN 29 16)]

/-- First input that two ranges share. -/
def overlapAt (a b : Nat × Nat) : Option Nat :=
  let lo := max a.1 b.1
  if lo < min (a.1 + a.2) (b.1 + b.2) then some lo else none

/-- First input in conflict between any two ranges of a list (R508). -/
def rangesConflict : List (Nat × Nat) → Option Nat
  | [] => none
  | a :: t =>
    match (t.filterMap (overlapAt a)).foldl (fun (m : Option Nat) x => some (match m with | none => x | some y => min x y)) none,
        rangesConflict t with
    | some x, some y => some (min x y)
    | some x, none => some x
    | none, y => y

/-- The check of R508 on a state. -/
def Dev.audioConflict (e : Dev) : Option (Nat × Nat) := (rangesConflict e.inputRanges).map fun i => (0x05, i)

/-- Matrix input of stream channel c of source n (R506); `none` where the source has no such channel. `fuel` bounds the
chain of compositors. -/
def Dev.srcInput (d : Dev) : (fuel : Nat) → (n c : Nat) → Option Nat
  | 0, _, _ => none
  | fuel + 1, n, c =>
    match d.src n with
    | none => none
    | some x =>
      if (x.desc.map Desc.audio).getD 0 ≤ c then none
      else match x.kind with
        | 0 => if x.second then none else some (d.live (Reg.SDI_RX_AUD (d.sdiGroupOf x.origin).1) 12 0 + c)
        | 1 =>
          if d.rxType x.origin = 0 then
            ((d.rxBound x.origin).find? fun q => (d.rxType q == 1 || d.rxType q == 2) && decide (d.rxFirstChan q ≤ c) &&
              decide (c < d.rxFirstChan q + d.rxChans q)).map fun q => d.rxBase q + (c - d.rxFirstChan q)
          else if c < d.rxChans x.origin then some (d.rxBase x.origin + c) else none
        | 2 => (d.audio.poolIn.find? fun p => p.1 == n).bind fun p => if c < p.2.2 then some (p.2.1 + c) else none
        | _ => (d.filAudioSrc x.origin).bind fun m => d.srcInput fuel m c

/-- The source whose range holds input i. -/
def Dev.inputOwner (d : Dev) (i : Nat) : Option Nat :=
  (d.srcList.find? fun p => p.2.kind != 3 && (List.range (((p.2.desc.map Desc.audio).getD 0))).any fun c =>
    d.srcInput 1 p.1 c == some i).map Prod.fst

/-- The port whose received slots hold input i. -/
def Dev.inputPort (d : Dev) (i : Nat) : Option Nat :=
  (List.range 16).find? fun p => d.aptEn p && decide (d.live (Reg.APT_RX_BASE p) 12 0 ≤ i) &&
    decide (i < d.live (Reg.APT_RX_BASE p) 12 0 + d.aptSlots p * (if d.apt96 p then 2 else 1))

/-- Does an input carry live samples: its source is VALID, or it belongs to a port? -/
def Dev.inputLive (d : Dev) (i : Nat) : Bool :=
  (d.inputPort i).isSome || ((d.inputOwner i).bind d.src).any Source.valid

/-- The word an input contributes at this sample (R509): the oldest that waits, else the last repeated while its source is
valid, else 0. -/
def Dev.inputWord (d : Dev) (i : Nat) : Nat :=
  match Sparse.get (fun _ => []) d.audioIn i with
  | w :: _ => w
  | [] => if d.inputLive i then (d.audIn i).word else 0

/-- The word that follows it, when it is there. -/
def Dev.inputNext (d : Dev) (i : Nat) : Option Nat := (Sparse.get (fun _ => []) d.audioIn i)[1]?

/-- The sample of a channel word (R239). -/
def wordSample (w : Nat) : Int := toSigned 24 w

/-! ### ST 337 (R524, R525) -/

/-- Is a word Pa, or Pb, of 24-bit (`true`) or 16-bit words? -/
def isPa (wide : Bool) (w : Nat) : Bool :=
  if wide then w % 2 ^ 24 == 0x96F872 else w / 256 % 65536 == 0xF872
def isPb (wide : Bool) (w : Nat) : Bool :=
  if wide then w % 2 ^ 24 == 0xA54E1F else w / 256 % 65536 == 0x4E1F

/-- A burst that starts on input i at this sample: its mode (1 subframe, 2 frame) and width. -/
def Dev.burstStart (d : Dev) (i : Nat) : Option (Nat × Bool) :=
  let w := d.inputWord i
  let e := i / 2 * 2
  [true, false].findSome? fun wide =>
    if isPa wide w && (d.inputNext i).any (isPb wide) then some (1, wide)
    else if isPa wide (d.inputWord e) && isPb wide (d.inputWord (e + 1)) then some (2, wide)
    else none

/-- Is a burst in progress on an input (after `audInStep` of the sample); was it found at this very sample? -/
def AudIn.inBurst (x : AudIn) : Bool := x.mode != 0
def AudIn.newBurst (x : AudIn) : Bool := x.mode != 0 && x.since == 0

/-- Payload length in bits that a Pd word gives. -/
def pdBits (wide : Bool) (w : Nat) : Nat := if wide then w % 2 ^ 24 else w / 256 % 65536

/-- An input at one sample: its word, its magnitude, preambles and bursts. A Pa whose Pb had not come at its sample is found at
its Pb. -/
def Dev.audInStep (d : Dev) (i : Nat) : AudIn :=
  let x := d.audIn i
  let w := d.inputWord i
  let mags := ((wordSample w).natAbs :: x.mags).take 4800
  match d.burstStart i with
  | some (mode, wide) => { x with word := w, mags := mags, nonpcm := true, since := 0, mode := mode, pre := 0, left := 0, wide := wide }
  | none =>
    match [true, false].find? fun wide => isPa wide x.word && isPb wide w && !(x.mode == 1 && x.pre == 0) with
    | some wide => { x with word := w, mags := mags, nonpcm := true, since := 0, mode := 1, pre := 1, left := 0, wide := wide }
    | none =>
      let y := { x with word := w, mags := mags, since := x.since + 1 }
      if x.mode = 0 then y
      else
        let last := if x.mode = 1 then 3 else 1
        if x.pre < last then
          let pre := x.pre + 1
          if pre < last then { y with pre := pre }
          else
            let bitsN := pdBits x.wide (if x.mode = 1 then w else d.inputWord (i / 2 * 2 + 1))
            let words := ceilDiv bitsN (if x.wide then 24 else 16)
            { y with pre := pre, left := if x.mode = 1 then words else ceilDiv words 2 }
        else if x.left = 0 then { y with mode := 0 }
        else { y with left := x.left - 1 }

/-! ### Coefficients and sums (R513) -/

/-- Does n fit round(2²⁰ × 10^(G ÷ 200)): is n − ½ at most that power? Compared exactly, both sides to the 200th power. -/
def coefFits (g : Int) (n : Nat) : Bool :=
  let l := (2 * n - 1) ^ 200
  if 0 ≤ g then decide (l ≤ 2 ^ 4200 * 10 ^ g.toNat) else decide (l * 10 ^ (-g).toNat ≤ 2 ^ 4200)

/-- Coefficient of a gain G in 0.1 dB. -/
def gainCoef (g : Int) : Nat :=
  (List.range 25).foldl (fun a b => if coefFits g (a + 2 ^ (24 - b)) then a + 2 ^ (24 - b) else a) 0

/-- A sum rounded half up and clipped to 24 bits, and whether it clipped. -/
def clipSum (acc : Rat) : Int × Bool :=
  let y := (acc / 2 ^ 20 + 1 / 2).floor
  if 2 ^ 23 - 1 < y then (2 ^ 23 - 1, true) else if y < -2 ^ 23 then (-2 ^ 23, true) else (y, false)

/-- The lead of a 96 kHz pair that output o is the second half of (R512). -/
def Dev.pairLead (d : Dev) (o : Nat) : Option Nat :=
  if o % 2 = 1 ∧ d.liveFlag (Reg.AUD_O_CFG (o - 1)) 4 ∧ d.liveFlag (Reg.AUD_O_CFG (o - 1)) 0 then some (o - 1) else none

/-- Is an output on, itself or as the second half of a pair? -/
def Dev.audOn (d : Dev) (o : Nat) : Bool := (d.pairLead o).isSome || d.liveFlag (Reg.AUD_O_CFG o) 0

/-- Class, ramp samples and timeout samples of an output. -/
def Dev.audClass (d : Dev) (o : Nat) : Nat := d.live (Reg.AUD_O_CFG ((d.pairLead o).getD o)) 2 1
def Dev.audRamp (d : Dev) (o : Nat) : Nat := d.live (Reg.AUD_O_TIME ((d.pairLead o).getD o)) 9 0 * 48
def Dev.audTimeout (d : Dev) (o : Nat) : Nat := d.live (Reg.AUD_O_TIME ((d.pairLead o).getD o)) 21 16 * 48

/-- Input that slot k of output c names now (R516, R517). -/
def Dev.slotInput (d : Dev) (c k : Nat) : Option Nat :=
  if k = 0 then
    match d.audFollow c with
    | none => some (d.live (Reg.AUD_O_IN c 0) 12 0)
    | some dst => (d.dst dst).src.bind fun n => d.srcInput 17 n (d.live (Reg.AUD_O_CFG c) 14 8)
  else some (d.live (Reg.AUD_O_IN c k) 12 0)

/-- The four terms that the registers and the takes give output o (R513, R516, R523); the second half of a pair reads the
odd inputs (R512). -/
def Dev.audTarget (d : Dev) (o : Nat) : List AudTerm :=
  let c := (d.pairLead o).getD o
  let odd := b2n (d.pairLead o).isSome
  (List.range 4).map fun k =>
    let r := Reg.AUD_O_IN c k
    if !d.liveFlag r 15 then ⟨none, 0⟩
    else match d.slotInput c k with
      | none => ⟨none, 0⟩
      | some i =>
        let g : Nat := if d.liveFlag r 31 || d.liveFlag (Reg.AUD_O_CFG c) 5 then 0
          else if d.audClass o = 2 then 2 ^ 20 else gainCoef (toSigned 11 (d.live r 26 16))
        ⟨some (i + odd), (g : Rat)⟩

/-- Exact sum of terms over the samples of this instant. -/
def Dev.audSum (d : Dev) (l : List AudTerm) : Rat :=
  l.foldl (fun a t => match t.inp with
    | some i => a + (wordSample (d.audIn i).word : Rat) * t.g
    | none => a) 0

/-- V, U, C and block start of the lowest slot in use (R514). -/
def Dev.audBits (d : Dev) (l : List AudTerm) : Nat :=
  match l.findSome? AudTerm.inp with
  | some i => (d.audIn i).word / 2 ^ 24 % 16
  | none => 0

/-- A channel word of a sample and its bits. -/
def channelWord (y : Int) (vuc : Nat) : Nat := ofSigned 24 y + vuc * 2 ^ 24

/-! ### Gain classes (R518 to R525) -/

/-- The coefficient that slot k of a class P output has reached. -/
def AudOut.reached (x : AudOut) (k : Nat) : AudTerm :=
  let t := x.goal.getD k ⟨none, 0⟩
  if x.n = 0 then t
  else
    let s := x.start.getD k 0
    ⟨t.inp, s + (t.g - s) * (x.i : Rat) / (x.n : Rat)⟩

/-- A class P change: a ramp of N samples from what has been reached toward the target (R520, R521). -/
def AudOut.ramp (x : AudOut) (target : List AudTerm) (n : Nat) : AudOut :=
  let old := (List.range 4).map x.reached
  let same := fun k => (old.getD k ⟨none, 0⟩).inp == (target.getD k ⟨none, 0⟩).inp
  { x with
    goal := target
    start := (List.range 4).map fun k => if same k then (old.getD k ⟨none, 0⟩).g else 0
    fade := ((List.range 4).filter fun k => !same k).map fun k => old.getD k ⟨none, 0⟩
    n := n
    i := 0 }

/-- The terms of a class P output at its present sample: each slot at what it has reached, and those fading out. -/
def AudOut.terms (x : AudOut) : List AudTerm :=
  (List.range 4).map x.reached ++
    (if x.n = 0 then [] else x.fade.map fun t => ⟨t.inp, t.g * ((x.n : Rat) - (x.i : Rat)) / (x.n : Rat)⟩)

/-- Put a configuration in force at once. -/
def AudOut.step (x : AudOut) (target : List AudTerm) : AudOut :=
  { x with goal := target, start := [], fade := [], n := 0, i := 0, wait := 0, waited := 0 }

/-- First input in use. -/
def firstInput (l : List AudTerm) : Option Nat := l.findSome? AudTerm.inp

/-- Class P at a sample: the output state and its exact sum. -/
def Dev.classP (d : Dev) (x : AudOut) (target : List AudTerm) (n : Nat) : AudOut × Rat :=
  let x1 := if x.goal = target then x else x.ramp target n
  let x2 := { x1 with i := min x1.n (x1.i + 1) }
  (x2, d.audSum x2.terms)

/-- Sign of a sum, for R522. -/
def signOf (y : Int) : Int := if y < 0 then -1 else if y = 0 then 0 else 1

/-- Class C at a sample (R522). -/
def Dev.classC (d : Dev) (x : AudOut) (target : List AudTerm) : AudOut × Rat :=
  let old := d.audSum x.goal
  if x.wait = 0 ∧ x.goal = target then ({ x with prev := (clipSum old).1 }, old)
  else
    let y := (clipSum old).1
    if y = 0 ∨ signOf y ≠ signOf x.prev then
      let s := d.audSum target
      ({ x.step target with prev := (clipSum s).1 }, s)
    else ({ x with wait := 1, waited := (if x.wait = 0 then 0 else x.waited) + 1, prev := y }, old)

/-- Class D at a sample (R525). -/
def Dev.classD (d : Dev) (x : AudOut) (target : List AudTerm) : AudOut × Rat :=
  if x.wait = 0 ∧ x.goal = target then (x, d.audSum x.goal)
  else
    let waited := if x.wait = 0 then 0 else x.waited
    let busy := (firstInput x.goal).any fun i => (d.audIn i).inBurst && !(x.wait == 2 && (d.audIn i).newBurst)
    let fresh := (firstInput target).any fun i => (d.audIn i).newBurst
    let stage := if x.wait ≠ 3 ∧ busy then 2 else 3
    if stage = 2 then ({ x with wait := 2, waited := waited + 1 }, d.audSum x.goal)
    else if fresh then (x.step target, d.audSum target)
    else ({ x with wait := 3, waited := waited + 1 }, 0)

/-- The even output that decides for a class D output (R525): its partner follows the same destination with the channel
before. -/
def Dev.classDLead (d : Dev) (o : Nat) : Option Nat :=
  if o % 2 = 0 then none
  else
    let p := o - 1
    let sch := fun (q : Nat) => d.live (Reg.AUD_O_CFG q) 14 8
    if d.audOn p && d.audClass p == 2 && d.audClass o == 2 && (d.audFollow p).isSome && d.audFollow p == d.audFollow o &&
        sch p % 2 == 0 && sch o == sch p + 1 then some p else none

/-- A class D output with an even partner: in a change of both it takes the partner's step of this sample, on its own
inputs; a change of its own it decides itself. -/
def Dev.classDWith (d : Dev) (lead x : AudOut) (target : List AudTerm) : AudOut × Rat :=
  if x.wait = 0 ∧ x.goal = target then (x, d.audSum x.goal)
  else if lead.wait = 2 then ({ x with wait := 2, waited := lead.waited }, d.audSum x.goal)
  else if lead.wait = 3 then ({ x with wait := 3, waited := lead.waited }, 0)
  else if (firstInput lead.goal).any fun i => (d.audIn i).newBurst then (x.step target, d.audSum target)
  else d.classD x target

/-- What decides slot 0 of an output apart from the source's descriptor: the source it follows and the words that name it. -/
def Dev.audSeen (d : Dev) (o : Nat) : List Nat :=
  let c := (d.pairLead o).getD o
  match d.audFollow c with
  | some k => [((d.dst k).src.map Nat.succ).getD 0, (d.rd (Reg.AUD_O_CFG c + 0x800)).toNat, (d.rd (Reg.AUD_O_IN c 0 + 0x800)).toNat]
  | none => []

/-- A channel that came or went with the descriptor of the source that is followed still: slot 0 takes it at once, in a ramp
as its new term, since this is no change of R518 (R516). -/
def AudOut.described (x : AudOut) (seen : List Nat) (target : List AudTerm) : AudOut :=
  let a := (x.goal.headD ⟨none, 0⟩).inp
  let b := (target.headD ⟨none, 0⟩).inp
  if seen ≠ [] ∧ x.seen = seen ∧ x.wait = 0 ∧ x.goal ≠ [] ∧ a.isSome ≠ b.isSome then
    { x with goal := target.headD ⟨none, 0⟩ :: x.goal.drop 1 }
  else { x with seen := seen }

/-- An output at one sample: its new state and exact sum. A change of class completes what is in progress (R518). -/
def Dev.audStep (d : Dev) (o : Nat) : AudOut × Rat :=
  let target := d.audTarget o
  let x := (d.audOut o).described (d.audSeen o) target
  let cls := d.audClass o
  if x.cls ≠ cls ∨ x.goal = [] then
    let y := { x.step target with cls := cls }
    let s := d.audSum target
    ({ y with prev := (clipSum s).1 }, s)
  else match cls with
    | 0 => d.classP x target (d.audRamp o)
    | 1 => d.classC x target
    | _ =>
      match d.classDLead o with
      | some p => d.classDWith (d.audOut p) x target
      | none => d.classD x target

/-! ### Silence (R530 to R533) -/

/-- Is a sample silent at THR (R530): |y| ≤ 2²³ × 10^(−THR ÷ 20), both sides to the 20th power? -/
def silentAt (thr : Nat) (y : Int) : Bool := decide (y.natAbs ^ 20 * 10 ^ thr ≤ 2 ^ 460)

/-- Configuration and status registers of an output group. -/
def silCfg (g : Nat) : Nat := Reg.AUD_SIL_CFG (g / 128) (g % 128)
def silStat (g : Nat) : Nat := Reg.AUD_SIL_STAT (g / 128) (g % 128)
/-- Is a group enabled; is it silent; may it be gated now (R532)? -/
def Dev.groupEn (d : Dev) (g : Nat) : Bool := d.liveFlag (silCfg g) 31
def Dev.groupSilent (d : Dev) (g : Nat) : Bool := d.flag (silStat g) 0
def Dev.groupOuts (d : Dev) (g : Nat) : List Nat := ((List.range 16).map fun i => 16 * g + i).filter d.audOn
def Dev.groupMayGate (d : Dev) (g : Nat) : Bool :=
  d.groupEn g && d.groupSilent g && d.liveFlag (silCfg g) 30 &&
    (d.groupOuts g).all fun o => d.audClass o != 2 && (d.audOut o).n == 0 && (d.audOut o).wait == 0 && d.audDelay o == 0

/-- Does a gated group stay gated at this sample: no input in use and no sum above the limit? -/
def Dev.groupQuietNow (d : Dev) (g : Nat) : Bool :=
  let thr := d.live (silCfg g) 6 0
  (d.groupOuts g).all fun o =>
    ((d.audTarget o).filterMap AudTerm.inp).all (fun i => silentAt thr (wordSample (d.audIn i).word)) &&
      silentAt thr (clipSum (d.audSum (d.audTarget o))).1

/-- Run of silent samples of a group or port. -/
def Dev.quietRun (d : Dev) (k : Nat) : Nat := Sparse.get (fun _ => 0) d.audio.quiet k
def Dev.setQuiet (d : Dev) (k n : Nat) : Dev :=
  { d with audio := { d.audio with quiet := Sparse.set (fun _ => 0) d.audio.quiet k n } }

/-- A group becomes silent or stops being silent (R531, R538). -/
def Dev.setGroupSilent (d : Dev) (g : Nat) (b : Bool) : Dev :=
  if d.groupSilent g = b then d
  else
    let page := Reg.pageAUDSIL (g / 128)
    ((d.setFlag (silStat g) 0 b).raiseLog page 0 (g + (if b then 0x8000 else 0))).statusIrq page 16

/-- Gate or ungate a group; AUD_GATED counts the gated groups (R532). -/
def Dev.setGated (d : Dev) (g : Nat) (b : Bool) : Dev :=
  if d.flag (silStat g) 1 = b then d
  else
    let n := d.fld Reg.AUD_GATED 9 0
    (d.setFlag (silStat g) 1 b).wrNat Reg.AUD_GATED (if b then n + 1 else n - 1)

/-- Transmit outputs of an audio port (R533, R542). -/
def Dev.aptOuts (d : Dev) (p : Nat) : List Nat :=
  let w := if d.apt96 p then 2 else 1
  (((List.range (d.aptSlots p)).filter fun s => d.live (Reg.APT_TX_MASK p) 31 0 / 2 ^ s % 2 == 1).flatMap fun s =>
    (List.range w).map fun h => d.live (Reg.APT_TX_BASE p) 12 0 + w * s + h)

/-- An audio port beyond its registers. -/
def Dev.apt (d : Dev) (p : Nat) : AptX := Sparse.get (fun _ => AptX.reset) d.apts p
def Dev.setApt (d : Dev) (p : Nat) (x : AptX) : Dev := { d with apts := Sparse.set (fun _ => AptX.reset) d.apts p x }
/-- State of a port: 0 OFF, 1 LEAD_IN, 2 RUNNING, 3 LEAD_OUT (R557). -/
def Dev.aptState (d : Dev) (p : Nat) : Nat := d.fld (Reg.APT_STAT p) 1 0
/-- Move a port to a state, with the interrupt of R558. -/
def Dev.setAptState (d : Dev) (p st : Nat) : Dev :=
  if d.aptState p = st then d else (d.setFld (Reg.APT_STAT p) 1 0 st).statusIrq (Reg.pageAPT p) 8

/-- A port's transmit slots become silent or stop being silent: SIL_CHG, and with PWRDN and no receive slot in use the silent
stop or start of R553; samples due during the restart are lost (R533). -/
def Dev.setPortSilent (d : Dev) (p : Nat) (b : Bool) : Dev :=
  if d.flag (Reg.AUD_APT_SSTAT p) 0 = b then d
  else
    let d1 := (d.setFlag (Reg.AUD_APT_SSTAT p) 0 b).raiseLog Reg.pageAUDENG 2 (p + (if b then 0x8000 else 0))
    let mayStop := d.liveFlag (Reg.AUD_APT_SIL p) 30 && d.live (Reg.APT_RX_MASK p) 31 0 == 0 && d.aptEn p
    if b && mayStop && d.aptState p == 2 then
      ((d1.setApt p { d1.apt p with leadOutDue := true, silent := true }).setFlag (Reg.AUD_APT_SSTAT p) 1 true)
    else if !b && (d.apt p).silent then
      let d2 := (d1.setFlag (Reg.AUD_APT_SSTAT p) 1 false).bump (Reg.AUD_APT_SSTAT p) 15 8
      let d3 := d2.raise Reg.pageAUDENG 3 p
      if d.aptState p = 0 then
        (d3.setApt p { d3.apt p with silent := false, lead := 0, leadOutDue := false }).setAptState p 1
      else if d.aptState p = 2 then d3.setApt p { d3.apt p with silent := false, leadOutDue := false }
      else d3.setApt p { d3.apt p with silent := false, queued := true }
    else d1

/-! ### The sample (R513, R528) -/

/-- Inputs that take part in a sample: those with words waiting or with a past. -/
def Dev.liveInputs (d : Dev) : List Nat := (d.audioIn.map Prod.fst ++ d.audio.ins.map Prod.fst).eraseDups

/-- Every input moves on by one sample; all are read before any is written. -/
def Dev.stepInputs (d : Dev) : Dev :=
  let l := d.liveInputs.map fun i => (i, d.audInStep i)
  let d1 := l.foldl (fun (a : Dev) p => a.setAudIn p.1 p.2) d
  { d1 with audioIn := (d1.audioIn.map fun p => (p.1, p.2.drop 1)).filter fun p => decide (p.2 ≠ []) }

/-- The word that leaves a delay line at its tap: samples before its oldest repeat the oldest (R528). -/
def tap (line : List Nat) (delay : Nat) : Nat := line.getD (min delay (line.length - 1)) 0

/-- Append to the words an output has carried. -/
def Dev.carry (d : Dev) (o w : Nat) : Dev :=
  { d with audioOut := Sparse.set (fun _ => []) d.audioOut o ((w :: Sparse.get (fun _ => []) d.audioOut o).take 512) }

/-- AUD_Oe_STAT of an output (R536). -/
def Dev.audShow (d : Dev) (o : Nat) : Dev :=
  let x := d.audOut o
  let g := o / 16
  d.wrNat (Reg.AUD_O_STAT o) (1 + b2n (x.n != 0) * 2 + b2n (x.wait == 1) * 4 + b2n (decide (2 ≤ x.wait)) * 8 +
    b2n (d.flag (silStat g) 1) * 16 + b2n (d.groupSilent g) * 32 + ((x.goal.getD 0 ⟨none, 0⟩).inp.getD 0) % 8192 * 256)

/-- Sticky bit of an output. -/
def Dev.audSticky (d : Dev) (o n arg : Nat) : Dev := d.raiseEntry (Reg.pageAUDOUT o) (o % 16) n arg

/-- Does an output that follows find no input for its slot 0 (R516)? -/
def Dev.followNone (d : Dev) (o : Nat) : Bool := (d.audFollow o).isSome && (d.slotInput o 0).isNone

/-- Has an output of class P or C an input in use whose NONPCM is set (R526)? -/
def Dev.nonpcmIn (d : Dev) (o : Nat) : Bool :=
  decide (d.audClass o < 2) && ((d.audTarget o).filterMap AudTerm.inp).any fun i => (d.audIn i).nonpcm

/-- One output at one sample. -/
def Dev.audOutput (d : Dev) (o : Nat) : Dev :=
  if d.flag (silStat (o / 16)) 1 then (d.carry o 0).audShow o
  else
    let c := (d.pairLead o).getD o
    let r := d.audStep o
    let y := clipSum r.2
    let w := channelWord y.1 (d.audBits r.1.goal)
    let delay := d.audDelay c
    let line := (w :: r.1.line).take (if delay = 0 then 1 else delay + 1024)
    let d1 := ((d.setAudOut o { r.1 with line := line }).carry o (tap line delay)).wrNat (Reg.AUD_O_DLY_NOW o) delay
    let d2 := if y.2 then (d1.bump (Reg.AUD_O_CLIP c) 31 0).audSticky c 0 0 else d1
    let d3 := if d.followNone c then d2.audSticky c 3 0 else d2
    let d4 := if d.nonpcmIn o then d3.audSticky c 4 0 else d3
    d4.audShow o

/-- Outputs to compute: enabled ones and the second halves of pairs, each lead before its partner. -/
def Dev.audAll (d : Dev) : List Nat :=
  d.audEntries.flatMap fun o => if o % 2 = 0 ∧ d.liveFlag (Reg.AUD_O_CFG o) 4 then [o, o + 1]
    else if (d.pairLead o).isSome then [] else [o]

/-- Silence runs after a sample, from the words just carried. -/
def Dev.silenceRuns (d : Dev) : Dev :=
  let last := fun (a : Dev) (o : Nat) => wordSample ((Sparse.get (fun _ => []) a.audioOut o).headD 0)
  let groups := (d.audAll.map fun o => o / 16).eraseDups
  let d1 := groups.foldl (fun a g =>
    if !a.groupEn g then a.setQuiet g 0
    else
      let thr := a.live (silCfg g) 6 0
      let q := if (a.groupOuts g).all fun o => silentAt thr (last a o) then a.quietRun g + 1 else 0
      let a1 := (a.setQuiet g q).setFld (silStat g) 31 16 (min 65535 (q / 48000))
      if q = 0 then a1.setGroupSilent g false else a1) d
  ((List.range 16).filter fun p => d.liveFlag (Reg.AUD_APT_SIL p) 31).foldl (fun a p =>
    let thr := a.live (Reg.AUD_APT_SIL p) 6 0
    let q := if (a.aptOuts p).all fun o => silentAt thr (last a o) then a.quietRun (512 + p) + 1 else 0
    let a1 := (a.setQuiet (512 + p) q).setFld (Reg.AUD_APT_SSTAT p) 31 16 (min 65535 (q / 48000))
    if q = 0 then a1.setPortSilent p false else a1) d1

/-- The window on the input that AUD_IN_SEL names (R535). -/
def Dev.audInShow (d : Dev) : Dev :=
  let i := d.fld Reg.AUD_IN_SEL 12 0
  let x := d.audIn i
  let own := d.inputOwner i
  let ok := own.isSome || (d.inputPort i).isSome
  (d.wrNat Reg.AUD_IN_STAT (b2n ok + b2n (d.inputLive i) * 2 + b2n x.nonpcm * 4 + b2n (Config.inputSilent x.mags x.since) * 8 +
    b2n x.pair96 * 16 + own.getD 0 * 65536)).wrNat Reg.AUD_IN_PEAK (min (2 ^ 24 - 1) (x.mags.foldl max 0))

/-- One 48 kHz sample: inputs, groups that gate or ungate, outputs, silence (R513 to R533). -/
def Dev.audioSample (d : Dev) : Dev :=
  if !d.dataRuns then d
  else
    let d1 := d.stepInputs
    let groups := (d1.audAll.map fun o => o / 16).eraseDups
    let d2 := groups.foldl (fun a g => a.setGated g (a.groupMayGate g && a.groupQuietNow g)) d1
    let all := d2.audAll
    let d3 := all.foldl Dev.audOutput d2
    let d4 := ((d3.audioOut.map Prod.fst).filter fun o => !all.contains o).foldl (fun a o => a.carry o 0) d3
    ({ d4 with audioCount := d4.audioCount + 1 } : Dev).silenceRuns.audInShow

def execAudioSample (s : State) := s.onDev Dev.audioSample

/-! ### Timed ends -/

/-- A class C output that has waited TIMEOUT takes the new configuration, unless its old sum crosses zero at this very
sample (R522). -/
def Dev.zcTimeout (d : Dev) (o : Nat) : Dev :=
  let x := d.audOut o
  if x.wait = 1 ∧ d.audTimeout o ≤ x.waited then
    let y := (clipSum (x.goal.foldl (fun a t => match t.inp with
      | some i => a + (wordSample (d.inputWord i) : Rat) * t.g
      | none => a) 0)).1
    if y = 0 ∨ signOf y ≠ signOf x.prev then d
    else ((d.setAudOut o (x.step (d.audTarget o))).audSticky ((d.pairLead o).getD o) 1 0).audShow o
  else d

def execZcTimeout (o : Fin 8192) (s : State) := s.onDev fun d => d.zcTimeout o.val

/-- A crossfade whose N samples have passed is over (R520). -/
def Dev.rampComplete (d : Dev) (o : Nat) : Dev :=
  let x := d.audOut o
  if x.n ≠ 0 ∧ x.i = x.n then (d.setAudOut o (x.step x.goal)).audShow o else d

def execRampComplete (o : Fin 8192) (s : State) := s.onDev fun d => d.rampComplete o.val

/-- A class D output that has waited 1,920 samples takes the new input; the odd output that goes with an even one takes its own
at the same sample (R525). -/
def Dev.burstTimeout (d : Dev) (o : Nat) : Dev :=
  let one := fun (a : Dev) (q : Nat) =>
    ((a.setAudOut q ((a.audOut q).step (a.audTarget q))).audSticky ((a.pairLead q).getD q) 2 0).audShow q
  let x := d.audOut o
  if 2 ≤ x.wait ∧ 1920 ≤ x.waited then
    let d1 := one d o
    if d.classDLead (o + 1) = some o ∧ 2 ≤ (d.audOut (o + 1)).wait then one d1 (o + 1) else d1
  else d

def execBurstTimeout (o : Fin 8192) (s : State) := s.onDev fun d => d.burstTimeout o.val

/-- NONPCM of an input clears after 4,096 samples without a preamble (R524). -/
def Dev.nonpcmClear (d : Dev) (i : Nat) : Dev :=
  if 4096 ≤ (d.audIn i).since then (d.setAudIn i { d.audIn i with nonpcm := false }).audInShow else d

def execNonpcmClear (i : Fin 8192) (s : State) := s.onDev fun d => d.nonpcmClear i.val

/-- HOLD seconds of silence have passed (R530, R531, R533). -/
def Dev.silenceChange (d : Dev) (t : SilTarget) : Dev :=
  match t with
  | .group g =>
    if d.groupEn g.val && decide (d.live (silCfg g.val) 25 16 * 48000 ≤ d.quietRun g.val) then d.setGroupSilent g.val true else d
  | .port p =>
    if d.liveFlag (Reg.AUD_APT_SIL p.val) 31 &&
        decide (d.live (Reg.AUD_APT_SIL p.val) 25 16 * 48000 ≤ d.quietRun (512 + p.val)) then d.setPortSilent p.val true else d

def execSilenceChange (t : SilTarget) (s : State) := s.onDev fun d => d.silenceChange t

/-! ### Pools (R507, R511) -/

/-- The lowest free start of `count` places in a pool, which ends with the 8,192 inputs or outputs of the matrix. -/
def poolFree (first size count : Nat) (used : List (Nat × Nat × Nat)) : Option Nat :=
  (List.range (min size (8192 - first) + 1 - count)).findSome? fun i =>
    let a := first + i
    if used.any fun u => decide (a < u.2.1 + u.2.2) && decide (u.2.1 < a + count) then none else some a

/-- Show the pools. -/
def Dev.poolShow (d : Dev) : Dev :=
  let total := fun (l : List (Nat × Nat × Nat)) => l.foldl (fun a u => a + u.2.2) 0
  d.wrNat Reg.AUD_POOL_USED (total d.audio.poolIn + total d.audio.poolOut * 65536)

/-- Allocate the inputs of a fabric source; POOL_FULL when the pool has too few. -/
def Dev.allocIn (d : Dev) (src count : Nat) : Dev :=
  let rest := d.audio.poolIn.filter fun u => u.1 != src
  if count = 0 then ({ d with audio := { d.audio with poolIn := rest } } : Dev).poolShow
  else match poolFree (d.live Reg.AUD_POOL_IN 12 0) (d.live Reg.AUD_POOL_IN 29 16) count rest with
    | some a => ({ d with audio := { d.audio with poolIn := rest ++ [(src, a, count)] } } : Dev).poolShow
    | none => d.raise Reg.pageAUDENG 0 src

/-- The outputs of a fabric exit (R511): channel c of source n at unity gain in class P, one slot in use. -/
def Dev.exitOutputs (d : Dev) (n first count : Nat) : Dev :=
  (List.range count).foldl (fun a c =>
    let put := fun (b : Dev) (r v : Nat) => (b.wrNat r v).wrNat (r + 0x800) v
    let o := first + c
    put (put a (Reg.AUD_O_CFG o) (1 + 8)) (Reg.AUD_O_IN o 0) (((a.srcInput 17 n c).getD 0) + 0x8000)) d

/-- Allocate the outputs of a fabric exit that sends source n as a crossing. -/
def Dev.allocOut (d : Dev) (crossing n count : Nat) : Dev :=
  if count = 0 ∨ d.audio.poolOut.any (fun u => u.1 == crossing) then d
  else match poolFree (d.live Reg.AUD_POOL_OUT 12 0) (d.live Reg.AUD_POOL_OUT 29 16) count d.audio.poolOut with
    | some a =>
      (({ d with audio := { d.audio with poolOut := d.audio.poolOut ++ [(crossing, a, count)] } } : Dev).exitOutputs n a count).poolShow
    | none => d.raise Reg.pageAUDENG 0 n

/-- Free the outputs of a fabric exit. -/
def Dev.freeOut (d : Dev) (crossing : Nat) : Dev :=
  let gone := d.audio.poolOut.filter fun u => u.1 == crossing
  let d1 := gone.foldl (fun a u => (List.range u.2.2).foldl (fun b c =>
    let r := Reg.AUD_O_CFG (u.2.1 + c)
    ((b.wrNat r 0).wrNat (r + 0x800) 0).setAudOut (u.2.1 + c) AudOut.reset) a) d
  ({ d1 with audio := { d1.audio with poolOut := d1.audio.poolOut.filter fun u => u.1 != crossing } } : Dev).poolShow

/-! ### Commits (R508, R511, R512, R516, R523, R528) -/

/-- Is an input an even 96 kHz input (R512)? -/
def Dev.isPair96 (e : Dev) (i : Nat) : Bool :=
  i % 2 == 0 && ((List.range 16).any fun p => e.aptEn p && e.apt96 p &&
    decide (e.live (Reg.APT_RX_BASE p) 12 0 ≤ i) && decide (i < e.live (Reg.APT_RX_BASE p) 12 0 + 2 * e.aptSlots p))

/-- Checks of an AUD_OUT commit on output o: `d` before, `e` after the commits due. -/
def audOutCheck (d e : Dev) (o : Nat) : Option (Nat × Nat) :=
  let cfg := Reg.AUD_O_CFG o
  let at_ := (0x100 + 0x40 * (o % 16)) / 4
  let words := [cfg, Reg.AUD_O_IN o 0, Reg.AUD_O_IN o 1, Reg.AUD_O_IN o 2, Reg.AUD_O_IN o 3, Reg.AUD_O_TIME o, Reg.AUD_O_DLY o]
  let pool := decide (d.live Reg.AUD_POOL_OUT 12 0 ≤ o) && decide (o < d.live Reg.AUD_POOL_OUT 12 0 + d.live Reg.AUD_POOL_OUT 29 16)
  let inUse := (List.range 4).filter fun k => e.liveFlag (Reg.AUD_O_IN o k) 15
  if pool && words.any fun r => d.rd (r + 0x800) != e.rd (r + 0x800) then some (0x01, at_)
  else if !e.liveFlag cfg 0 then none
  else if !e.liveFlag cfg 3 && !e.dstEnabled (e.live cfg 26 16) then some (0x01, at_)
  else if e.live cfg 2 1 = 2 ∧ 1 < inUse.length then some (0x0A, 0x61)
  else if e.liveFlag cfg 4 && (o % 2 == 1 || inUse.any fun k =>
      !(k == 0 && !e.liveFlag cfg 3) && !e.isPair96 (e.live (Reg.AUD_O_IN o k) 12 0)) then some (0x0A, 0x62)
  else if e.budgetBroken.isSome then some (0x02, 3)
  else none

/-- Checks of an AUD_ENG commit. -/
def audEngCheck (e : Dev) : Option (Nat × Nat) := if e.budgetBroken.isSome then some (0x02, 3) else none

/-- Effect of an applied AUD_OUT commit on output o: an output that is off carries nothing. -/
def audOutEffect (d : Dev) (o : Nat) : Dev :=
  let d1 := if d.audOn o then d.wrNat (Reg.AUD_O_DLY_NOW o) (d.audDelay o)
    else ((d.setAudOut o AudOut.reset).wrNat (Reg.AUD_O_STAT o) 0).wrNat (Reg.AUD_O_DLY_NOW o) 0
  d1.wrNat Reg.AUD_DLY_USED (ceilDiv d1.dlyBytes 4096)

/-- Effect of an applied AUD_SIL commit on group g: a group that is not enabled is neither silent nor gated. -/
def audSilEffect (d : Dev) (g : Nat) : Dev :=
  if d.groupEn g then d else (((d.setGroupSilent g false).setGated g false).setQuiet g 0).setFld (silStat g) 31 16 0

end Sys2Proof.Machine
end

