-- ==== Sys2Proof/Machine/AudioPorts.lean ====
section
/-!
DEFINITION. Audio serial ports (spec/15_audio_ports.md, R539 to R558): frames exchanged with the matrix, elastic buffer,
rate window and clock loss, lead-in and lead-out, slot masks, the DRAM mirror, and the commit checks.
-/

namespace Sys2Proof.Machine

open Sys2Proof

/-- Bits per slot; frame rate in Hz; master; high impedance on masked transmit slots. -/
def Dev.aptBits (d : Dev) (p : Nat) : Nat :=
  match d.live (Reg.APT_CFG p) 11 10 with
  | 0 => 16
  | 1 => 24
  | _ => 32
def Dev.aptFs (d : Dev) (p : Nat) : Nat := if d.apt96 p then 96000 else 48000
def Dev.aptMaster (d : Dev) (p : Nat) : Bool := d.liveFlag (Reg.APT_CFG p) 1
def Dev.aptHiz (d : Dev) (p : Nat) : Bool := d.liveFlag (Reg.APT_CFG p) 17

/-- Masks and bases as committed (R554). -/
def Dev.aptLiveMasks (d : Dev) (p : Nat) : AptMasks :=
  ⟨d.live (Reg.APT_RX_MASK p) 31 0, d.live (Reg.APT_TX_MASK p) 31 0, d.live (Reg.APT_MIR_MASK p) 31 0,
    d.live (Reg.APT_RX_BASE p) 12 0, d.live (Reg.APT_TX_BASE p) 12 0⟩

/-- Change what a port keeps. -/
def Dev.updApt (d : Dev) (p : Nat) (f : AptX → AptX) : Dev := d.setApt p (f (d.apt p))

/-- Bit s of a mask. -/
def maskBit (m s : Nat) : Bool := m / 2 ^ s % 2 == 1

/-- Slots set in a mask, ascending. -/
def Dev.aptMasked (d : Dev) (p m : Nat) : List Nat := (List.range (d.aptSlots p)).filter (maskBit m)

/-- A sample as a slot of this width carries it: a 16-bit slot keeps the upper 16 bits (R540). -/
def slotSample (bitsN w : Nat) : Nat := if bitsN = 16 then w % 2 ^ 24 / 256 * 256 else w % 2 ^ 24

/-- Matrix channel of slot s (R542): at 96 kHz the halves of even and odd periods. -/
def slotChannel (wide : Bool) (base s count : Nat) : Nat := if wide then base + 2 * s + count % 2 else base + s

/-- The masks that take effect at this frame start: those in force, unless a commit has come whose time this is. -/
def AptX.masksNow (x : AptX) : AptMasks :=
  match x.next with
  | some (m, 0) => m
  | _ => x.masks

/-- At a frame start masks that are due apply, and the frame count is reported (R554). -/
def Dev.aptApplyMasks (d : Dev) (p count : Nat) : Dev :=
  match (d.apt p).next with
  | some (m, 0) => (d.updApt p fun x => { x with masks := m, next := none }).wrNat (Reg.APT_MASK_APPLIED p) count
  | some (m, n + 1) => d.updApt p fun x => { x with next := some (m, n) }
  | none => d

/-- The received slots of a frame enter the matrix (R542, R543); `rx` gives each slot's sample. -/
def Dev.aptToMatrix (d : Dev) (p count : Nat) (rx : List Nat) : Dev :=
  let m := (d.apt p).masks
  (List.range (d.aptSlots p)).foldl (fun a s =>
    let i := slotChannel (a.apt96 p) m.rxBase s count
    let w := if maskBit m.rx s then slotSample (a.aptBits p) (rx.getD s 0) else 0
    let b := a.pushInput i w
    if a.apt96 p && count % 2 == 0 then b.setAudIn i { b.audIn i with pair96 := true } else b) d

/-- Sample of transmit slot s from the matrix. -/
def Dev.aptFromMatrix (d : Dev) (p count s : Nat) : Nat :=
  slotSample (d.aptBits p)
    ((Sparse.get (fun _ => []) d.audioOut (slotChannel (d.apt96 p) (d.apt p).masks.txBase s count)).headD 0)

/-! ### The DRAM mirror (R555, R556) -/

/-- Mirror enabled; playback; frames; address of frame i. -/
def Dev.mirEn (d : Dev) (p : Nat) : Bool := d.liveFlag (Reg.APT_MIR_CFG p) 0
def Dev.mirPlay (d : Dev) (p : Nat) : Bool := d.liveFlag (Reg.APT_MIR_CFG p) 1
def Dev.mirFrames (d : Dev) (p : Nat) : Nat := d.live (Reg.APT_MIR_FRAMES p) 16 0
def Dev.mirAddr (d : Dev) (p i : Nat) : Nat :=
  d.live (Reg.APT_MIR_BASE_LO p) 31 0 + d.live (Reg.APT_MIR_BASE_HI p) 31 0 * 2 ^ 32 +
    i % max 1 (d.mirFrames p) * 4 * (d.aptMasked p (d.apt p).masks.mir).length

/-- Device and host frame counts. -/
def Dev.mirDev (d : Dev) (p : Nat) : Nat := d.fld (Reg.APT_MIR_DEV p) 31 0
def Dev.mirHost (d : Dev) (p : Nat) : Nat := d.fld (Reg.APT_MIR_HOST p) 31 0

/-- Advance the device count; MIR_READY at each multiple of MIR_IRQ. -/
def Dev.mirAdvance (d : Dev) (p : Nat) : Dev :=
  let n := (d.mirDev p + 1) % 2 ^ 32
  let d1 := d.wrNat (Reg.APT_MIR_DEV p) n
  let every := d.live (Reg.APT_MIR_IRQ p) 15 0
  if every ≠ 0 ∧ n % every = 0 then d1.raise (Reg.pageAPT p) 6 n else d1

/-- Word of a mirrored sample: sign-extended to 32 bits (R555). -/
def mirWord (w : Nat) : Nat := ofSigned 32 (toSigned 24 w)

/-- Capture of a received frame, or its drop (R556). -/
def Dev.mirCapture (d : Dev) (mem : Mem) (p : Nat) (rx : List Nat) : Dev × Mem :=
  if (d.mirDev p + 2 ^ 32 - d.mirHost p) % 2 ^ 32 = d.mirFrames p then
    ((d.bump (Reg.APT_MIR_DROP p) 31 0).raise (Reg.pageAPT p) 4 0, mem)
  else
    let bytes := (d.aptMasked p (d.apt p).masks.mir).flatMap fun s => bytesLE 4 (mirWord (slotSample (d.aptBits p) (rx.getD s 0)))
    (d.mirAdvance p, mem.setBytes true (d.mirAddr p (d.mirDev p)) bytes)

/-- The samples of a played frame by slot, or the last ones again (R556). -/
def Dev.mirPlayback (d : Dev) (mem : Mem) (p : Nat) : Dev × List (Nat × Nat) :=
  let slots := d.aptMasked p (d.apt p).masks.mir
  if d.mirDev p = d.mirHost p then
    (d.raise (Reg.pageAPT p) 5 0, slots.zipIdx.map fun q => (q.1, (d.apt p).playLast.getD q.2 0))
  else
    let a := d.mirAddr p (d.mirDev p)
    let ws := slots.zipIdx.map fun q => mem.nat true (a + 4 * q.2) 4 % 2 ^ 24
    ((d.updApt p fun x => { x with playLast := ws }).mirAdvance p, slots.zipIdx.map fun q => (q.1, ws.getD q.2 0))

/-! ### Frames (R539 to R551) -/

/-- Is the measured rate in the window (R547)? -/
def Dev.aptInWindow (d : Dev) (p : Nat) : Bool :=
  let r := d.fld (Reg.APT_RATE p) 31 0
  decide (d.live (Reg.APT_RATE_LO p) 31 0 ≤ r) && decide (r ≤ d.live (Reg.APT_RATE_HI p) 31 0)

/-- A slip of the elastic buffer: counted, with its sticky bit (R546). -/
def Dev.aptSlip (d : Dev) (p : Nat) (x : AptFrame) : Dev :=
  match x.slip with
  | none => d
  | some (ov, _) =>
    if ov then (d.bump (Reg.APT_SLIP p) 31 16).raise (Reg.pageAPT p) 3 0 else (d.bump (Reg.APT_SLIP p) 15 0).raise (Reg.pageAPT p) 2 0

/-- Slots sent in a frame of a running port: the mirror's, the matrix's, or nothing where masked (R543, R556). -/
def Dev.aptSlotsOut (d : Dev) (p count : Nat) (play : List (Nat × Nat)) (data : Bool) : List (Option Nat) :=
  (List.range (d.aptSlots p)).map fun s =>
    if !maskBit (d.apt p).masks.tx s then (if d.aptHiz p then none else some 0)
    else if !data then some 0
    else match play.find? fun q => q.1 == s with
      | some q => some (slotSample (d.aptBits p) q.2)
      | none => some (d.aptFromMatrix p count s)

/-- The last slots sent, for a slip toward the line. -/
def lastSlots (d : Dev) (p : Nat) : List (Option Nat) :=
  (d.outbox.reverse.findSome? fun o => match o with
    | .aptFrame q _ l => if q = p then some l else none
    | _ => none).getD []

/-- A frame start of a port. -/
def Dev.aptFrame (d : Dev) (mem : Mem) (p : Nat) (x : AptFrame) : Dev × Mem :=
  if d.aptState p = 0 ∨ !d.dataRuns then (d, mem)
  else
    let d0 := if (d.apt p).leadOutDue then
        (d.updApt p fun y => { y with leadOutDue := false, lead := 0 }).setAptState p 3 else d
    let d1 := ((d0.aptApplyMasks p (x.count % 2 ^ 32)).updApt p fun y => { y with lastTick := d.time }).setFlag (Reg.APT_STAT p) 2 true
    let clean := x.exact && d1.aptInWindow p
    let d2 := d1.setFld (Reg.APT_STAT p) 8 4 (if clean then min 16 (d1.fld (Reg.APT_STAT p) 8 4 + 1) else 0)
    let count := x.count % 2 ^ 32
    let zeros := List.replicate (d2.aptSlots p) 0
    match d2.aptState p with
    | 2 =>
      let d3 := d2.aptSlip p x
      let held := (d3.apt p).held
      let repeatIn := held || (match x.slip with | some (_, toLine) => !toLine | none => false)
      let rx := if repeatIn then (d3.apt p).rxLast else x.rx
      let d4 := (d3.aptToMatrix p count rx).updApt p fun y => { y with rxLast := rx }
      let cap := if d4.mirEn p && !d4.mirPlay p then d4.mirCapture mem p rx else (d4, mem)
      let pl := if cap.1.mirEn p && cap.1.mirPlay p then cap.1.mirPlayback cap.2 p else (cap.1, [])
      let toLine := match x.slip with | some (_, b) => b | none => false
      let out := if toLine then lastSlots d p else pl.1.aptSlotsOut p count pl.2 (!held)
      (pl.1.send (.aptFrame p count out), cap.2)
    | st =>
      let counts := d2.aptMaster p || clean || st == 3
      let d3 := if counts then d2.updApt p fun y => { y with lead := y.lead + 1 } else d2
      ((d3.aptToMatrix p count zeros).send (.aptFrame p count (d3.aptSlotsOut p count [] false)), mem)

def execAptFrame (n : Fin 16) (x : AptFrame) (s : State) := s.onBoth fun d m => d.aptFrame m n.val x

/-- The rate update (R547): outside the window RATE_CHG is set when the rate leaves it, and the received slots are held
(R548). -/
def Dev.aptRateUpdate (d : Dev) (p rate : Nat) : Dev :=
  let d1 := d.wrNat (Reg.APT_RATE p) rate
  let ok := d1.aptInWindow p
  let was := d.flag (Reg.APT_STAT p) 3
  let d2 := d1.setFlag (Reg.APT_STAT p) 3 ok
  if was && !ok then
    ((d2.raise (Reg.pageAPT p) 1 rate).updApt p fun x => { x with held := true }).setFld (Reg.APT_STAT p) 8 4 0
  else d2

def execAptRateUpdate (n : Fin 16) (rate : Nat) (s : State) := s.onDev fun d => d.aptRateUpdate n.val rate

/-- A slave port's clock is lost (R548). -/
def Dev.aptClkLost (d : Dev) (p : Nat) : Dev :=
  if d.aptMaster p ∨ d.aptState p = 0 then d
  else
    (((d.setFlag (Reg.APT_STAT p) 2 false).setFld (Reg.APT_STAT p) 8 4 0).raise (Reg.pageAPT p) 0 0).updApt p fun x =>
      { x with held := true }

def execAptClkLost (n : Fin 16) (s : State) := s.onDev fun d => d.aptClkLost n.val

/-- Data resumes after 16 clean frames (R549). -/
def Dev.aptResume (d : Dev) (p : Nat) : Dev :=
  if (d.apt p).held ∧ d.fld (Reg.APT_STAT p) 8 4 = 16 then d.updApt p fun x => { x with held := false } else d

def execAptResume (n : Fin 16) (s : State) := s.onDev fun d => d.aptResume n.val

/-- LEAD of a port. -/
def Dev.aptLead (d : Dev) (p : Nat) : Nat := d.live (Reg.APT_LEAD p) 12 0

/-- Lead-in is over (R550). -/
def Dev.aptLeadInDone (d : Dev) (p : Nat) : Dev :=
  if d.aptState p = 1 ∧ d.aptLead p ≤ (d.apt p).lead then d.setAptState p 2 else d

def execAptLeadInDone (n : Fin 16) (s : State) := s.onDev fun d => d.aptLeadInDone n.val

/-- A start of a port from OFF (R550). -/
def Dev.aptStart (d : Dev) (p : Nat) : Dev :=
  (d.updApt p fun x => { x with lead := 0, queued := false, silent := false, leadOutDue := false, held := false }).setAptState p 1

/-- Lead-out is over: the port reads OFF, and a queued start follows (R551). -/
def Dev.aptLeadOutDone (d : Dev) (p : Nat) : Dev :=
  if d.aptState p = 3 ∧ d.aptLead p ≤ (d.apt p).lead then
    let d1 := d.setAptState p 0
    if (d.apt p).queued && d.aptEn p then d1.aptStart p else d1
  else d

def execAptLeadOutDone (n : Fin 16) (s : State) := s.onDev fun d => d.aptLeadOutDone n.val

/-- Entry to SLEEP stops the ports without lead-out, and the return to RUN starts those enabled (R553). -/
def Dev.aptSleep (d : Dev) : Dev :=
  (List.range 16).foldl (fun a p =>
    if a.aptState p = 0 then a else (a.updApt p fun x => { x with leadOutDue := false, queued := false }).setAptState p 0) d
def Dev.aptWake (d : Dev) : Dev :=
  (List.range 16).foldl (fun a p => if a.aptEn p && a.aptState p == 0 && !(a.apt p).silent then a.aptStart p else a) d

/-! ### Commits (R541, R542, R551, R552, R554, R555) -/

/-- Checks of an APT commit on port p: `d` before, `e` after the commits due. -/
def aptCheck (d e : Dev) (p : Nat) : Option (Nat × Nat) :=
  let cfg := Reg.APT_CFG p + 0x800
  let fixed := fun (w : Word) => (w.toNat &&& 0x1FFFE) -- MASTER, FORMAT, SLOTS, SLOT_BITS, RATE96, DELAY, inversions, FS_WIDE
  if 49152000 < e.aptSlots p * e.aptBits p * e.aptFs p then some (0x01, 0x10)
  else if e.apt96 p && (e.live (Reg.APT_RX_BASE p) 12 0 % 2 == 1 || e.live (Reg.APT_TX_BASE p) 12 0 % 2 == 1) then some (0x0A, 0x62)
  else if d.aptState p ≠ 0 ∧ fixed (d.rd cfg) ≠ fixed (e.rd cfg) then some (0x0A, 0x71)
  else if d.mirEn p && [Reg.APT_MIR_MASK p, Reg.APT_MIR_FRAMES p, Reg.APT_MIR_BASE_LO p, Reg.APT_MIR_BASE_HI p].any fun r =>
      d.rd (r + 0x800) != e.rd (r + 0x800) then some (0x0A, 0x72)
  else none

/-- Has the write come within the last 4 BCLK cycles of a frame (R554)? From the time of the last frame start. -/
def Dev.aptTooLate (d : Dev) (p : Nat) : Bool :=
  let cycles := d.aptSlots p * d.aptBits p
  decide (d.aptState p ≠ 0) &&
    decide ((cycles - 4) * ticksPerSecond ≤ (d.time - (d.apt p).lastTick) * (cycles * d.aptFs p)) &&
    decide ((d.time - (d.apt p).lastTick) * (cycles * d.aptFs p) < cycles * ticksPerSecond)

/-- Effect of an applied APT commit. -/
def aptEffect (old d : Dev) (p : Nat) : Dev :=
  let changed := old.aptLiveMasks p ≠ d.aptLiveMasks p ∨ (!old.aptEn p && d.aptEn p)
  let late := d.aptTooLate p
  let d1 := if changed then d.updApt p fun x => { x with next := some (d.aptLiveMasks p, b2n late) } else d
  let d2 := if changed ∧ late = true then d1.raise (Reg.pageAPT p) 7 0 else d1
  if !old.aptEn p && d2.aptEn p then
    (match d2.aptState p with
      | 0 => if d2.dataRuns then d2.aptStart p else d2
      | _ => d2.updApt p fun x => { x with queued := true })
  else if old.aptEn p && !d2.aptEn p then
    (if d2.aptState p = 1 ∨ d2.aptState p = 2 then d2.updApt p fun x => { x with leadOutDue := true, queued := false }
    else d2.updApt p fun x => { x with queued := false })
  else d2

end Sys2Proof.Machine
end

