-- ==== Sys2Proof/Machine/Fabric.lean ====
section
/-!
DEFINITION. Fabric links (spec/10_fabric_and_placement.md, R372 to R408): frame lock, cells, lane identity, lanes in service,
raw circuits, placement items as they apply on this device (spec/11_hierarchy.md, R428), and moves of crossings.
-/

namespace Sys2Proof.Machine

open Sys2Proof

/-- Cell capacity C of a fabric lane, cells/s (R377). -/
def laneCapacity : Nat := 12402331

/-- Does a lane run the fabric frame: FABRIC role, or a twin lane (R377, R626)? -/
def Dev.isFabric (d : Dev) (n : Nat) : Bool := decide (192 ≤ n) || d.laneRole n == 5

/-! ### The FAB page (R407) -/

/-- FAB_STAT, FAB_RSV and the window on the lane that FAB_LN_SEL names. -/
def Dev.fabShow (d : Dev) : Dev :=
  let lanes := List.range 192
  let count := fun (p : Nat → Bool) => (lanes.filter p).length
  let svc := count fun n => d.flag (Reg.FAB_LN_STAT n) 3 && !d.flag (Reg.FAB_LN_STAT n) 4
  let crossings := ((d.hie.cross.filter fun c => decide (c.item.kind < 4)).map fun c => c.item.num).eraseDups.length
  let d1 := d.wrNat Reg.FAB_STAT (count (fun n => d.laneRole n == 5) + svc * 256 +
    count (fun n => d.flag (Reg.FAB_LN_STAT n) 4) * 65536 + min 255 crossings * 16777216)
  let d2 := d1.wrNat Reg.FAB_RSV (if d.inHierarchy then 16 + (if d.live Reg.FAB_CFG 1 0 = 2 then 16 else 0) * 256 + 25000 * 65536 else 0)
  let x := d2.fabLane (d2.fld Reg.FAB_LN_SEL 7 0)
  let half := fun (v : Nat) => (v - 1) / 2 ^ 20 % 2 ^ 32
  ((((((d2.wrNat Reg.FAB_LN_CNT_FRAME x.cntFrame).wrNat Reg.FAB_LN_CNT_BAD x.cntBad).wrNat Reg.FAB_LN_CNT_GAP x.cntGap).wrNat
    Reg.FAB_LN_CNT_CELLS x.cntCells).wrNat Reg.FAB_LN_ID_LO (half x.idLo)).wrNat Reg.FAB_LN_ID_HI (half x.idHi)).wrNat
      Reg.FAB_LN_LOAD ((if x.streams = [] then 0 else x.share % 512) + x.streams.length % 512 * 65536)

/-- Change the fabric use of a lane and show it. -/
def Dev.updFab (d : Dev) (n : Nat) (f : FabLane → FabLane) : Dev := (d.setFabLane n (f (d.fabLane n))).fabShow

/-- A saturating 32-bit count. -/
def sat32 (n : Nat) : Nat := min n (2 ^ 32 - 1)

/-! ### Frame lock (R383) -/

/-- Two good ALIGN blocks: frame lock. -/
def Dev.frameLock (d : Dev) (n : Nat) : Dev :=
  if d.isFabric n ∧ d.rxState n = rxLocked ∧ d.fabFrame n ≠ 2 then d.setFabFrame n 2 else d

def execFrameLock (n : Fin 196) (s : State) := s.onDev fun d => d.frameLock n.val

/-- Three bad frames: FRAME_LOST, the count, the lane out of service, and the hunt again. -/
def Dev.frameLost (d : Dev) (n : Nat) : Dev :=
  if d.fabFrame n ≠ 2 then d
  else
    let d1 := (d.fabLaneOut n).setFabFrame n 1
    (d1.updFab n fun x => { x with cntFrame := sat32 (x.cntFrame + 1), lseq := none }).raise Reg.pageFAB 0 0

def execFrameLockLost (n : Fin 196) (s : State) := s.onDev fun d => d.frameLost n.val

/-! ### Cells (R33, R38, R380, R384, R387, R401) -/

/-- The descriptor in the 32 bytes of R234. -/
def descOfBytes (l : List Byte) : Desc :=
  let f := fun (ofs n : Nat) => natLE ((l.drop ofs).take n)
  { width := f 0 2 % 8192, lines := f 2 2 % 8192, total := f 4 2 % 8192, spl := f 6 2 % 16384, rate := f 8 1 % 16,
    interlaced := f 8 1 / 16 % 2 == 1, psf := f 8 1 / 32 % 2 == 1, tp := f 9 1 % 8, sampling := f 10 1,
    color := f 11 1 % 16, xfer := f 11 1 / 16 % 4, fullRange := f 11 1 / 64 % 2 == 1, audio := f 12 1, anc := f 13 1 % 2 == 1,
    groupSize := f 14 1 % 8, member := f 14 1 / 16 % 4, square := f 14 1 / 64 % 2 == 1, kind := f 15 1 % 8,
    lead := f 16 2 % 1024, cells := f 18 1, seq := f 20 4 }

/-- The full frame number nearest to the present frame of a plane whose low 16 bits a header carries (R16). -/
def Dev.fullFrame (d : Dev) (tp f16 : Nat) : Nat :=
  let now := (d.coordNow tp).f
  let up := now + (f16 + 65536 - now % 65536) % 65536
  if up - now < 32768 ∨ up < 65536 then up else up - 65536

/-- The cell that a fabric cell stands for on this device. -/
def fabCellOf (x : FabCell) (frame : Nat) : Cell :=
  ⟨x.typ, x.tp, frame, x.line, x.idx, x.cc, x.sol, x.eol, x.sof, x.eof, x.invalid, x.subst, x.dseq, x.payload⟩

/-- The crossing that a receive lane and tag name (R400). -/
def Dev.crossOf (d : Dev) (lane tag : Nat) : Option LocalCross :=
  d.hie.cross.find? fun c => c.carrying && decide (c.item.kind < 4) && c.item.rxLane == some lane && c.item.rxTag == tag

/-- A descriptor from the fabric: kind 2, with this device's own SRC as its lead; a member of a group lies after its lead
(notes/assumptions/18.md). Its inputs come from the pool (R506, R507). -/
def Dev.fabDesc (d : Dev) (n f l : Nat) (y : Desc) : Dev :=
  let y1 : Desc := { y with kind := 2, lead := if y.groupSize = 4 then n - y.member else n }
  let d1 := d.updSrc n fun x => { x with groupSize := y.groupSize, member := y.member, lead := y1.lead, tp := y.tp }
  match (d1.src n).bind Source.desc with
  | some o =>
    if { y1 with seq := o.seq } = o then d1.writeCell n (descCell o f l)
    else (if o.audio = y1.audio then d1 else d1.allocIn n y1.audio).setDesc n y1 f l
  | none => (d1.allocIn n y1.audio).setDesc n y1 f l

/-- The channel words of an audio cell enter the matrix inputs of a fabric source; those of an INVALID cell as 0 (R509). -/
def Dev.fabAudio (d : Dev) (n : Nat) (c : Cell) : Dev :=
  match d.audio.poolIn.find? fun u => u.1 == n with
  | none => d
  | some (_, base, count) =>
    let word := fun (i : Nat) => natLE ((c.payload.drop (4 * i)).take 4)
    let block := word 0 % 8
    (List.range (word 0 / 16 % 4)).foldl (fun a p =>
      (List.range 16).foldl (fun b ch =>
        let k := 16 * block + ch
        if k < count then b.pushInput (base + k) (if c.invalid then 0 else word (1 + 16 * p + ch)) else b) a) d

/-- A good cell of a crossing enters the Hearth under the crossing's SRC; while a move is in progress the copy that comes
second is not written again (R401). -/
def Dev.fabCell (d : Dev) (lane : Nat) (x : FabCell) : Dev :=
  match d.crossOf lane x.tag with
  | none => d
  | some c =>
    let n := c.item.idx
    let cell := fabCellOf x (d.fullFrame x.tp x.frame)
    if x.typ = 3 then d.fabDesc n cell.frame cell.line (descOfBytes x.payload)
    else if (d.hie.moves.any fun m => m.src == n) && ((d.src n).any fun s => s.cells.any fun o =>
        o.typ == cell.typ && o.frame == cell.frame && o.line == cell.line && o.idx == cell.idx) then d
    else
      let d1 := if (d.src n).any fun s => s.valid != !cell.invalid then
          d.updSrc n fun s => { s with valid := !cell.invalid, everValid := s.everValid || !cell.invalid } else d
      let d2 := d1.writeCell n cell
      if x.typ = 1 then d2.fabAudio n cell else d2

/-- The raw circuit that a receive lane belongs to. -/
def Dev.rawOf (d : Dev) (lane : Nat) : Option PlaceItem :=
  (d.hie.cross.find? fun c => c.item.kind == 8 && c.item.rxLane == some lane).map LocalCross.item

/-- A missing raw cell, or a source out of lock: the egress transmitter repeats its bits and RAW_SLIP is set (R389). -/
def Dev.rawSlip (d : Dev) (lane : Nat) : Dev :=
  match (d.rawOf lane).bind PlaceItem.txLane with
  | some t => if d.laneRole t = 6 then (d.send (.rawRepeat t)).raise Reg.pageFAB 6 0 else d
  | none => d

/-- A cell slot of a fabric lane. -/
def Dev.fabCellRx (d : Dev) (n : Nat) (x : FabCell) : Dev :=
  if d.laneRole n ≠ 5 ∨ d.fabFrame n ≠ 2 then d
  else
    let raw := d.flag (Reg.FAB_LN_STAT n) 4
    let d1 := if x.bad = 0 then d
      else (d.updFab n fun y => { y with cntBad := sat32 (y.cntBad + x.bad) }).raise Reg.pageFAB 2 0
    if !x.framed then (if raw then d1.rawSlip n else d1)
    else
      let gap := (d.fabLane n).lseq.any fun l => (l + 1) % 256 != x.lseq % 256
      let d2 := d1.updFab n fun y => { y with
        cntCells := sat32 (y.cntCells + 1), lseq := some (x.lseq % 256), cntGap := if gap then sat32 (y.cntGap + 1) else y.cntGap }
      let d3 := if gap then d2.raise Reg.pageFAB 3 0 else d2
      let d4 := if gap && raw then d3.rawSlip n else d3
      if (fabCellOf x x.frame).hcrc x.tag ≠ x.hcrc then (if raw then d4.hdrErr.rawSlip n else d4.hdrErr)
      else if raw then
        (if x.typ = 4 then
          match (d4.rawOf n).bind PlaceItem.txLane with
          | some t => d4.send (.rawCell t (x.dseq % 4096) x.payload)
          | none => d4
        else d4)
      else d4.fabCell n x

def execFabricCellRx (n : Fin 192) (x : FabCell) (s : State) := s.onDev fun d => d.fabCellRx n.val x

/-! ### Raw circuits (R387 to R389) -/

/-- A RAW_CTL block: the bit count, kept over 256 frames with its device time, and passed on; without SRC_LOCK the egress
repeats. -/
def Dev.rawCtlRx (d : Dev) (n : Nat) (x : RawCtl) : Dev :=
  if d.laneRole n ≠ 5 ∨ !d.flag (Reg.FAB_LN_STAT n) 4 ∨ d.fabFrame n ≠ 2 then d
  else
    let d1 := d.updFab n fun y => { y with rawBits := ((x.bits, d.time) :: y.rawBits).take 257 }
    let d2 := match (d1.rawOf n).bind PlaceItem.txLane with
      | some t => if d1.laneRole t = 5 then d1.send (.rawCtl t x) else d1
      | none => d1
    if x.srcLock then d2 else d2.rawSlip n

def execRawCtlRx (n : Fin 192) (x : RawCtl) (s : State) := s.onDev fun d => d.rawCtlRx n.val x

/-- Egress rate of a raw circuit: bits and device time (2⁻¹⁶ ns) over the last 256 frames (R388). -/
def FabLane.rawRate (x : FabLane) : Option (Nat × Nat) :=
  match x.rawBits.head?, x.rawBits.getLast? with
  | some a, some b => if x.rawBits.length = 257 then some ((a.1 + 2 ^ 32 - b.1) % 2 ^ 32, a.2 - b.2) else none
  | _, _ => none

/-! ### Lane identity (R385, R177, R625) -/

/-- The bytes of a LANE_ID block as one number, from 1. -/
def laneIdKey (x : LaneId) : Nat :=
  1 + x.pos % 128 + x.unit % 2 * 128 + x.lane % 256 * 256 + x.role % 4 * 65536 + x.hash % 2 ^ 32 * 2 ^ 20

/-- Does an accepted half agree with the FAR_END entry of the lane and the Chart hash in force? -/
def Dev.idAgrees (d : Dev) (n key : Nat) (half : Bool) : Bool :=
  match d.hostif.chart with
  | none => false
  | some c =>
    let e := c.farEnd.getD n 0
    let k := key - 1
    let unit := e / 65536 % 4
    let hash := if half then c.hash / 2 ^ 32 % 2 ^ 32 else c.hash % 2 ^ 32
    e / 128 % 2 == 0 && e / 2 ^ 23 % 2 == 0 && k % 128 == e % 128 && k / 256 % 256 == e / 256 % 256 &&
      (unit == 2 || k / 128 % 2 == (if unit = 1 then 1 else 0)) && k / 2 ^ 20 % 2 ^ 32 == hash

/-- A LANE_ID block: a half is accepted when three in a row are the same; then the identity agrees, or is a mismatch that
takes the lane out of service. -/
def Dev.laneIdRx (d : Dev) (n : Nat) (x : LaneId) : Dev :=
  if !d.isFabric n ∨ d.fabFrame n ≠ 2 then d
  else
    let k := laneIdKey x
    let y := d.fabLane n
    let cand := if x.half then y.candHi else y.candLo
    let run := if cand = k then min 3 ((if x.half then y.runHi else y.runLo) + 1) else 1
    let y1 := if x.half then { y with candHi := k, runHi := run } else { y with candLo := k, runLo := run }
    if run < 3 then d.setFabLane n y1
    else
      let was := if x.half then y.idHi else y.idLo
      let y2 := if x.half then { y1 with idHi := k } else { y1 with idLo := k }
      let d1 := (d.setFabLane n y2).fabShow
      let d2 := if n < 192 then
          ((d1.setFld (Reg.FAB_LN_STAT n) 14 8 x.pos).setFld (Reg.FAB_LN_STAT n) 15 15 x.unit).setFld (Reg.FAB_LN_STAT n) 23 16 x.lane
        else d1
      let set := fun (a : Dev) (b : Bool) =>
        if n < 192 then a.setFlag (Reg.FAB_LN_STAT n) 2 b else a.setFabLane n { a.fabLane n with idOk := b }
      if d2.idAgrees n k x.half then
        (if y2.idLo ≠ 0 ∧ y2.idHi ≠ 0 ∧ d2.idAgrees n y2.idLo false ∧ d2.idAgrees n y2.idHi true then set d2 true else d2)
      else
        let d3 := (set d2 false).raise Reg.pageFAB 1 0
        let d4 := if was = k then d3 else d3.raiseLog Reg.pageSYS 3 (2 + n * 256)
        d4.fabLaneOut n

def execLaneIdRx (n : Fin 196) (x : LaneId) (s : State) := s.onDev fun d => d.laneIdRx n.val x

/-! ### Lanes in service (R386, R408) -/

/-- The conditions of R386. -/
def Dev.laneReady (d : Dev) (n : Nat) : Bool :=
  d.isFabric n && d.rxState n == rxLocked && d.fabFrame n == 2 && d.fabIdOk n && !d.flag (Reg.LN_STAT n) 12 &&
    (decide (192 ≤ n) || !d.liveFlag (Reg.FAB_LN_CFG n) 0)

/-- After 100 ms of all the conditions the lane is in service. -/
def Dev.laneInService (d : Dev) (n : Nat) : Dev :=
  if !d.laneReady n ∨ d.fabSvc n then d
  else if n < 192 then ((d.setFlag (Reg.FAB_LN_STAT n) 3 true).statusIrq Reg.pageFAB 8).fabShow
  else (d.setFabLane n { d.fabLane n with svc := true }).claspShow

/-! ### Placement items (R400, R401, R428) -/

/-- A stream takes a share of a lane's transmit direction, and leaves it (R391). -/
def Dev.laneAdd (d : Dev) (l n share : Nat) : Dev :=
  (d.updFab l fun x => { x with streams := x.streams ++ [n], share := share }).hrtRefresh
def Dev.laneDrop (d : Dev) (l n : Nat) : Dev :=
  (d.updFab l fun x => { x with streams := x.streams.erase n }).hrtRefresh

/-- A crossing's path on this device comes into force: its receive side feeds SRC idx, whose rate is the lane's share, and
its transmit side takes its share of the lane (R329, R391, R400). -/
def Dev.pathAdd (d : Dev) (item : PlaceItem) : Dev :=
  let d1 : Dev := { d with hie := { d.hie with cross := d.hie.cross ++ [⟨item, true⟩] } }
  let d2 := match item.rxLane with
    | some l =>
      if (d1.src item.idx).isNone then
        d1.setSrc item.idx (some { Source.fresh 2 l false item.tp.val (laneCapacity / max 1 item.sc) with lead := item.idx })
      else d1
    | none => d1
  let d3 := match item.txLane with
    | some l => d2.laneAdd l item.idx item.sc
    | none => d2
  let d4 := if item.rxLane.isNone && item.txLane.isSome then
      d3.allocOut item.num item.idx ((((d3.src item.idx).bind Source.desc).map Desc.audio).getD 0) else d3
  d4.fabShow

/-- A path leaves: its share of the lane, and its source when nothing else feeds it (R392). -/
def Dev.pathDrop (d : Dev) (c : LocalCross) : Dev :=
  let d1 : Dev := { d with hie := { d.hie with cross := d.hie.cross.erase c } }
  let d2 := match c.item.txLane with
    | some l => d1.laneDrop l c.item.idx
    | none => d1
  let d3 := match c.item.rxLane with
    | some _ =>
      if d2.hie.cross.any fun o => o.item.rxLane.isSome && o.item.idx == c.item.idx && decide (o.item.kind < 4) then d2
      else (d2.removeSrc c.item.idx).allocIn c.item.idx 0
    | none => if d2.hie.cross.any fun o => o.item.num == c.item.num then d2 else d2.freeOut c.item.num
  d3.fabShow

/-- Paths of a crossing. -/
def Dev.pathsOf (d : Dev) (num : Nat) : List LocalCross :=
  d.hie.cross.filter fun c => c.item.num == num && decide (c.item.kind < 4)

/-- The lane of a path that a move changes: the receive lane at the receiving edge, else the transmit lane. -/
def pathLane (i : PlaceItem) : Nat := (i.rxLane.getD (i.txLane.getD 255))

/-- RAW on the fabric lanes of a raw circuit (R46, R428), and REMOTE on a circuit of this device that a fabric lane feeds
(R364). -/
def Dev.rawMark (d : Dev) (item : PlaceItem) (b : Bool) : Dev :=
  let d1 := ((item.rxLane.toList ++ item.txLane.toList).filter fun l => d.laneRole l == 5).foldl (fun a l =>
    (a.setFlag (Reg.FAB_LN_STAT l) 4 b).updFab l fun x => { x with rawBits := [] }) d
  match item.rxLane, item.txLane with
  | some r, some t =>
    if d.laneRole r = 5 ∧ d.laneRole t = 6 then d1.setFlag (Reg.TAKE_CIRC_STAT t) 9 b else d1
  | _, _ => d1

/-- An engine assigned to a destination, and released (R474). -/
def Dev.engineAdd (d : Dev) (item : PlaceItem) : Dev :=
  let k := item.idx % 2048
  let put := fun (a : Dev) (r v : Nat) => (a.wrNat r v).wrNat (r + 0x800) v
  if item.engine = 0 then
    (if (d.store k).isSome then d else d.setStore k (some (Store.fresh (max 1 (d.depthNeeded k)))))
  else
    (put (put d (Reg.SWG_CFG (item.num % 32)) 1) (Reg.SWG_BIND (item.num % 32)) (k + (if item.engine = 2 then 4096 else 0))).placeSwages k
def Dev.engineDrop (d : Dev) (item : PlaceItem) : Dev :=
  let k := item.idx % 2048
  if item.engine = 0 then d.setStore k none
  else
    let g := item.num % 32
    (((d.wrNat (Reg.SWG_CFG g) 0).wrNat (Reg.SWG_CFG g + 0x800) 0).wrNat (Reg.SWG_STAT g) 0).setFld (Reg.FS_DST_PLACE k) 2 1
      (if item.engine = 2 then 1 else 0) |>.fsRefresh

/-- A placement item applies at the frame it names. -/
def Dev.applyItem (d : Dev) (item : PlaceItem) : Dev :=
  match item.kind with
  | 0 => d.pathAdd item
  | 1 =>
    ((d.pathsOf item.num).filter fun c => c.item.rxLane == item.rxLane && c.item.txLane == item.txLane).foldl Dev.pathDrop d
  | 2 =>
    let old := d.pathsOf item.num
    let d1 := d.pathAdd item
    match old with
    | c :: _ =>
      { d1 with hie := { d1.hie with moves := d1.hie.moves ++ [⟨item.num, item.idx, item.f + 1, item.tp.val, pathLane c.item,
        pathLane item, item.rxTag, laneCapacity / max 1 item.sc, false, false⟩] } }
    | [] => d1
  | 3 =>
    { d with hie := { d.hie with moves := d.hie.moves.map fun m => if m.crossing = item.num then { m with fMove := item.f } else m } }
  | 4 => d.engineAdd item
  | 5 => d.engineDrop item
  | 6 => ({ d with hie := { d.hie with surfs := (d.hie.surfs ++ [item.num]).eraseDups } } : Dev).surfRefresh
  | 7 => ({ d with hie := { d.hie with surfs := d.hie.surfs.filter fun m => m != item.num } } : Dev).surfRefresh
  | 8 => ({ d with hie := { d.hie with cross := d.hie.cross ++ [⟨item, true⟩] } } : Dev).rawMark item true
  | 9 =>
    let gone := d.hie.cross.filter fun c => c.item.kind == 8 && c.item.num == item.num
    gone.foldl (fun a c => a.rawMark c.item false)
      ({ d with hie := { d.hie with cross := d.hie.cross.filter fun c => !(c.item.kind == 8 && c.item.num == item.num) } } : Dev)
  | _ => d

/-- A held item whose frame has come. -/
def Dev.placeApply (d : Dev) (item : PlaceItem) : Dev :=
  if d.hie.placeDue.contains item && decide (d.instantOf ⟨item.tp.val, item.f, 1, 0⟩ ≤ d.time) then
    ({ d with hie := { d.hie with placeDue := d.hie.placeDue.erase item } } : Dev).applyItem item
  else d

def execPlaceItemApply (item : PlaceItem) (s : State) := s.onDev fun d => d.placeApply item

/-! ### Moves (R401 to R403) -/

/-- The old path of a move is released and FAB_MOVES counts it. -/
def Dev.moveSplice (d : Dev) (num : Nat) : Dev :=
  match d.hie.moves.find? fun m => m.crossing == num with
  | none => d
  | some m =>
    if d.time < d.instantOf ⟨m.tp, m.fMove, 1, 0⟩ then d
    else
      let d1 := ((d.pathsOf num).filter fun c => pathLane c.item == m.oldLane).foldl Dev.pathDrop d
      ({ d1 with hie := { d1.hie with moves := d1.hie.moves.erase m } } : Dev).bump Reg.FAB_MOVES 31 0

def execMoveSplice (crossing : Nat) (s : State) := s.onDev fun d => d.moveSplice crossing

/-- A move whose new path has failed before F_move is abandoned: the old path stays. -/
def Dev.moveAbort (d : Dev) (num : Nat) : Dev :=
  match d.hie.moves.find? fun m => m.crossing == num && m.newFailed with
  | none => d
  | some m =>
    if d.instantOf ⟨m.tp, m.fMove, 1, 0⟩ ≤ d.time then d
    else
      let d1 := ((d.pathsOf num).filter fun c => pathLane c.item == m.newLane).foldl Dev.pathDrop d
      ({ d1 with hie := { d1.hie with
        moves := d1.hie.moves.erase m
        placeDue := d1.hie.placeDue.filter fun i => !(i.kind == 3 && i.num == num) } } : Dev).raise Reg.pageFAB 5 0

def execMoveAbort (crossing : Nat) (s : State) := s.onDev fun d => d.moveAbort crossing

/-! ### Commits (R373, R386) -/

/-- A CENTRE has no lane enabled in a role other than FABRIC (R373). -/
def Dev.centreFront (e : Dev) : Bool :=
  e.live Reg.FAB_CFG 1 0 == 2 && (List.range 192).any fun n => e.laneRole n != 0 && e.laneRole n != 5

/-- Checks of a FAB commit. -/
def fabCheck (d e : Dev) : Option (Nat × Nat) :=
  if e.centreFront then some (0x0A, 0x42)
  else if d.live Reg.FAB_CFG 1 0 ≠ e.live Reg.FAB_CFG 1 0 ∧ d.hie.cross ≠ [] then some (0x0A, 0x41)
  else none

/-- Effect of an applied FAB commit: an excluded lane leaves service. -/
def fabEffect (old d : Dev) : Dev :=
  let d1 := (List.range 192).foldl (fun a n =>
    let x := a.liveFlag (Reg.FAB_LN_CFG n) 0
    if old.liveFlag (Reg.FAB_LN_CFG n) 0 = x then a
    else
      let b := a.setFlag (Reg.FAB_LN_STAT n) 5 x
      if x then b.fabLaneOut n else b) d
  d1.fabShow.hrtRefresh

/-- What a change of role does to a lane's fabric status: it hunts for the frame in FABRIC role, and shows nothing in any
other (R383). -/
def fabRoleEffect (old d : Dev) (n : Nat) : Dev :=
  if 192 ≤ n ∨ (old.laneRole n == 5) = (d.laneRole n == 5) then d
  else if d.laneRole n = 5 then ((d.setFabFrame n 1).setFlag (Reg.FAB_LN_STAT n) 5 (d.liveFlag (Reg.FAB_LN_CFG n) 0)).fabShow
  else (((d.fabLaneOut n).setFabLane n FabLane.reset).wrNat (Reg.FAB_LN_STAT n) 0).fabShow

end Sys2Proof.Machine
end

