-- ==== Sys2Proof/Machine/Dram.lean ====
section
/-!
DEFINITION. The DRAM controller and the bus matrix (spec/16_memory_and_interconnect.md).
-/

namespace Sys2Proof.Machine

open Sys2Proof

/-! ### Geometry and address mapping (R559 to R563) -/

/-- Change the controller's own state. -/
def Dev.onDram (d : Dev) (f : Dram → Dram) : Dev := { d with dram := f d.dram }

/-- A count kept sparse, 0 when unlisted. -/
def cnt (l : List (Nat × Nat)) (k : Nat) : Nat := Sparse.get (fun _ => 0) l k

/-- Store a count kept sparse. -/
def setCnt (l : List (Nat × Nat)) (k v : Nat) : List (Nat × Nat) := Sparse.set (fun _ => 0) l k v

/-- The fitted DRAM as DDR_CFG has it: channels, MAP, x8, bytes of one rank of one subchannel, ranks. -/
structure DramGeo where
  channels : Nat
  map : Nat
  x8 : Bool
  sub : Nat
  ranks : Nat
  deriving DecidableEq, Repr

/-- The geometry of a DDR_CFG word (R559, R584): a subchannel of 32 data bits has 4 x8 or 8 x4 devices. -/
def dramGeoOf (w : Word) : DramGeo :=
  let perDevice := match bits w 10 9 with | 0 => 2 | 1 => 3 | 2 => 4 | _ => 0
  let x8 := bit w 8
  ⟨bits w 3 0, bits w 5 4, x8, perDevice * (if x8 then 4 else 8) * 2 ^ 30, bits w 12 12 + 1⟩

/-- The geometry in force. -/
def Dev.dramGeo (d : Dev) : DramGeo := dramGeoOf (d.rd (Reg.DDR_CFG + 0x800))

/-- Bytes of one rank across both subchannels. -/
def DramGeo.rankBytes (g : DramGeo) : Nat := 2 * g.sub

/-- Bytes of one channel. -/
def DramGeo.chBytes (g : DramGeo) : Nat := g.ranks * g.rankBytes

/-- Fitted capacity. -/
def DramGeo.bytes (g : DramGeo) : Nat := g.channels * g.chBytes

/-- C of R562: log2 of the bursts per row of one subchannel and rank. -/
def DramGeo.colBits (g : DramGeo) : Nat := if g.x8 then 6 else 7

/-- n of MAP 3: log2 of the channels. -/
def DramGeo.chBits (g : DramGeo) : Nat := match g.channels with | 2 => 1 | 4 => 2 | 8 => 3 | _ => 0

/-- MAP 3 interleaves only with more than one channel (R563). -/
def DramGeo.interleaved (g : DramGeo) : Bool := g.map == 3 && g.chBits != 0

/-- A DDR_CFG the controller supports (R559, R563). -/
def ddrCfgOk (w : Word) : Bool :=
  let g := dramGeoOf w
  [1, 2, 4, 8].contains g.channels && g.sub != 0 && decide (g.chBytes ≤ 32 * 2 ^ 30) && decide (bits w 18 16 ≤ 4) &&
    !(g.map == 1 && bits w 10 9 == 1)

/-- Fitted peak in 10⁶ B/s (R560): channels of 64 data bits at the speed. -/
def ddrPeak (w : Word) : Nat :=
  let mts := match bits w 18 16 with | 0 => 4800 | 1 => 5200 | 2 => 5600 | 3 => 6000 | 4 => 6400 | _ => 0
  bits w 3 0 * 8 * mts

/-- Where an address lies in DRAM (R562). -/
structure DramPlace where
  ch : Nat
  sub : Nat
  rank : Nat
  bank : Nat
  row : Nat
  col : Nat
  byte : Nat
  deriving DecidableEq, Repr

/-- Channel and local address of p (R562). -/
def DramGeo.split (g : DramGeo) (p : Nat) : Nat × Nat :=
  if g.interleaved then
    let n := g.chBits
    let m := 2 ^ n
    let gr := p / 256
    ((gr % m) ^^^ (gr / m % m) ^^^ (gr / (m * m) % m), gr / m * 256 + p % 256)
  else (p / g.chBytes, p % g.chBytes)

/-- The address p of a channel and its local address. -/
def DramGeo.join (g : DramGeo) (ch a : Nat) : Nat :=
  if g.interleaved then
    let m := 2 ^ g.chBits
    let up := a / 256
    (up * m + (ch ^^^ (up % m) ^^^ (up / m % m))) * 256 + a % 256
  else ch * g.chBytes + a

/-- The DRAM place of an address (R562). -/
def DramGeo.place (g : DramGeo) (p : Nat) : DramPlace :=
  let ca := g.split p
  let rank := ca.2 / g.rankBytes
  let o := ca.2 % g.rankBytes
  let c := g.colBits
  let byte := o % 64
  let sub := o / 64 % 2
  if g.map = 0 then
    ⟨ca.1, sub, rank, o / 2 ^ (7 + c) % 32, o / 2 ^ (12 + c), o / 128 % 2 ^ c, byte⟩
  else if g.map = 1 then
    let low := g.rankBytes / 32
    ⟨ca.1, sub, rank, o / low, o % low / 2 ^ (7 + c), o / 128 % 2 ^ c, byte⟩
  else
    let row := o / 2 ^ (12 + c)
    ⟨ca.1, sub, rank, (o / 128 % 32) ^^^ (row % 32), row, o / 2 ^ 12 % 2 ^ c, byte⟩

/-- Number 0 to 15 of the subchannel of an address: 2 × channel + subchannel. -/
def DramGeo.scOf (g : DramGeo) (p : Nat) : Nat := let l := g.place p; 2 * l.ch + l.sub

/-- Key of the bank of an address among the open rows. -/
def DramPlace.bankKey (l : DramPlace) : Nat := ((2 * l.ch + l.sub) * 2 + l.rank) * 32 + l.bank

/-- A channel serves requests: DDR_CH_STAT reads ACTIVE. -/
def Dev.chActive (d : Dev) (ch : Nat) : Bool := d.fld (Reg.DDR_CH_STAT ch) 3 2 == 1

/-! ### Requests and commands (R564 to R568, R574) -/

/-- DDR_PSTAT shows the port of DDR_PSEL (R584). -/
def Dev.ddrShow (d : Dev) : Dev :=
  let p := d.fld Reg.DDR_PSEL 4 0
  let pend := (d.dram.reqs.filter fun r => r.port == p).length
  d.wrNat Reg.DDR_PSTAT (satNat 16 (cnt d.dram.longest p / 65536 / 10) + satNat 16 pend * 0x10000)

/-- A rank leaves power-down for a request (R568). -/
def Dev.rankWake (d : Dev) (l : DramPlace) : Dev := d.setFlag (Reg.DDR_CH_STAT l.ch) (4 + 2 * l.sub + l.rank) false

/-- A request is accepted at a port and starts ageing (R565). -/
def Dev.dramRequest (d : Dev) (port p len : Nat) (data : Option (List Byte)) (keepOpen : Bool) : Dev :=
  ((d.onDram fun m => { m with reqs := m.reqs ++ [⟨port, p, len, data, keepOpen, d.time⟩] }).rankWake
    (d.dramGeo.place p)).ddrShow

/-- Urgency of a request of an age (R565), ages and TARGET in 2⁻¹⁶ ns. -/
def urgency (age target : Nat) : Nat :=
  if 2 * age < target then 0 else if 4 * age < 3 * target then 1 else if age < target then 2 else 3

/-- TARGET of a port in 2⁻¹⁶ ns. -/
def Dev.ddrTarget (d : Dev) (port : Nat) : Nat := d.live (Reg.DDR_P_CFG port) 15 0 * 65536

/-- Is one request chosen before another that is younger (R566)? -/
def Dev.ddrBefore (d : Dev) (a b : DramReq) : Bool :=
  let ua := urgency (d.time - a.at_) (d.ddrTarget a.port)
  let ub := urgency (d.time - b.at_) (d.ddrTarget b.port)
  let pa := d.live (Reg.DDR_P_CFG a.port) 19 16
  let pb := d.live (Reg.DDR_P_CFG b.port) 19 16
  decide (ua > ub) || (ua == ub && decide (pa ≥ pb))

/-- The request of highest urgency, then highest PRI, then oldest, of a list in order of age (R566). -/
def Dev.ddrChoose (d : Dev) : List DramReq → Option DramReq
  | [] => none
  | r :: t =>
    match d.ddrChoose t with
    | none => some r
    | some q => if d.ddrBefore r q then some r else some q

/-- Drop each request that follows another to the same burst: those are served in arrival order (R566). -/
def firstPerBurst : List DramReq → List Nat → List (DramReq × Bool)
  | [], _ => []
  | r :: t, seen => (r, !seen.contains (r.p / 64)) :: firstPerBurst t (r.p / 64 :: seen)

/-- Requests of a subchannel, oldest first, each with whether it is the first to its burst. -/
def Dev.scReqs (d : Dev) (sc : Nat) : List (DramReq × Bool) :=
  firstPerBurst (d.dram.reqs.filter fun r => d.dramGeo.scOf r.p == sc) []

/-- Requester ports 15 to 23 and the bus-matrix masters whose DRAM traffic they carry (R564). -/
def portMaster (port : Nat) : Option Nat :=
  match port with
  | 15 => some 0 | 16 => some 1 | 17 => some 2 | 18 => some 4 | 19 => some 6 | 20 => some 7 | 21 => some 8 | 22 => some 13
  | 23 => some 12 | _ => none

/-- Count, record and report what the code found in a burst at p (R574). -/
def Dev.eccEffect (d : Dev) (p : Nat) (ecc : DramEcc) : Dev :=
  let ch := (d.dramGeo.split p).1
  let record : Bool → Dev → Dev := fun ue e =>
    (e.wrNat (Reg.DDR_CH_ERR_ADDR_LO ch) (p % 2 ^ 32)).wrNat (Reg.DDR_CH_ERR_ADDR_HI ch)
      (p / 2 ^ 32 % 256 + b2n ue * 0x80000000)
  let d1 := if ecc.corrected = 0 then d
    else (record false (d.bumpBy (Reg.DDR_CH_CE ch) 31 0 ecc.corrected)).raise (Reg.pageDDRCH ch) 0 0
  if ecc.uncorrectable = 0 then d1
  else (record true (d1.bumpBy (Reg.DDR_CH_UE ch) 31 0 ecc.uncorrectable)).raiseLog (Reg.pageDDRCH ch) 1 (p / 256)

/-- DDR_CH_UTIL: bytes of the accesses of the last second, in 10⁶ B/s (R585). -/
def Dev.utilShow (d : Dev) (ch : Nat) : Dev :=
  let l := (Sparse.get (fun _ => []) d.dram.used ch).filter fun t => decide (d.time - t < 65536000000000)
  (d.onDram fun m => { m with used := Sparse.set (fun _ => []) m.used ch l }).wrNat (Reg.DDR_CH_UTIL ch)
    (l.length * 64 / 1000000)

/-- The effect of a column command (R565, R567, R574): lateness, data, page hint, error report. -/
def Dev.columnCmd (d : Dev) (m : Mem) (r : DramReq) (ecc : DramEcc) : Dev × Mem :=
  let l := d.dramGeo.place r.p
  let age := d.time - r.at_
  let d1 := if age > d.ddrTarget r.port then (d.bump (Reg.DDR_P_LATE r.port) 31 0).raise Reg.pageDDRENG 0 0 else d
  let d2 := d1.onDram fun q => { q with
    reqs := q.reqs.erase r
    longest := setCnt q.longest r.port (max (cnt q.longest r.port) age)
    rows := if r.keepOpen then q.rows else q.rows.filter fun x => x.1 != l.bankKey
    used := Sparse.set (fun _ => []) q.used l.ch (d.time :: Sparse.get (fun _ => []) q.used l.ch) }
  let d3 := (d2.utilShow l.ch).ddrShow
  match r.data with
  | some b =>
    let d4 := match portMaster r.port with
      | some ms => d3.send (.busReply ms 1 (0x4000000000 + r.p) none .ok)
      | none => d3
    (d4, m.setBytes true r.p b)
  | none =>
    let b := m.bytes true r.p r.len
    let bad := decide (0 < ecc.uncorrectable)
    let d4 := d3.eccEffect r.p ecc
    let d5 := match portMaster r.port with
      | some ms => d4.send (.busReply ms 1 (0x4000000000 + r.p) (some (if bad && ms != 0 then b.map fun _ => 0xFF else b))
          (if !bad then .ok else if ms = 0 then .poisoned else .error))
      | none => d4.send (.dramData r.port r.p b bad)
    (d5, m)

/-- A refresh of a subchannel: one owed refresh less, every row of it closed (R566, R567). -/
def Dev.refreshCmd (d : Dev) (sc : Nat) : Dev :=
  d.onDram fun q => { q with
    owed := setCnt q.owed sc (cnt q.owed sc - 1)
    rows := q.rows.filter fun x => x.1 / 64 != sc }

/-- One cycle of a subchannel with a free command slot (R566). The next command of a request is an activate when its bank
is closed, a precharge when another row is open, and else its read or write. -/
def Dev.dramCycle (d : Dev) (m : Mem) (sc : Nat) (meets : List Nat) (ecc : DramEcc) : Dev × Mem :=
  let owed := cnt d.dram.owed sc
  if !d.chActive (sc / 2) then (d, m)
  else if owed ≥ 4 then (d.refreshCmd sc, m)
  else
    let all := d.scReqs sc
    let c := (all.zipIdx.filter fun x => x.1.2 && meets.contains x.2).map fun x => x.1.1
    match d.ddrChoose c with
    | none => if owed > 0 then (d.refreshCmd sc, m) else (d, m)
    | some r =>
      let l := d.dramGeo.place r.p
      match d.dram.rows.find? fun x => x.1 == l.bankKey with
      | none => (d.onDram fun q => { q with rows := (l.bankKey, l.row) :: q.rows }, m)
      | some x =>
        if x.2 ≠ l.row then (d.onDram fun q => { q with rows := q.rows.filter fun y => y.1 != l.bankKey }, m)
        else d.columnCmd m r ecc

/-- DRAM_REQUEST (R565): a port asks for bytes of one burst of the fitted DRAM. -/
def execDramRequest (port : Fin 24) (p len : Nat) (data? : Option (List Byte)) (keepOpen : Bool) (s : State) :
    Host.Outcome State Fault Refusal :=
  guarded (burstOk p len data?)
    (if s.dev.dramGeo.bytes ≤ p then .fault .noDram else s.onDev fun d => d.dramRequest port.val p len data? keepOpen)

/-- DRAM_COMMAND_ISSUE (R566). -/
def execDramCommandIssue (sc : Fin 16) (meets : List Nat) (ecc : DramEcc) (s : State) : Host.Outcome State Fault Refusal :=
  guarded (eccOk ecc) (s.onBoth fun d m => d.dramCycle m sc.val meets ecc)

/-- REFRESH_DUE (R566). -/
def execRefreshDue (sc : Fin 16) (s : State) : Host.Outcome State Fault Refusal :=
  s.onDev fun d =>
    if d.chActive (sc.val / 2) then d.onDram fun q => { q with owed := setCnt q.owed sc.val (cnt q.owed sc.val + 1) }
    else d

/-- RANK_POWER_DOWN (R568). -/
def execRankPowerDown (sc : Fin 16) (rank : Fin 2) (s : State) : Host.Outcome State Fault Refusal :=
  s.onDev fun d =>
    let ch := sc.val / 2
    let n := 4 + 2 * (sc.val % 2) + rank.val
    let busy := d.dram.reqs.any fun r =>
      let l := d.dramGeo.place r.p
      2 * l.ch + l.sub == sc.val && l.rank == rank.val
    if !d.chActive ch || !d.liveFlag (Reg.DDR_CH_PD ch) 16 || busy || d.flag (Reg.DDR_CH_STAT ch) n ||
        decide (d.dramGeo.ranks ≤ rank.val) then d
    else
      ((d.setFlag (Reg.DDR_CH_STAT ch) n true).bump (Reg.DDR_CH_PD_CNT ch) 31 0).onDram fun q =>
        { q with rows := q.rows.filter fun x => x.1 / 32 != sc.val * 2 + rank.val }

/-! ### Training, temperature and scrubbing (R569 to R575) -/

/-- One periodic training run of a subchannel (R572). -/
def Dev.trainRun (d : Dev) (sc : Nat) (ok : Bool) : Dev :=
  let a := Reg.DDR_CH_TRAIN_CNT (sc / 2)
  let d1 := d.bump a 15 0
  if ok then d1.onDram fun q => { q with trainFails := setCnt q.trainFails sc 0 }
  else
    let n := cnt d.dram.trainFails sc + 1
    let d2 := (d1.bump a 31 16).onDram fun q => { q with trainFails := setCnt q.trainFails sc n }
    if n = 3 then d2.raiseLog (Reg.pageDDRCH (sc / 2)) 2 (sc % 2) else d2

/-- The MR4 readings of a channel in a training window (R570). -/
def Dev.mr4 (d : Dev) (ch : Nat) (hot : Bool) : Dev :=
  let a := Reg.DDR_CH_STAT ch
  if hot then
    ((d.setFlag a 8 true).onDram fun q => { q with cool := setCnt q.cool ch 0 }).raise (Reg.pageDDRCH ch) 3 0
  else
    let n := cnt d.dram.cool ch + 1
    let d1 := d.onDram fun q => { q with cool := setCnt q.cool ch n }
    if n ≥ 10 then d1.setFlag a 8 false else d1

/-- Periodic training of every subchannel, on exit from self-refresh (R569). -/
def Dev.trainAll (d : Dev) : Dev :=
  (List.range (2 * d.dramGeo.channels)).foldl (fun acc sc => acc.trainRun sc true) d

/-- Put every trained channel in self-refresh (R569), or back to ACTIVE with the training of R569. -/
def Dev.dramSelfRefresh (d : Dev) (on : Bool) : Dev :=
  let chans := (List.range d.dramGeo.channels).filter fun ch => d.flag (Reg.DDR_CH_STAT ch) 1
  let d1 := chans.foldl (fun acc ch => acc.setFld (Reg.DDR_CH_STAT ch) 7 2 (if on then 2 else 1)) d
  if on then (d1.onDram fun q => { q with rows := [] }).setFlag Reg.DDR_STAT 8 false
  else if chans.isEmpty then d1 else (d1.setFlag Reg.DDR_STAT 8 true).trainAll

/-- PERIODIC_TRAINING (R570, R572, R573). -/
def execPeriodicTraining (ok : Bool) (hot : List (Fin 8)) (s : State) : Host.Outcome State Fault Refusal :=
  s.onDev fun d =>
    let n := 2 * d.dramGeo.channels
    if n = 0 then d
    else
      let sc := d.dram.trainNext % n
      if !d.chActive (sc / 2) then d
      else
        let d1 := (d.onDram fun q => { q with trainNext := (sc + 1) % n }).trainRun sc ok
        (List.range d.dramGeo.channels).foldl
          (fun acc ch => if acc.chActive ch then acc.mr4 ch (hot.any fun h => h.val == ch) else acc) d1

/-- DRAM_SCRUB_READ (R575): corrected data written back leaves the contents as they are; the position moves on. -/
def execDramScrubRead (ch : Fin 8) (ecc : DramEcc) (s : State) : Host.Outcome State Fault Refusal :=
  guarded (eccOk ecc) (s.onDev fun d =>
    let g := d.dramGeo
    if !d.liveFlag Reg.DDR_SCRUB 31 || !d.chActive ch.val || decide (g.channels ≤ ch.val) then d
    else
      let a := cnt d.dram.scrub ch.val
      let nxt := if a + 64 ≥ g.chBytes then 0 else a + 64
      ((d.eccEffect (g.join ch.val a) ecc).onDram fun q => { q with scrub := setCnt q.scrub ch.val nxt }).setFld
        (Reg.DDR_CH_SCRUB_POS ch.val) 15 0 (nxt / 2 ^ 20))

/-! ### The bus matrix (R576 to R583) -/

/-- Targets with their windows, T8 apart (R576): target, base, size. -/
def busWindows : List (Nat × Nat × Nat) :=
  [(0, 0x0000000000, 64 * 2 ^ 20), (2, 0x0010000000, 256 * 2 ^ 20), (3, 0x0020000000, 16 * 2 ^ 20),
    (4, 0x0030000000, 64 * 2 ^ 20), (5, 0x0034000000, 64 * 2 ^ 10), (6, 0x0035000000, 64 * 2 ^ 10),
    (7, 0x0036000000, 256 * 2 ^ 10), (9, 0x0037000000, 2 ^ 20), (10, 0x0038000000, 4 * 2 ^ 20)]

/-- DRAM window of the matrix (R576). -/
def busDramBase : Nat := 0x4000000000

/-- The window a transaction of `len` bytes falls in, and whether all of it is in the part fitted (R576). -/
def Dev.busTarget (d : Dev) (addr len : Nat) : Option (Nat × Bool) :=
  if addr ≥ 2 ^ 63 then some (8, true)
  else
    match busWindows.find? fun w => decide (w.2.1 ≤ addr) && decide (addr < w.2.1 + w.2.2) with
    | some w => some (w.1, decide (addr + len ≤ w.2.1 + w.2.2))
    | none =>
      if busDramBase ≤ addr ∧ addr < busDramBase + 2 ^ 38 then
        some (1, decide (addr + len ≤ busDramBase + d.dramGeo.bytes))
      else none

/-- The targets a master has a path to (R577). -/
def busPaths (master : Nat) : List Nat :=
  match master with
  | 0 => [0, 1]
  | 1 => [0, 1, 2, 3, 4, 5, 6, 7, 8, 9, 10]
  | 2 => [1, 2, 3, 4, 10]
  | 3 => [0, 5, 10]
  | 4 => [0, 1, 2, 5]
  | 5 => [0, 2, 5]
  | 6 => [1, 2]
  | 7 => [0, 1, 8]
  | 8 => [1, 8, 10]
  | 9 => [0, 6]
  | 10 => [0, 10]
  | 11 => [2]
  | 12 => [0, 1, 10]
  | 13 => [0, 1, 2]
  | _ => []

/-- Does a path exist now (R577)? DEBUG has its paths only under test access. -/
def Dev.busPath (d : Dev) (master target : Nat) : Bool :=
  (busPaths master).contains target && (master != 12 || d.hal.testAccess)

/-- May a master reach these bytes? Banks A and B, the top 128 MB of fitted DRAM, are open to CORES and HALLMARK alone (R714). -/
def Dev.bankOpen (d : Dev) (master addr len : Nat) : Bool :=
  master == 1 || master == 2 || decide (addr + len + 134217728 ≤ busDramBase + d.dramGeo.bytes)

/-- A response of the default target: all ones for a read, an error (R578). -/
def Dev.busError (d : Dev) (t : BusTx) : Dev :=
  d.send (.busReply t.master t.target t.addr (if t.data.isSome then none else some (List.replicate t.len 0xFF)) .error)

/-- [3:0] master, [7:4] target, [8] write of the XBM record registers. -/
def BusTx.code (t : BusTx) : Nat := t.master + t.target * 16 + b2n t.data.isSome * 256

/-- The default target completes a transaction (R578). -/
def Dev.busDefault (d : Dev) (t : BusTx) : Dev :=
  ((((d.bump Reg.XBM_ERR_CNT 31 0).wrNat Reg.XBM_ERR_LAST t.code).wr64 Reg.XBM_ERR_ADDR_LO Reg.XBM_ERR_ADDR_HI
    t.addr).raiseLog Reg.pageXBM 0 t.code).busError t

/-- The DRAM port that carries a master's traffic (R564). -/
def masterPort (master : Nat) : Option Nat := (List.range 24).find? fun p => portMaster p == some master

/-- Split a DRAM transaction into one request per burst. -/
def Dev.busToDram (d : Dev) (port : Nat) (keepOpen : Bool) : (fuel p len : Nat) → Option (List Byte) → Dev
  | 0, _, _, _ => d
  | f + 1, p, len, data =>
    let n := min len (64 - p % 64)
    if len = 0 then d
    else (d.dramRequest port p n (data.map fun b => b.take n) keepOpen).busToDram port keepOpen f (p + n) (len - n)
      (data.map fun b => b.drop n)

/-- Priority of a master at a target (R579, R586). -/
def Dev.busPri (d : Dev) (target master : Nat) : Nat :=
  if master < 8 then d.fld (Reg.XBM_T_PRI_LO target) (4 * master + 3) (4 * master)
  else d.fld (Reg.XBM_T_PRI_HI target) (4 * (master - 8) + 3) (4 * (master - 8))

/-- The waiting transaction a target grants: highest priority, round robin after the master granted last among equals, and
in issue order within a master (R579, R580). -/
def Dev.busWinner (d : Dev) (target : Nat) : Option BusTx :=
  let last := cnt d.dram.lastGrant target
  let order := (List.range 14).map fun i => (last + 1 + i) % 14
  let waits := d.dram.waiting.filter fun t => t.target == target
  let ms := order.filter fun m => waits.any fun t => t.master == m
  let best := ms.foldl (fun acc m => max acc (d.busPri target m)) 0
  match ms.find? fun m => d.busPri target m == best with
  | none => none
  | some m => waits.find? fun t => t.master == m

/-- The address a master's transaction has at the matrix: PCIE reaches DRAM through BAR2 only, so its address in the DRAM
window is the window's base plus an offset x in the 8 GB of BAR2, and the endpoint adds SYS_BAR2_BASE (R130, R132, R577).
DESIGN CHOICE (assumption 26). -/
def Dev.matrixAddr (d : Dev) (master addr : Nat) : Nat :=
  if master = 0 ∧ busDramBase ≤ addr ∧ addr < 2 ^ 63 then
    if addr < busDramBase + 2 ^ 33 then addr + (d.rd64 Reg.SYS_BAR2_BASE_LO Reg.SYS_BAR2_BASE_HI) else 2 ^ 62
  else addr

/-- BUS_TRANSACTION (R576 to R578, R580). -/
def execBusTransaction (master : Fin 14) (addr len : Nat) (data? : Option (List Byte)) (keepOpen : Bool) (s : State) :
    Host.Outcome State Fault Refusal :=
  guarded (busOk addr len data?) (s.onDev fun d =>
    let a := d.matrixAddr master.val addr
    let tx : Nat → BusTx := fun t => ⟨master.val, t, a, len, data?, d.time⟩
    match d.busTarget a len with
    | none => d.busDefault (tx 15)
    | some (t, fitted) =>
      if !fitted || !d.busPath master.val t || (t == 1 && !d.bankOpen master.val a len) then d.busDefault (tx t)
      else if t = 1 then
        match masterPort master.val with
        | none => d.busDefault (tx t)
        | some port => d.busToDram port keepOpen 6 (a - busDramBase) len data?
      else d.onDram fun q => { q with waiting := q.waiting ++ [tx t] })

/-- The transaction a target has in flight. -/
def Dev.busFlight (d : Dev) (target : Nat) : Option BusTx := (d.dram.flight.find? fun x => x.1 == target).map (·.2)

/-- Release a target's path. -/
def Dev.busRelease (d : Dev) (target : Nat) : Dev :=
  d.onDram fun q => { q with flight := q.flight.filter fun x => x.1 != target }

/-- BUS_GRANT (R579): the transaction in flight has completed, and the winner of those that wait is granted whole. -/
def execBusGrant (target : Fin 11) (s : State) : Host.Outcome State Fault Refusal :=
  s.onDev fun d =>
    if target.val = 1 then d
    else
      let t := target.val
      let d1 := d.busRelease t
      match d1.busWinner t with
      | none => d1
      | some x =>
        let wait := (d.time - x.at_) / 65536
        let d2 := d1.onDram fun q => { q with
          waiting := q.waiting.erase x, flight := (t, x) :: q.flight, lastGrant := setCnt q.lastGrant t x.master }
        if d.fld Reg.XBM_WAIT_SEL 3 0 = x.master ∧ d.fld Reg.XBM_WAIT_SEL 7 4 = t then
          d2.wrNat Reg.XBM_WAIT_MAX (satNat 32 (max (d2.rd Reg.XBM_WAIT_MAX).toNat wait))
        else d2

/-- BUS_TIMEOUT (R581): the matrix answers; a later response is discarded. -/
def execBusTimeout (target : Fin 11) (s : State) : Host.Outcome State Fault Refusal :=
  s.onDev fun d =>
    match d.busFlight target.val with
    | none => d
    | some x => (((d.busRelease target.val).busError x).bump Reg.XBM_TO_CNT 31 0).raise Reg.pageXBM 2 0

/-- TARGET_RESET (R583): every transaction in flight to the target or waiting for it is answered. -/
def execTargetReset (target : Fin 11) (s : State) : Host.Outcome State Fault Refusal :=
  s.onDev fun d =>
    let t := target.val
    let hit := (d.busFlight t).toList ++ d.dram.waiting.filter fun x => x.target == t
    let d1 := hit.foldl Dev.busError (d.busRelease t)
    (d1.onDram fun q => { q with waiting := q.waiting.filter fun x => x.target != t }).raise Reg.pageXBM 3 0

/-- A master is reset (R582): each burst it has in flight is completed on its behalf and recorded. How many beats were left
is a free value (notes/assumptions/2.md). -/
def Dev.masterReset (d : Dev) (master : Nat) : Dev :=
  let hit := d.dram.flight.filter fun x => x.2.master == master
  hit.foldl (fun acc x =>
    let beats := acc.free % ((x.2.len + 15) / 16 + 1)
    let acc1 := acc.useFree.busRelease x.1
    ((((acc1.bump Reg.XBM_RST_CNT 31 0).wrNat Reg.XBM_RST_LAST (x.2.code + beats * 0x10000)).wr64 Reg.XBM_RST_ADDR_LO
      Reg.XBM_RST_ADDR_HI x.2.addr).raiseLog Reg.pageXBM 1 (x.2.code + beats * 0x10000)))
    (d.onDram fun q => { q with waiting := q.waiting.filter fun x => x.master != master })

/-- XBM_WAIT_SEL_WRITE (R586). -/
def execXbmWaitSelWrite (v : Word) (w : Writer) (s : State) : Host.Outcome State Fault Refusal :=
  s.onDev fun d => d.gated Reg.pageXBM 0x064 w fun d =>
    (d.wrParams Reg.XBM_WAIT_SEL 0xFF v.toNat).wrNat Reg.XBM_WAIT_MAX 0

end Sys2Proof.Machine
end

