-- ==== Sys2Proof/Machine/Commit.lean ====
section
/-!
DEFINITION. Shadows and commits: coordinate slots, GO and DISARM, the checks of a commit and its application at the
page's safe point, slot coordinate or own commit line (spec/04_register_pages_and_host.md, R138 to R148, R789, R791;
spec/02_reference_and_coordinates.md, R67, R89, R786, R788; spec/09_hearth_and_takes.md, R330, R332 to R334, R339, R792,
R793).
-/

namespace Sys2Proof.Machine

open Sys2Proof

/-! ### Field ranges (R791) -/

/-- A field with a stated range: page type, offset of the register, two strides with their counts, bits, and the values
it may hold as closed intervals, each a multiple of `step`. -/
structure FieldRange where
  typ : Nat
  off : Nat
  n1 : Nat
  s1 : Nat
  n2 : Nat
  s2 : Nat
  hi : Nat
  lo : Nat
  step : Nat
  ok : List (Nat × Nat)
  deriving DecidableEq, Repr

/-- Fields with stated ranges, page types 0x02 to 0x13. -/
def fieldRangesPart0 : List FieldRange := [
  ⟨0x02, 0x048, 1, 0, 1, 0, 9, 0, 1, [(1, 600)]⟩,            -- REF_HOLDOFF
  ⟨0x02, 0x04C, 1, 0, 1, 0, 6, 0, 1, [(1, 100)]⟩,            -- REF_LIMITS SLEW_MAX
  ⟨0x02, 0x04C, 1, 0, 1, 0, 22, 16, 1, [(1, 100)]⟩,          -- REF_LIMITS FREQ_TOL
  ⟨0x02, 0x050, 1, 0, 1, 0, 15, 0, 1, [(1, 65535)]⟩,         -- REF_LOCK_THR LOCK_THR (R72)
  ⟨0x02, 0x050, 1, 0, 1, 0, 31, 16, 1, [(1, 65535)]⟩,        -- REF_LOCK_THR UNLOCK_THR
  ⟨0x02, 0x054, 1, 0, 1, 0, 9, 0, 1, [(1, 1000)]⟩,           -- REF_SW_PERIOD
  ⟨0x02, 0x080, 8, 0x10, 1, 0, 7, 4, 1, [(0, 13)]⟩,          -- REF_CANDn_CTRL RATE
  ⟨0x02, 0x080, 8, 0x10, 1, 0, 21, 16, 1, [(1, 60)]⟩,        -- REF_CANDn_CTRL QUAL_TIME
  ⟨0x02, 0x0E0, 1, 0, 1, 0, 31, 24, 1, [(0, 191)]⟩,          -- REF_CAND6_CTRL PARAM
  ⟨0x02, 0x100, 8, 0x10, 1, 0, 3, 0, 1, [(0, 13)]⟩,          -- REF_TPn_CFG RATE
  ⟨0x03, 0x040, 1, 0, 1, 0, 3, 2, 1, [(0, 2)]⟩,              -- PTP_CTRL SERVO_MODE
  ⟨0x03, 0x05C, 1, 0, 1, 0, 7, 0, 1, [(0, 127)]⟩,            -- PTP_DS domain
  ⟨0x03, 0x060, 1, 0, 1, 0, 3, 0, 1, [(0, 1), (13, 15)]⟩,    -- PTP_INTERVALS logAnnounceInterval, -3 to 1
  ⟨0x03, 0x060, 1, 0, 1, 0, 7, 4, 1, [(0, 1), (9, 15)]⟩,     -- PTP_INTERVALS logSyncInterval, -7 to 1
  ⟨0x03, 0x060, 1, 0, 1, 0, 11, 8, 1, [(0, 1), (9, 15)]⟩,    -- PTP_INTERVALS logMinDelayReqInterval, -7 to 1
  ⟨0x03, 0x060, 1, 0, 1, 0, 15, 12, 1, [(2, 10)]⟩,           -- PTP_INTERVALS announceReceiptTimeout
  ⟨0x03, 0x080, 16, 0x10, 1, 0, 8, 0, 1, [(0, 191), (256, 256)]⟩, -- PTP_PORTp_CFG MAC
  ⟨0x07, 0x040, 1, 0, 1, 0, 1, 0, 1, [(0, 2)]⟩,              -- FAB_CFG ROLE
  ⟨0x07, 0x040, 1, 0, 1, 0, 5, 4, 1, [(0, 2)]⟩,              -- FAB_CFG ARRANGE
  ⟨0x08, 0x054, 1, 0, 1, 0, 5, 0, 1, [(1, 60)]⟩,             -- HIE_LOSS_TIME
  ⟨0x08, 0x058, 1, 0, 1, 0, 1, 0, 1, [(0, 2)]⟩,              -- HIE_EVT_FWD
  ⟨0x0A, 0x044, 1, 0, 1, 0, 17, 0, 1, [(0, 131072)]⟩,        -- FS_POOL_SIZE
  ⟨0x0B, 0x040, 2, 4, 1, 0, 29, 16, 1, [(0, 8192)]⟩,         -- AUD_POOL_IN, AUD_POOL_OUT count
  ⟨0x0B, 0x080, 16, 4, 1, 0, 6, 0, 1, [(40, 90)]⟩,           -- AUD_APTp_SIL THR
  ⟨0x0B, 0x080, 16, 4, 1, 0, 25, 16, 1, [(1, 600)]⟩,         -- AUD_APTp_SIL HOLD
  ⟨0x0C, 0x040, 1, 0, 1, 0, 3, 0, 1, [(1, 2), (4, 4), (8, 8)]⟩, -- DDR_CFG CH_COUNT
  ⟨0x0C, 0x040, 1, 0, 1, 0, 10, 9, 1, [(0, 2)]⟩,             -- DDR_CFG DENSITY
  ⟨0x0C, 0x040, 1, 0, 1, 0, 18, 16, 1, [(0, 4)]⟩,            -- DDR_CFG SPEED
  ⟨0x0C, 0x04C, 1, 0, 1, 0, 7, 0, 1, [(1, 255)]⟩,            -- DDR_SCRUB PERIOD
  ⟨0x0C, 0x050, 1, 0, 1, 0, 9, 4, 1, [(5, 50)]⟩,             -- DDR_TRAIN WINDOW
  ⟨0x0C, 0x080, 24, 4, 1, 0, 15, 0, 1, [(16, 65535)]⟩,       -- DDR_Pp_CFG TARGET
  ⟨0x0E, 0x060, 1, 0, 1, 0, 7, 0, 1, [(1, 168)]⟩,            -- TMP_SCRUB PERIOD
  ⟨0x0E, 0x060, 1, 0, 1, 0, 9, 8, 1, [(1, 3)]⟩,              -- TMP_SCRUB THR
  ⟨0x0F, 0x088, 1, 0, 1, 0, 8, 0, 1, [(7, 365)]⟩,            -- CRU_REFRESH_CFG DAYS
  ⟨0x10, 0x040, 1, 0, 1, 0, 7, 4, 1, [(1, 15)]⟩,             -- TWN_CFG MISMATCH_FRAMES
  ⟨0x10, 0x040, 1, 0, 1, 0, 31, 16, 1, [(10, 65535)]⟩,       -- TWN_CFG HOLD
  ⟨0x10, 0x050, 1, 0, 1, 0, 13, 0, 1, [(10, 10000)]⟩,        -- TWN_WDOG
  ⟨0x11, 0x078, 1, 0, 1, 0, 23, 16, 1, [(1, 255)]⟩,          -- PWR_PMB_CFG PMB_TIMEOUT
  ⟨0x13, 0x078, 1, 0, 1, 0, 31, 16, 1, [(10, 65535)]⟩,       -- UPD_CFG PROBATION
  ⟨0x13, 0x07C, 1, 0, 1, 0, 15, 0, 1, [(8, 65535)]⟩,         -- UPD_LEAD COMMIT
  ⟨0x13, 0x07C, 1, 0, 1, 0, 31, 16, 1, [(4, 65535)]⟩         -- UPD_LEAD ROLLBACK
  ]

/-- Fields with stated ranges, page types 0x14 to 0x22. -/
def fieldRangesPart1 : List FieldRange := [
  ⟨0x14, 0x044, 1, 0, 1, 0, 15, 0, 1, [(64, 65535)]⟩,        -- DDR_CH_PD PD_TIMER
  ⟨0x15, 0x100, 128, 8, 1, 0, 6, 0, 1, [(40, 90)]⟩,          -- AUD_SILi_CFG THR
  ⟨0x15, 0x100, 128, 8, 1, 0, 25, 16, 1, [(1, 600)]⟩,        -- AUD_SILi_CFG HOLD
  ⟨0x16, 0x040, 1, 0, 1, 0, 4, 3, 1, [(0, 2)]⟩,              -- SWG_CFG FILTER
  ⟨0x17, 0x040, 1, 0, 1, 0, 10, 8, 1, [(0, 4)]⟩,             -- FIL_OUT_CFG SAMPLING
  ⟨0x17, 0x044, 1, 0, 1, 0, 3, 0, 1, [(0, 2), (15, 15)]⟩,    -- FIL_OUT_COLOR colorimetry
  ⟨0x17, 0x100, 8, 0x40, 1, 0, 13, 12, 1, [(0, 2)]⟩,         -- FIL_Ll_CFG LATE
  ⟨0x18, 0x040, 1, 0, 1, 0, 9, 4, 1, [(2, 32)]⟩,             -- APT_CFG SLOTS
  ⟨0x18, 0x040, 1, 0, 1, 0, 11, 10, 1, [(0, 2)]⟩,            -- APT_CFG SLOT_BITS
  ⟨0x18, 0x044, 1, 0, 1, 0, 12, 0, 1, [(0, 4096)]⟩,          -- APT_LEAD
  ⟨0x18, 0x078, 1, 0, 1, 0, 5, 0, 1, [(0, 0)]⟩,              -- APT_MIR_BASE_LO, 64-byte aligned
  ⟨0x18, 0x080, 1, 0, 1, 0, 16, 0, 1, [(16, 65536)]⟩,        -- APT_MIR_FRAMES
  ⟨0x18, 0x090, 1, 0, 1, 0, 15, 0, 1, [(1, 65535)]⟩,         -- APT_MIR_IRQ
  ⟨0x19, 0x044, 2, 0x40, 1, 0, 16, 0, 1, [(2, 65536)]⟩,      -- MAC_RING_RX_COUNT, MAC_RING_TX_COUNT
  ⟨0x19, 0x048, 1, 0, 1, 0, 14, 0, 64, [(256, 16384)]⟩,      -- MAC_RING_RX_BUF
  ⟨0x19, 0x04C, 1, 0, 1, 0, 5, 0, 1, [(0, 0)]⟩,              -- MAC_RING_RX_BASE_LO, 64-byte aligned
  ⟨0x19, 0x080, 1, 0, 1, 0, 15, 8, 1, [(0, 192)]⟩,           -- MAC_RING_TX_CFG MAC
  ⟨0x19, 0x088, 1, 0, 1, 0, 5, 0, 1, [(0, 0)]⟩,              -- MAC_RING_TX_BASE_LO, 64-byte aligned
  ⟨0x1A, 0x040, 1, 0, 1, 0, 3, 0, 1, [(0, 7)]⟩,              -- LN_CFG ROLE
  ⟨0x1A, 0x04C, 1, 0, 1, 0, 6, 4, 1, [(0, 6)]⟩,              -- LN_TX_DRV DEEMPH
  ⟨0x1A, 0x060, 1, 0, 1, 0, 2, 0, 1, [(0, 5)]⟩,              -- LN_PRBS_CTRL GEN
  ⟨0x1A, 0x060, 1, 0, 1, 0, 6, 4, 1, [(0, 5)]⟩,              -- LN_PRBS_CTRL CHK
  ⟨0x1A, 0x080, 1, 0, 1, 0, 2, 0, 1, [(0, 5)]⟩,              -- LN_QUAD_CFG CLASS
  ⟨0x1B, 0x040, 1, 0, 1, 0, 11, 8, 1, [(0, 2), (15, 15)]⟩,   -- SDI_RX_CFG DEF_COLOR
  ⟨0x1B, 0x040, 1, 0, 1, 0, 18, 16, 1, [(0, 4)]⟩,            -- SDI_RX_CFG DEF_SAMPLING
  ⟨0x1B, 0x0C0, 1, 0, 1, 0, 21, 16, 1, [(1, 63)]⟩,           -- SDI_TX_CFG ANC_LINE
  ⟨0x1B, 0x0C4, 1, 0, 1, 0, 21, 16, 1, [(0, 32)]⟩,           -- SDI_TX_AUD N
  ⟨0x1C, 0x050, 1, 0, 1, 0, 13, 0, 1, [(64, 9728)]⟩,         -- MAC_MAX_FRAME
  ⟨0x1C, 0x058, 1, 0, 1, 0, 25, 16, 1, [(1, 1023)]⟩,         -- MAC_LPI_CFG IDLE
  ⟨0x1D, 0x044, 128, 8, 1, 0, 5, 4, 1, [(0, 2)]⟩,            -- MAC_FILTe_ACT TAG
  ⟨0x1E, 0x100, 16, 0x60, 1, 0, 10, 8, 1, [(0, 4)]⟩,         -- TAKE_DSTe_CFG SAMPLING
  ⟨0x1E, 0x108, 16, 0x60, 1, 0, 3, 0, 1, [(0, 2), (15, 15)]⟩, -- TAKE_DSTe_COLOR colorimetry
  ⟨0x1E, 0x114, 16, 0x60, 1, 0, 9, 0, 1, [(1, 1000)]⟩,       -- TAKE_DSTe_PROT HOLDOFF
  ⟨0x1E, 0x118, 16, 0x60, 1, 0, 15, 0, 1, [(1, 65535)]⟩,     -- TAKE_DSTe_FLAPWIN
  ⟨0x1F, 0x100, 16, 0x40, 1, 0, 2, 1, 1, [(0, 2)]⟩,          -- FS_DSTe_CFG LOSS
  ⟨0x1F, 0x100, 16, 0x40, 1, 0, 5, 4, 1, [(0, 2)]⟩,          -- FS_DSTe_CFG FILTER
  ⟨0x1F, 0x100, 16, 0x40, 1, 0, 26, 16, 1, [(1, 2047)]⟩,     -- FS_DSTe_CFG D
  ⟨0x20, 0x104, 16, 0x60, 1, 0, 7, 0, 1, [(0, 191)]⟩,        -- FLW_RXe_MAC
  ⟨0x20, 0x134, 16, 0x60, 1, 0, 9, 0, 1, [(0, 1000)]⟩,       -- FLW_RXe_SKEW
  ⟨0x22, 0x100, 16, 0x40, 1, 0, 2, 1, 1, [(0, 2)]⟩,          -- AUD_Oe_CFG CLASS
  ⟨0x22, 0x104, 16, 0x40, 4, 4, 26, 16, 1, [(0, 240), (1088, 2047)]⟩, -- AUD_Oe_INk G, -960 to +240
  ⟨0x22, 0x114, 16, 0x40, 1, 0, 9, 0, 1, [(1, 1000)]⟩,       -- AUD_Oe_TIME RAMP
  ⟨0x22, 0x114, 16, 0x40, 1, 0, 21, 16, 1, [(1, 50)]⟩,       -- AUD_Oe_TIME TIMEOUT
  ⟨0x22, 0x118, 16, 0x40, 1, 0, 12, 0, 1, [(0, 4800)]⟩       -- AUD_Oe_DLY ADJ
  ]

/-- Does the field description name the value `v`? -/
def FieldRange.allows (r : FieldRange) (v : Nat) : Bool :=
  v % max 1 r.step == 0 && r.ok.any fun p => decide (p.1 ≤ v) && decide (v ≤ p.2)

/-- Offsets at which a field of a range row stands. -/
def FieldRange.offs (r : FieldRange) : List Nat :=
  (List.range r.n1).flatMap fun i => (List.range r.n2).map fun j => r.off + i * r.s1 + j * r.s2

/-- The least of some numbers. -/
def leastOf (l : List Nat) : Option Nat :=
  l.foldl (fun a x => some (match a with
    | none => x
    | some y => min x y)) none

/-- Offsets whose field holds a value outside its range in the live copies of a page. -/
def Dev.rangeBadOffs (e : Dev) (page : Nat) : List Nat :=
  (fieldRangesPart0 ++ fieldRangesPart1).flatMap fun r =>
    if r.typ = pageType page then
      r.offs.filter fun o => !r.allows (e.live (page * 0x1000 + o) r.hi r.lo)
    else []

/-- Fields of FLW_RXe_FMT whose codes depend on TYPE: sampling and colorimetry of a video flow. -/
def Dev.flwFmtBad (e : Dev) (page : Nat) : List Nat :=
  if pageType page ≠ 0x20 then []
  else (List.range 16).filterMap fun i =>
    let a := page * 0x1000 + 0x12C + 0x60 * i
    let col := e.live a 11 8
    if e.live (page * 0x1000 + 0x100 + 0x60 * i) 2 1 = 0 ∧ (4 < e.live a 6 4 ∨ (2 < col ∧ col ≠ 15)) then some (0x12C + 0x60 * i)
    else none

/-- Is the phase offset of a plane that is on below one frame period in magnitude (R94)? -/
def Dev.ofsOk (e : Dev) (n : Nat) : Bool :=
  match ratePeriod (e.planeRate n) with
  | none => true
  | some (num, den) => decide ((e.planeOfs n).natAbs * den < num * 1000000000)

/-- Plane offsets out of range on the REF page. -/
def Dev.ofsBad (e : Dev) (page : Nat) : List Nat :=
  if page ≠ Reg.pageREF then [] else (List.range 8).filterMap fun n => if e.ofsOk n then none else some (0x104 + 0x10 * n)

/-- R791: REASON BAD_VALUE with the first register that holds a value no field description names. -/
def Dev.rangeCheck (e : Dev) (page : Nat) : Option (Nat × Nat) :=
  (leastOf (e.rangeBadOffs page ++ e.flwFmtBad page ++ e.ofsBad page)).map fun o => (0x01, o / 4)

/-! ### Coordinate slots (R138, R143) -/

/-- Plane, F, L, S and GROUP of a coordinate slot. -/
def Dev.cslotTp (d : Dev) (k : Nat) : Nat := d.fld (Reg.SYS_CSLOT_F_HI k) 18 16
def Dev.cslotF (d : Dev) (k : Nat) : Nat := d.fld (Reg.SYS_CSLOT_F_LO k) 31 0 + d.fld (Reg.SYS_CSLOT_F_HI k) 15 0 * 2 ^ 32
def Dev.cslotL (d : Dev) (k : Nat) : Nat := d.fld (Reg.SYS_CSLOT_LS k) 12 0
def Dev.cslotS (d : Dev) (k : Nat) : Nat := d.fld (Reg.SYS_CSLOT_LS k) 29 16
def Dev.cslotGroup (d : Dev) (k : Nat) : Bool := d.flag (Reg.SYS_CSLOT_F_HI k) 31

/-- Device time of a slot's coordinate. -/
def Dev.cslotInstant (d : Dev) (k : Nat) : Nat := d.instantOf ⟨d.cslotTp k, d.cslotF k, d.cslotL k, d.cslotS k⟩

/-- The request of a page. -/
def Dev.commitOf (d : Dev) (page : Nat) : Option CommitReq := d.hostif.commits.find? fun r => r.page == page

/-- Is a page armed on a slot? -/
def Dev.armed (d : Dev) (page : Nat) : Bool := (d.commitOf page).any fun r => r.slot.isSome

/-- Pages armed on a slot. -/
def Dev.slotArmed (d : Dev) (k : Nat) : Nat := (d.hostif.commits.filter fun r => r.slot == some k).length

/-- Show the pages armed on each slot. -/
def Dev.slotShow (d : Dev) : Dev :=
  (List.range 16).foldl (fun a k =>
    a.wrNat (Reg.SYS_CSLOT_STAT k) (a.slotArmed k + (if a.slotArmed k = 0 then 0 else 65536))) d

/-- Replace the list of requests. -/
def Dev.setCommits (d : Dev) (l : List CommitReq) : Dev := ({ d with hostif := { d.hostif with commits := l } } : Dev).slotShow

/-- Does a block apply its commits at its own commit line (R140, R448, R482)? -/
def ownLine (page : Nat) : Bool := pageType page == 0x16 || pageType page == 0x17 || pageType page == 0x1F

/-- The datapath pages of R147. -/
def datapathPage (page : Nat) : Bool :=
  [0x1B, 0x09, 0x20, 0x21, 0x1E, 0x06, 0x1F, 0x0A, 0x16, 0x17, 0x0B, 0x22, 0x15, 0x18].contains (pageType page)

/-! ### Shadow to live (R138) -/

/-- The shadowed bits of a register. -/
def shMask (page off : Nat) : Word := BitVec.ofNat 32 (((regRow page off).map RegRow.sh).getD 0)

/-- Offsets of a page at which a shadow or a live copy differs from reset. -/
def Dev.shadowOffs (d : Dev) (page : Nat) : List Nat :=
  (d.regs.filterMap fun p => if p.1 / 0x1000 = page then some (p.1 % 0x800) else none).eraseDups

/-- Copy the shadowed bits of one register to its live copy. -/
def Dev.commitWord (d : Dev) (page off : Nat) : Dev :=
  let a := page * 0x1000 + off
  let m := shMask page off
  if m = 0 then d else d.wr (a + 0x800) ((d.rd (a + 0x800) &&& ~~~ m) ||| (d.rd a &&& m))

/-- CFG of the three other entries of a group destination is a mirror of the lead's; an entry that leaves a group starts
again from its reset value (R333). -/
def groupMirror (old d : Dev) (page : Nat) : Dev :=
  if pageType page ≠ 0x1E then d
  else [0, 4, 8, 12].foldl (fun a i =>
    let k := (page - 0x600) * 16 + i
    let put := fun (b : Dev) (v : Word) => [1, 2, 3].foldl (fun c j =>
      (c.wr (Reg.TAKE_DST_CFG (k + j)) v).wr (Reg.TAKE_DST_CFG (k + j) + 0x800) v) b
    if a.liveFlag (Reg.TAKE_DST_CFG k) 15 then put a (a.rd (Reg.TAKE_DST_CFG k + 0x800))
    else if old.liveFlag (Reg.TAKE_DST_CFG k) 15 then put a 0x4800
    else a) d

/-- Put the shadows of a page in force: of the entries in `es` alone on an FS_DST page, else whole. -/
def Dev.commitPage (d : Dev) (page : Nat) (es : List Nat) : Dev :=
  let offs := d.shadowOffs page
  let pick := if pageType page = 0x1F then
      offs.filter fun o => decide (0x100 ≤ o) && es.contains ((o - 0x100) / 0x40)
    else offs
  groupMirror d (pick.foldl (fun a o => a.commitWord page o) d) page

/-- Every entry of an entry page. -/
def entries16 : List Nat := List.range 16

/-- The state after the commits of some pages, whole. -/
def Dev.withCommits (d : Dev) (pages : List Nat) : Dev := pages.foldl (fun a p => a.commitPage p entries16) d

/-- Does a range of live words differ? -/
def liveDiffers (d e : Dev) (lo hi : Nat) : Bool :=
  let cut := fun (x : Dev) => x.regs.filter fun p => decide (lo ≤ p.1) && decide (p.1 < hi)
  cut d != cut e

/-- Does the live copy of item i of a page differ, items of `size` bytes from offset `base`? -/
def itemDiffers (d e : Dev) (page base size i : Nat) : Bool :=
  liveDiffers d e (page * 0x1000 + 0x800 + base + size * i) (page * 0x1000 + 0x800 + base + size * (i + 1))

/-- Items of a page whose live copies differ. -/
def itemsChanged (d e : Dev) (page base size n : Nat) : List Nat := (List.range n).filter (itemDiffers d e page base size)

/-! ### What a plane carries (R89, R789) -/

/-- Planes to which scheduled items are assigned: takes, salvos, armed commits, census, Chart load, IS-05 activations,
placement items and moves, hierarchy salvos, the update
coordinate and a handover. -/
def Dev.scheduledPlanes (d : Dev) : List Nat :=
  (d.anvil.dsts.filter fun p => !p.2.pend.isEmpty).map (fun p => d.dstPlane p.1) ++ d.anvil.salvos.map Salvo.tp ++
    (d.hostif.commits.filterMap CommitReq.slot).map d.cslotTp ++
    ((d.hostif.census.bind Census.slot).toList).map d.cslotTp ++ ((d.hostif.chartLoad.bind ChartLoad.slot).toList).map d.cslotTp ++
    (d.hostif.is05.filter fun x => x.at?.isSome).map Is05Req.plane ++
    d.hie.placeDue.map (fun i => i.tp.val) ++ d.hie.moves.map Move.tp ++ d.hie.salvos.map (fun x => x.tp.val) ++
    (d.upd.img.coord.map fun c => c.2.1).toList ++ (d.twin.handover.map Handover.tp).toList

/-- Enabled destinations of the device. -/
def Dev.enabledDsts (d : Dev) : List Nat :=
  d.regs.filterMap fun p =>
    if 0x600000 ≤ p.1 ∧ p.1 < 0x680000 ∧ 0x900 ≤ p.1 % 0x1000 ∧ (p.1 % 0x1000 - 0x900) % 0x60 = 0 ∧ bit p.2 0 = true then
      some ((p.1 / 0x1000 - 0x600) * 16 + (p.1 % 0x1000 - 0x900) / 0x60)
    else none

/-- Is any source, destination, circuit or scheduled item assigned to a plane? -/
def Dev.planeUsed (d : Dev) (tp : Nat) : Bool :=
  d.srcList.any (fun p => p.2.tp == tp) || d.enabledDsts.any (fun k => d.dstPlane k == tp) ||
    (List.range 192).any (fun c => d.dstEnabled (2048 + c) && d.dstPlane (2048 + c) == tp) || d.scheduledPlanes.contains tp

/-! ### Planned sources (R330, R792) -/

/-- Sum of the reservations and number of the sources that the live configuration asks for, fabric sources as they are. -/
def Dev.planned (e : Dev) : Nat × Nat :=
  let sdi := (List.range 192).filter e.sdiWanted
  let two := sdi.filter fun n => e.liveFlag (Reg.SDI_RX_CFG n) 4
  let flows := e.rxEntries.filter e.rxHasSrc
  let fil := (List.range 16).filter e.filEnabled
  let other := e.srcList.filter fun p => p.2.kind != 0 && p.2.kind != 1 && p.2.kind != 3
  (sdi.foldl (fun a n => a + huntReserve (e.huntMask n)) 0 + 665350 * two.length + flows.foldl (fun a r => a + e.rxRate r) 0 +
    fil.foldl (fun a n => a + e.filRate n) 0 + other.foldl (fun a p => a + p.2.rate) 0,
   sdi.length + two.length + flows.length + fil.length + other.length + (if e.live Reg.FAB_CFG 1 0 = 2 then 16 else 0))

/-- R330 and R792 for a commit on a page: `e` after every commit due, `one` after this one alone. -/
def sourceCheck (d e one : Dev) (page : Nat) : Option (Nat × Nat) :=
  if !([0x1A, 0x1B, 0x20, 0x07, 0x17].contains (pageType page)) then none
  else
    let p := e.planned
    if e.hearthCapacity < p.1 ∧ d.planned.1 < one.planned.1 then some (0x02, 1)
    else if 1024 < p.2 ∧ d.planned.2 < one.planned.2 then some (0x02, 8)
    else none

/-! ### Block checks -/

/-- Checks of a REF commit (R786, R89). -/
def refCheck (d e : Dev) : Option (Nat × Nat) :=
  let cfg := fun (x : Dev) (n : Nat) => (x.rd (Reg.REF_TP_CFG n + 0x800), x.rd (Reg.REF_TP_OFS n + 0x800))
  match (List.range 8).find? fun n => e.planeRate n != 0 &&
      (!refRasterOk (e.planeLines n) (e.liveFlag (Reg.REF_TP_CFG n) 31) || e.planeSamples n == 0) with
  | some n => some (0x01, regOff (Reg.REF_TP_CFG n))
  | none => ((List.range 8).find? fun n => cfg d n != cfg e n && d.planeUsed n).map fun n => (0x03, n)

/-- Checks of a TAKE_CIRC commit (R339, R370, R793). -/
def circCheck (e : Dev) : Option (Nat × Nat) :=
  (List.range 192).findSome? fun c =>
    let k := 2048 + c
    let l := e.live (Reg.TAKE_CIRC_CFG c) 12 0
    let r := e.planeSwitch (e.dstPlane k)
    if e.dstEnabled k && !e.planeOn (e.dstPlane k) then some (0x01, regOff (Reg.TAKE_CIRC_CFG c))
    else if l ≠ 0 ∧ e.planeOn (e.dstPlane k) = true ∧ (l < r.2.1 ∨ r.2.2 < l) then some (0x01, regOff (Reg.TAKE_CIRC_CFG c))
    else none

/-- Checks of a TAKE_DST commit on destination k (R309, R333, R334, R339, R793). -/
def takeDstCheck (d e : Dev) (k : Nat) : Option (Nat × Nat) :=
  let l := e.live (Reg.TAKE_DST_SWLINE k) 12 0
  let r := rasterSwitch (e.dstRaster k)
  let shape := fun (x : Dev) => (x.dstRaster k, x.dstSampling k, x.dstPlane k, x.liveFlag (Reg.TAKE_DST_CFG k) 15)
  if l ≠ 0 ∧ (l < r.2.1 ∨ r.2.2 < l) then some (0x01, regOff (Reg.TAKE_DST_SWLINE k))
  else if k % 4 ≠ 0 ∧ e.liveFlag (Reg.TAKE_DST_CFG k) 15 = true ∧ e.groupMember k = false then some (0x0A, 0x33)
  else if shape d ≠ shape e ∧ ((d.dst k).src.isSome ∨ (d.dst k).pend ≠ []) then some (0x0A, 0x31)
  else if e.dstEnabled k && !e.planeOn (e.dstPlane k) then some (0x01, regOff (Reg.TAKE_DST_CFG k))
  else if e.dstEnabled k && (!d.dstEnabled k || d.dstPlane k != e.dstPlane k) &&
      decide (maxDepth (e.planeRate (e.dstPlane k)) < e.fsDepth k) then some (0x01, regOff (Reg.TAKE_DST_CFG k))
  else if d.live (Reg.TAKE_DST_SWLINE k) 12 0 ≠ l ∧
      (e.txEntries.any fun t => e.txDst t == k && !e.txTroOk t) = true then some (0x01, regOff (Reg.TAKE_DST_SWLINE k))
  else none

/-- Does a live register differ? -/
def regDiffers (d e : Dev) (a hi lo : Nat) : Bool := d.live a hi lo != e.live a hi lo

/-- The owning chapter's checks of a commit on a page: `d` before, `e` after every commit due. -/
def blockCheck (d e : Dev) (page : Nat) : Option (Nat × Nat) :=
  match pageType page with
  | 0x02 => refCheck d e
  | 0x03 => ptpCommitCheck e
  | 0x06 => circCheck e
  | 0x07 => fabCheck d e
  | 0x0A => fsEngCheck e
  | 0x0B => audEngCheck e
  | 0x0C => if regDiffers d e Reg.DDR_CFG 31 0 then some (0x0A, 0x81) else none
  | 0x11 => if regDiffers d e Reg.PWR_CFG 8 8 then some (0x0A, 0xA1) else none
  | 0x16 => swgCheck e (page - 0x20)
  | 0x17 => if e.partH && decide (8 ≤ page - 0x40) && e.filEnabled (page - 0x40) then some (0x07, page - 0x40)
      else filCheck e (page - 0x40)
  | 0x18 => aptCheck d e (page - 0x50)
  | 0x19 => ringCheck d e (page - 0x60)
  | 0x1A =>
    match laneCommitCheck d e (page - 0x100) with
    | some c => some c
    | none => if e.centreFront && !d.centreFront then some (0x0A, 0x42) else sdiCommitCheck e page
  | 0x1B => sdiCommitCheck e page
  | 0x1C => macCheck e (page - 0x300)
  | 0x1E =>
    match (entries16.map fun i => (page - 0x600) * 16 + i).findSome? (takeDstCheck d e) with
    | some c => some c
    | none => sdiCommitCheck e page
  | 0x1F => ((itemsChanged d e page 0x100 0x40 16).map fun i => (page - 0x680) * 16 + i).findSome? (fsDstCheck e)
  | 0x20 => ((itemsChanged d e page 0x100 0x60 16).map fun i => (page - 0x800) * 16 + i).findSome? (flwRxCheck e)
  | 0x21 => ((itemsChanged d e page 0x100 0x60 16).map fun i => (page - 0x900) * 16 + i).findSome? (flwTxCheck e)
  | 0x22 => ((itemsChanged d e page 0x100 0x40 16).map fun i => (page - 0xA00) * 16 + i).findSome? (audOutCheck d e)
  | _ => none

/-- The whole check of a commit on a page (R791 first): `pages` are all that are checked together, those in `passed` have
passed before. REASON and DETAIL of the refusal. -/
def commitCheck (d : Dev) (passed pages : List Nat) (e : Dev) (page : Nat) : Option (Nat × Nat) :=
  match e.rangeCheck page with
  | some c => some c
  | none =>
    match blockCheck d e page with
    | some c => some c
    | none =>
      let one := d.withCommits [page]
      match sourceCheck d e one page with
      | some c => some c
      | none =>
        match e.audioConflict with
        | none => none
        | some c =>
          if d.audioConflict.isNone && (one.audioConflict.isSome ||
              (d.withCommits (passed ++ pages.filter (· != page))).audioConflict.isNone) then some c
          else none

/-! ### Rounds (R144, R146) -/

/-- A refused commit: page, REASON, DETAIL, and whether another page of its group was refused. -/
structure Refused where
  page : Nat
  reason : Nat
  detail : Nat
  group : Bool
  deriving DecidableEq, Repr

/-- The GROUP slot that a page is armed on. -/
def Dev.groupSlot (d : Dev) (page : Nat) : Option Nat :=
  ((d.commitOf page).bind CommitReq.slot).bind fun k => if d.cslotGroup k then some k else none

/-- Check in rounds: each refusal takes its group with it, and the rest is checked again without the refused. `fuel` is at
least the number of pages. -/
def commitRounds (d : Dev) (passed : List Nat) : (fuel : Nat) → (pages : List Nat) → (out : List Refused) →
    List Nat × List Refused
  | 0, pages, out => (pages, out)
  | fuel + 1, pages, out =>
    let e := d.withCommits (passed ++ pages)
    let bad := pages.filterMap fun p => (commitCheck d passed pages e p).map fun c => (⟨p, c.1, c.2, false⟩ : Refused)
    if bad = [] then (pages, out)
    else
      let left := pages.filter fun p => !bad.any fun r => r.page == p
      let mates := left.filterMap fun p =>
        match d.groupSlot p with
        | none => none
        | some k => (bad.find? fun r => d.groupSlot r.page == some k).map fun r => (⟨p, 0x09, r.page, true⟩ : Refused)
      commitRounds d passed fuel (left.filter fun p => !mates.any fun r => r.page == p) (out ++ bad ++ mates)

/-! ### Refusal and application -/

/-- A commit is refused: status, COMMIT_REFUSED, the page last refused, the event (R145), and IN_FULL, BW_FULL, POOL_FULL,
DLY_FULL or the NOT_FITTED event where the owning rule names one. -/
def Dev.commitRefuse (d e : Dev) (r : Refused) : Dev :=
  let d1 := (((d.wrNat (Reg.PG_COMMIT_STAT r.page) (3 + b2n r.group * 8 + r.reason * 256 + r.detail % 65536 * 65536)).setFlag
    (Reg.PG_COMMIT r.page) 31 false).wrNat Reg.SYS_COMMIT_LAST r.page).raiseLog Reg.pageSYS 0 (r.page + r.reason * 65536)
  if r.reason = 0x02 ∧ (r.detail = 1 ∨ r.detail = 8) ∧ [0x1A, 0x1B, 0x20, 0x07, 0x17].contains (pageType r.page) = true then
    d1.raise Reg.pageHRT 2 0
  else if r.reason = 0x02 ∧ r.detail = 3 then d1.budgetSticky e
  else if r.reason = 0x07 then
    d1.logEvent Reg.pageSYS 0x24 (if pageType r.page = 0x17 then 0x100 + r.detail else r.detail)
  else d1

/-- Effects of an applied REF commit: an excluded candidate is neither qualified nor disqualified (R788), one that may be
used again starts qualifying, and a change of ranks or of REVERT selects again (R65, R67). -/
def refEffect (old d : Dev) : Dev :=
  let d1 := (List.range 8).foldl (fun a c =>
    if old.rankOf c ≠ 15 ∧ a.rankOf c = 15 then
      let b := ((a.setFld (Reg.REF_CAND_STAT c) 3 0 1).setFlag (Reg.REF_CAND_STAT c) 4 false).setCand c
        { a.cand c with holdoffRun := false, holdoffDone := false, deferred := false }
      if a.activeCand = some c then
        (({ b with bellows := { b.bellows with slew := none, stepDue := none } } : Dev).setFlag Reg.REF_STATE 8 false)
      else b
    else if old.rankOf c = 15 ∧ a.rankOf c ≠ 15 then a.setFld (Reg.REF_CAND_STAT c) 3 0 (a.idleReason c)
    else a) d
  let ranks := (List.range 8).any fun c => old.rankOf c != d.rankOf c
  let d2 := d1.showHoldoff
  if ranks then d2.select true
  else if old.liveFlag Reg.REF_CTRL 0 != d.liveFlag Reg.REF_CTRL 0 then d2.select false
  else d2

/-- A lane's MAC page shows nothing once the lane no longer carries a MAC. -/
def macLaneEffect (old d : Dev) (n : Nat) : Dev :=
  if n < 192 ∧ old.macActive n = true ∧ d.macActive n = false then d.wrNat (Reg.MAC_STAT n) 0 else d

/-- A change of the pool's place moves the contents of every store: they are FILLING again (R459). -/
def fsEngEffect (old d : Dev) : Dev :=
  (if old.live Reg.FS_POOL_BASE 16 0 = d.live Reg.FS_POOL_BASE 16 0 then d
  else d.engines.stores.foldl (fun a p => match p.2 with
    | none => a
    | some x => a.setStore p.1 (some (Store.fresh x.depth))) d).fsRefresh

/-- Effects of an applied commit on a page: `old` before, `d` with the new live values; `es` the FS_DST entries applied. -/
def pageEffect (old d : Dev) (page : Nat) (es : List Nat) : Dev :=
  match pageType page with
  | 0x02 => refEffect old d
  | 0x03 => ptpCommitEffect d
  | 0x07 => fabEffect old d
  | 0x0A => fsEngEffect old d
  | 0x15 => (itemsChanged old d page 0x100 8 128).foldl (fun a i => audSilEffect a ((page - 0x1C) * 128 + i)) d
  | 0x16 => swgEffect d (page - 0x20)
  | 0x17 => filEffect old d (page - 0x40)
  | 0x18 => aptEffect old d (page - 0x50)
  | 0x19 => ringEffect old d (page - 0x60)
  | 0x1A =>
    let n := page - 0x100
    macLaneEffect old (sdiLaneEffect (fabRoleEffect old (laneCommitEffect old d n) n) n) n
  | 0x1B => sdiCommitEffect old d (page - 0x200)
  | 0x1E => (itemsChanged old d page 0x100 0x60 16).foldl (fun a i => fsDstEffect old a ((page - 0x600) * 16 + i)) d
  | 0x1F => es.foldl (fun a i => fsDstEffect old a ((page - 0x680) * 16 + i)) d
  | 0x20 => (itemsChanged old d page 0x100 0x60 16).foldl (fun a i => flwRxEffect old a ((page - 0x800) * 16 + i)) d
  | 0x21 => (itemsChanged old d page 0x100 0x60 16).foldl (fun a i => flwTxEffect old a ((page - 0x900) * 16 + i)) d
  | 0x22 => (itemsChanged old d page 0x100 0x40 16).foldl (fun a i => audOutEffect a ((page - 0xA00) * 16 + i)) d
  | _ => d

/-- Live words of a page that differ between two states, as a journal record (R593). -/
def changedWords (old d : Dev) (page : Nat) : List (Nat × Word) :=
  ((d.shadowOffs page ++ old.shadowOffs page).eraseDups.map fun o => page * 0x1000 + 0x800 + o).filterMap fun a =>
    if old.rd a = d.rd a then none else some (a, d.rd a)

/-- Show the result of an applied commit (R141). -/
def Dev.commitDone (d : Dev) (page : Nat) (slipped : Bool) : Dev :=
  (d.wrNat (Reg.PG_COMMIT_STAT page) (2 + b2n slipped * 4)).setFlag (Reg.PG_COMMIT page) 31 false

/-! ### What is due -/

/-- Has the frame in which a page applies at its own line begun on the slot's plane? -/
def Dev.frameBegun (d : Dev) (k : Nat) : Bool := decide (d.instantOf ⟨d.cslotTp k, d.cslotF k, 1, 0⟩ ≤ d.time)

/-- Has the frame of a slot passed, so that an item that still waits is late (R83)? -/
def Dev.framePassed (d : Dev) (k : Nat) : Bool := decide (d.cslotF k < (d.coordNow (d.cslotTp k)).f)

/-- Entries of a request that apply at this item, and whether they slip: `none` when nothing of it is due. `at_` says that the
coordinate of its slot is reached now. -/
def Dev.dueEntries (d : Dev) (r : CommitReq) (e : Option Nat) (at_ : Bool) : Option (List Nat × Bool) :=
  let fs := pageType r.page == 0x1F
  let pick := if !fs then entries16
    else match e with
      | some i => r.left.filter (· == i)
      | none => r.left.filter fun i => !d.dstEnabled ((r.page - 0x680) * 16 + i)
  if pick = [] then none
  else match r.slot with
    | none => some (pick, false)
    | some k =>
      if fs then
        let ok := pick.filter fun i => r.late.contains i || d.frameBegun k
        if ok = [] then none else some (ok, ok.any (fun i => r.late.contains i) || d.framePassed k)
      else if r.slipped then some (pick, true)
      else if ownLine r.page then (if d.frameBegun k then some (pick, d.framePassed k) else none)
      else if at_ then some (pick, false)
      else if d.cslotInstant k ≤ d.time then
        some (pick, decide (d.cslotInstant k + d.linesTicks (d.cslotTp k) 1 < d.time))
      else none

/-- Is a request held because the datapath does not run (R663), itself or a page of its group? -/
def Dev.commitHeld (d : Dev) (r : CommitReq) : Bool :=
  !d.dataRuns && (datapathPage r.page || match d.groupSlot r.page with
    | none => false
    | some k => d.hostif.commits.any fun q => q.slot == some k && datapathPage q.page)

/-- The commits of some items apply together (R146): checks in rounds, refusals, new live values of all at once, effects,
results. Each item is a request, the entries due and whether they slip. -/
def Dev.commitItems (d : Dev) (due : List (CommitReq × List Nat × Bool)) : Dev :=
  let reqs := d.hostif.commits
  let mates := reqs.filter fun q => !q.passed && !due.any (fun x => x.1.page == q.page) &&
    due.any fun x => !x.1.passed && (d.groupSlot x.1.page).isSome && d.groupSlot x.1.page == d.groupSlot q.page
  let passed := (due.filter fun x => x.1.passed).map fun x => x.1.page
  let fresh := ((due.filter fun x => !x.1.passed).map fun x => x.1.page) ++ mates.map CommitReq.page
  let verdict := commitRounds d passed (fresh.length + 1) fresh []
  let e := d.withCommits (passed ++ fresh)
  -- traces of the checks
  let d0 := fresh.foldl (fun a p =>
    if pageType p = 0x16 then swgChecked a e (p - 0x20) else if pageType p = 0x17 then filChecked a e (p - 0x40) else a) d
  let d1 := verdict.2.foldl (fun a r => a.commitRefuse e r) d0
  let go := (due.filter fun x => passed.contains x.1.page || verdict.1.contains x.1.page)
  let new := go.foldl (fun a x => a.commitPage x.1.page x.2.1) d1
  let next := fun (q : CommitReq) =>
    if verdict.2.any fun r => r.page == q.page then none
    else match go.find? fun x => x.1.page == q.page with
      | some x =>
        let left := q.left.filter fun i => !x.2.1.contains i
        if left = [] then none else some { q with left := left, passed := true, slipped := q.slipped || x.2.2 }
      | none => if verdict.1.contains q.page then some { q with passed := true } else some q
  let after := reqs.filterMap next
  let writes := go.filterMap fun x =>
    let l := changedWords d1 new x.1.page
    if l = [] then none else some (JBody.pageWrite x.1.page l)
  let arms := reqs.filterMap fun q => if q.slot.isSome ∧ next q ≠ some q then some (JBody.commitArm q.page (next q)) else none
  let done := go.foldl (fun a x => pageEffect d1 a x.1.page x.2.1) (new.jAppend (writes ++ arms))
  let shown := go.foldl (fun a x =>
    let left := x.1.left.filter fun i => !x.2.1.contains i
    if left = [] then a.commitDone x.1.page (x.1.slipped || x.2.2) else a) (done.setCommits after)
  if go = [] then shown else ((shown.surfRefresh).fsRefresh).hrtRefresh

/-- COMMIT_APPLY: the safe point or commit line of the items named. -/
def Dev.commitApply (d : Dev) (items : List (Nat × Option Nat)) : Dev :=
  let due := d.hostif.commits.filterMap fun r =>
    if d.commitHeld r then none
    else
      let mine := (items.filter fun i => i.1 == r.page).filterMap fun i => d.dueEntries r i.2 false
      if mine = [] then none
      else some (r, (mine.flatMap Prod.fst).eraseDups, mine.any Prod.snd)
  if due = [] then d else d.commitItems due

def execCommitApply (items : List (Nat × Option (Fin 16))) (s : State) :=
  s.onDev fun d => d.commitApply (items.map fun i => (i.1, i.2.map Fin.val))

/-- The coordinate of a slot is reached: pages armed on it, or on a slot that holds the same coordinate, that have no line
of their own commit together (R140, R146). -/
def Dev.slotCommits (d : Dev) (k : Nat) : Dev :=
  let same := fun (j : Nat) => j == k || (d.cslotTp j == d.cslotTp k && d.cslotInstant j == d.cslotInstant k)
  let due := d.hostif.commits.filterMap fun r =>
    if r.slot.any same && !ownLine r.page && !d.commitHeld r then
      (d.dueEntries r none true).map fun x => (r, x.1, x.2)
    else none
  if due = [] then d else d.commitItems due

/-! ### GO and DISARM (R139 to R142, R789) -/

/-- Device time of the line at which a page, or entry i of an FS_DST page, applies in frame f; `none` where it has no line
of its own that is running. -/
def Dev.ownInstant (d : Dev) (page i f : Nat) : Option Nat :=
  match pageType page with
  | 0x1F =>
    let k := (page - 0x680) * 16 + i
    if d.dstEnabled k then some (d.switchInstant k f) else none
  | 0x16 =>
    let k := d.live (Reg.SWG_BIND (page - 0x20)) 10 0
    if d.dstEnabled k then some (d.switchInstant k f) else none
  | 0x17 =>
    let n := page - 0x40
    if d.filEnabled n then
      let l := d.live (Reg.FIL_OUT_SWLINE n) 12 0
      let line := if l = 0 then (rasterSwitch (d.filRaster n)).1 else l
      some (d.rasterInstant (d.filPlane n) (rasterTotal (d.filRaster n)) f line)
    else none
  | _ => none

/-- Is a commit armed now on slot k less than 4 lines ahead of the instant at which it would apply (R141)? -/
def Dev.armsLate (d : Dev) (page i k : Nat) : Bool :=
  let t := if ownLine page then (d.ownInstant page i (d.cslotF k)).getD (d.instantOf ⟨d.cslotTp k, d.cslotF k, 1, 0⟩)
    else d.cslotInstant k
  decide (t < d.time + d.linesTicks (d.cslotTp k) 4)

/-- Entries that a request still has to apply. -/
def entriesOf (page : Nat) : List Nat := if pageType page = 0x1F then entries16 else []

/-- Withdraw the request of a page. -/
def Dev.commitDrop (d : Dev) (page : Nat) : Dev :=
  (d.setCommits (d.hostif.commits.filter fun r => r.page != page)).setFlag (Reg.PG_COMMIT page) 31 false

/-- Refusals of a GO before any check of values: on a standby (R640), outside RUN and IDLE or while sealing (R147, R602). -/
def Dev.goRefused (d : Dev) (page : Nat) : Option (Nat × Nat) :=
  if d.isStandby then some (0x0A, 0x91)
  else if d.sealing || (datapathPage page && !d.datapathOn) then some (0x08, d.powerState)
  else none

/-- GO with AT 0. -/
def Dev.commitNow (d : Dev) (page : Nat) : Dev :=
  match d.commitOf page with
  | some ⟨_, none, _, _, _, _⟩ => d
  | _ =>
    let d0 := d.commitDrop page
    match d0.goRefused page with
    | some c => d0.commitRefuse d0 ⟨page, c.1, c.2, false⟩
    | none =>
      let was := d.armed page
      let d1 := (d0.setCommits (d0.hostif.commits ++ [⟨page, none, false, false, entriesOf page, []⟩])).setFlag
        (Reg.PG_COMMIT page) 31 true
      let d2 := if was then (d1.setFld (Reg.PG_COMMIT_STAT page) 3 0 0).jAppend [.commitArm page none] else d1
      d2.surfRefresh

/-- GO with AT 1. -/
def Dev.commitArmOn (d : Dev) (page k : Nat) : Dev :=
  match d.commitOf page with
  | some ⟨_, none, _, _, _, _⟩ => d
  | _ =>
    let d0 := d.commitDrop page
    match d0.goRefused page with
    | some c => d0.commitRefuse d0 ⟨page, c.1, c.2, false⟩
    | none =>
      if !d0.planeOn (d0.cslotTp k) then
        (d0.commitRefuse d0 ⟨page, 0x01, 0x0008, false⟩).setFld (Reg.PG_COMMIT_STAT page) 1 0 0
      else if d0.tooFar (d0.cslotTp k) (d0.cslotF k) then d0.commitRefuse d0 ⟨page, 0x06, k, false⟩
      else
        let es := entriesOf page
        let late := es.filter fun i => d0.armsLate page i k
        let slip := es = [] ∧ d0.armsLate page 0 k = true
        let req : CommitReq := ⟨page, some k, decide slip, false, es, late⟩
        let d1 := (d0.setCommits (d0.hostif.commits ++ [req])).setFlag (Reg.PG_COMMIT page) 31 true
        let shadows := (d1.shadowOffs page).filterMap fun o =>
          if shMask page o = 0 then none else some (page * 0x1000 + o, d1.rd (page * 0x1000 + o))
        ((d1.wrNat (Reg.PG_COMMIT_STAT page) 1).jAppend [.commitArm page (some req), .pageWrite page shadows]).surfRefresh

/-- A write of PG_COMMIT: its gate; a standby refuses a commit (R640). -/
def Dev.commitWrite (d : Dev) (page : Nat) (w : Writer) (v : Nat) (f : Dev → Dev) : Dev :=
  let d1 := d.gated page 0x020 w fun d => f (d.wrParams (Reg.PG_COMMIT page) 0xF7 v)
  if d.gate page 0x020 w = .standby then d1.commitRefuse d1 ⟨page, 0x0A, 0x91, false⟩ else d1

def execCommitNow (page : Nat) (slot : Fin 16) (w : Writer) (s : State) :=
  s.onDev fun d => d.commitWrite page w (1 + slot.val * 16) fun d => d.commitNow page

def execCommitArm (page : Nat) (slot : Fin 16) (w : Writer) (s : State) :=
  s.onDev fun d => d.commitWrite page w (3 + slot.val * 16) fun d => d.commitArmOn page slot.val

/-- DISARM returns an armed page to IDLE and keeps its shadow (R142). -/
def Dev.commitDisarm (d : Dev) (page : Nat) : Dev :=
  if d.armed page then
    (((d.commitDrop page).wrNat (Reg.PG_COMMIT_STAT page) 0).jAppend [.commitArm page none]).surfRefresh
  else d

def execCommitDisarm (page : Nat) (w : Writer) (s : State) :=
  s.onDev fun d => d.gated page 0x020 w fun d =>
    (d.wrParams (Reg.PG_COMMIT page) 4 4).commitDisarm page

end Sys2Proof.Machine
end

