-- ==== Sys2Proof/Machine/Temper.lean ====
section
/-!
DEFINITION. Temper and Crucible: what is persisted, the image of a checkpoint, the effect of a journal record on a restored
or standby state, restore, journal groups becoming durable, checkpoints, the power-fail sequence, patrol scrub, mirrors and
the surface library (spec/17_persistent_state.md, R588 to R621).
-/

namespace Sys2Proof.Machine

open Sys2Proof

/-! ### What is kept (R588, R589) -/

/-- Type codes of the pages whose RW and SH fields are kept. -/
def keptTypes : List Nat :=
  [0x02, 0x03, 0x06, 0x07, 0x08, 0x09, 0x0A, 0x0B, 0x0C, 0x11, 0x12, 0x14, 0x15, 0x16, 0x17, 0x18, 0x19, 0x1A, 0x1B, 0x1C, 0x1D,
    0x1E, 0x1F, 0x20, 0x21, 0x22]

/-- Counters among the RW registers of those pages: page type, first offset, stride, count, and the offsets within. They
start again from 0 (R589). -/
def counterRows : List (Nat × Nat × Nat × Nat × List Nat) := [
  (0x07, 0x050, 0, 1, [0, 4, 8, 12]), (0x07, 0x078, 0, 1, [0]), (0x08, 0x0C8, 0, 1, [0, 4, 8, 12]), (0x09, 0x044, 0, 1, [0, 4, 8, 12, 16]),
  (0x0C, 0x0E0, 4, 24, [0]), (0x11, 0x070, 0, 1, [0]), (0x12, 0x09C, 0, 1, [0]), (0x14, 0x048, 0, 1, [0, 4, 20, 24]),
  (0x17, 0x058, 0, 1, [0]), (0x18, 0x070, 0, 1, [0, 28]), (0x19, 0x05C, 0, 1, [0, 4, 60]), (0x1A, 0x058, 0, 1, [0]),
  (0x1B, 0x054, 0, 1, [0, 4, 8, 120]), (0x1C, 0x060, 0, 1, [0, 4]), (0x1C, 0x080, 4, 19, [0]), (0x1C, 0x414, 0, 1, [0]),
  (0x1D, 0x440, 4, 128, [0]), (0x1E, 0x138, 0x60, 16, [0, 4]), (0x1F, 0x118, 0x40, 16, [0, 4, 8]),
  (0x20, 0x13C, 0x60, 16, [0, 4, 8, 12, 16]), (0x21, 0x144, 0x60, 16, [0, 4, 8, 12]), (0x22, 0x124, 0x40, 16, [0])]

/-- Is the register at an offset of a page of this type a counter? -/
def isCounter (typ off : Nat) : Bool :=
  counterRows.any fun r => r.1 == typ && (List.range r.2.2.2.1).any fun i => r.2.2.2.2.any fun o => r.2.1 + i * r.2.2.1 + o == off

/-- The bits of a BAR0 word that are kept; the shadows of a page are kept while it is armed. -/
def keptMask (armed : List Nat) (a : Nat) : Word :=
  let page := a / 0x1000
  let off := a % 0x1000
  if a = Reg.REF_HO_MEM ∨ a = Reg.PTP_AON_RATIO then 0xFFFFFFFF
  else if a = Reg.REF_STATE then 0x200
  else if page = 1 then (if 0x100 ≤ off ∧ off < 0x200 ∧ off % 16 ≠ 12 then 0xFFFFFFFF else 0)
  else if !keptTypes.contains (pageType page) then 0
  else if 0x800 ≤ off then shMask page (off - 0x800)
  else if isCounter (pageType page) off then 0
  else
    BitVec.ofNat 32 (((regRow page off).map RegRow.rw).getD 0) ||| (if armed.contains page then shMask page off else 0)

/-- A word with the bits under a mask replaced. -/
def merge (m old new : Word) : Word := (old &&& ~~~ m) ||| (new &&& m)

/-- Pages armed on a slot. -/
def slotPages (l : List CommitReq) : List Nat := (l.filter fun r => r.slot.isSome).map CommitReq.page

/-- The kept words of the register pages that differ from reset. -/
def Dev.keptRegs (d : Dev) : List (Nat × Word) :=
  d.regs.filterMap fun p =>
    let m := keptMask (slotPages d.hostif.commits) p.1
    if p.2 &&& m = resetWord p.1 &&& m then none else some (p.1, p.2 &&& m)

/-- What is kept of a destination, and of a source. -/
def keepDst (k : Nat) (x : Dst) : PDst := ⟨k, x.src, x.primary, x.pend, x.hold, x.deferred, x.flaps, x.latched⟩
def keepSrc (n : Nat) (x : Source) : PSrc := ⟨n, x.kind, x.origin, x.second, x.tp, x.rate, x.groupSize, x.member, x.lead⟩

/-- Lifetime counters (R600): power-on time, restores, seals, unsealed restores, checkpoints, hot time, mirrors. -/
def Dev.lifeNow (d : Dev) : List Nat :=
  [d.temper.onNs, d.fld (Reg.TMP_LIFE 1) 31 0, d.fld (Reg.TMP_LIFE 2) 31 0, d.fld (Reg.TMP_LIFE 3) 31 0, d.temper.ckptCount,
    d.temper.hotNs, d.fld (Reg.TMP_LIFE 7) 31 0]

/-- The persisted state as it stands (R588, R597). -/
def Dev.persist (d : Dev) : Persist :=
  ⟨d.keptRegs, d.hostif.commits.filter fun r => r.slot.isSome,
    d.anvil.dsts.filterMap fun p =>
      let x := keepDst p.1 p.2
      if x = keepDst p.1 Dst.reset then none else some x,
    d.srcList.map fun p => keepSrc p.1 p.2,
    d.anvil.nextTicket, d.anvil.salvos, d.hie.table, d.hie.sn, d.hie.dn,
    d.hie.peers.map fun p => (p.1, p.2.sent, p.2.acted),
    d.hie.crossings, d.hie.cross, d.hie.moves, d.hie.placeDue, d.hie.decision, d.hie.surfs, d.upd.img, d.lifeNow⟩

/-! ### Showing what lies beside the registers -/

/-- Show the lifetime counters (R619). -/
def Dev.showLife (d : Dev) (l : List Nat) : Dev :=
  let hour := 3600000000000
  let put := fun (a : Dev) (i v : Nat) => a.wrNat (Reg.TMP_LIFE i) (min v 0xFFFFFFFF)
  let d1 := put (put (put (put d 0 (l.getD 0 0 / hour)) 1 (l.getD 1 0)) 2 (l.getD 2 0)) 3 (l.getD 3 0)
  put (put (put (put d1 4 (l.getD 4 0 / 1024)) 5 (l.getD 5 0 / hour)) 6 (d.journal.nextSeq / 1048576)) 7 (l.getD 6 0)

/-- Put a role table in force and show it (R409, R444). -/
def Dev.setTable (d : Dev) (t : RoleTable) : Dev :=
  let was := (d.fld Reg.HIE_ROLE 1 0, d.epoch)
  let d1 : Dev := { d with hie := { d.hie with table := t } }
  let d2 := ((d1.setFld Reg.HIE_ROLE 1 0 (t.roles.getD d.position 3)).setFld Reg.HIE_ROLE 10 4 t.manager).wrNat Reg.HIE_EPOCH t.epoch
  if was = (d2.fld Reg.HIE_ROLE 1 0, d2.epoch) then d2 else d2.statusIrq Reg.pageHIE 16

/-- Is this device named in the targets of a part (R707)? The active unit of a pair also holds the chunks of its standby, which
it relays (R711). -/
def Dev.isTarget (d : Dev) (p : PartEntry) : Bool :=
  p.targets.any fun t => t.1 == d.position &&
    (t.2.testBit (b2n (d.flag Reg.HIE_ROLE 18)) || (d.fld Reg.TWN_STAT 2 0 == 4 && t.2 != 0))

/-- A standalone device is its own manager (R726). -/
def Dev.standalone (d : Dev) : Bool := d.live Reg.FAB_CFG 1 0 == 0

/-- Chunks this device stores (R710): those before the parts, those of its own parts, and on the manager every chunk. -/
def Dev.neededChunks (d : Dev) (u : UpdImage) : List Nat :=
  match u.manifest with
  | none => List.range u.lead
  | some m =>
    if d.isManager ∧ d.standalone = false then List.range u.total
    else (List.range u.lead) ++ ((m.parts.filter d.isTarget).flatMap fun p => (List.range p.count).map fun i => p.first + i)

/-- Keep an update image and show it (R729). -/
def Dev.setUpd (d : Dev) (u : UpdImage) : Dev :=
  let was := d.fld Reg.UPD_STAT 3 0
  let d1 : Dev := { d with upd := { d.upd with img := u } }
  let d2 := ((d1.setFld Reg.UPD_STAT 3 0 u.state).setFld Reg.UPD_STAT 7 4 u.part).wrNat Reg.UPD_PKG_ID u.pkg
  let d3 := ((d2.wrNat Reg.UPD_NEW_VER ((u.manifest.map Manifest.ver).getD 0)).setFld Reg.UPD_BITMAP_CNT 16 0 u.held.length).setFld
    Reg.UPD_CHUNKS 16 0 (d.neededChunks u).length
  let d4 := match u.coord with
    | none => (d3.wrNat Reg.UPD_COORD_F_LO 0).wrNat Reg.UPD_COORD_F_HI 0
    | some (f, tp, back) => (d3.wrNat Reg.UPD_COORD_F_LO f).wrNat Reg.UPD_COORD_F_HI (f / 2 ^ 32 % 65536 + tp % 8 * 65536 +
        b2n back * 16777216)
  let d5 := d4.setFld Reg.UPD_SLOTS 7 0 u.slots
  if was = u.state then d5 else d5.statusIrq Reg.pageUPD 16

/-! ### Loading an image (R597, R608, R639) -/

/-- Replace the kept words by those of an image: live values, shadows that read as the live values except on armed pages
(R589), and RW fields. -/
def Dev.loadRegs (d : Dev) (image : List (Nat × Word)) (armed : List Nat) : Dev :=
  let here := d.regs
  let d1 := here.foldl (fun a p =>
    let b := a.wr p.1 (merge (keptMask (slotPages d.hostif.commits) p.1) (a.rd p.1) (resetWord p.1))
    if p.1 % 0x1000 < 0x800 then
      (if keptTypes.contains (pageType (p.1 / 0x1000)) then b.wr p.1 (merge (shMask (p.1 / 0x1000) (p.1 % 0x1000)) (b.rd p.1) (resetWord p.1))
      else b)
    else b) d
  let d2 := (image.filter fun p => decide (0x800 ≤ p.1 % 0x1000)).foldl (fun a p =>
    let m := keptMask armed p.1
    (a.wr p.1 (merge m (a.rd p.1) p.2)).wr (p.1 - 0x800) (merge m (a.rd (p.1 - 0x800)) p.2)) d1
  (image.filter fun p => decide (p.1 % 0x1000 < 0x800)).foldl (fun a p => a.wr p.1 (merge (keptMask armed p.1) (a.rd p.1) p.2)) d2

/-- Pages whose live values differ between two states, lowest first. -/
def changedPages (old d : Dev) : List Nat :=
  (((old.regs ++ d.regs).filterMap fun p =>
    if 0x800 ≤ p.1 % 0x1000 ∧ old.rd p.1 ≠ d.rd p.1 then some (p.1 / 0x1000) else none).foldl (fun l n => insertUp n l) [])

/-- Put the sources of an image in force; a source that is running already runs on. -/
def Dev.loadSrcs (d : Dev) (l : List PSrc) : Dev :=
  let mk := fun (x : PSrc) =>
    let base := match d.src x.src with
      | some y => if y.kind = x.kind ∧ y.origin = x.origin ∧ y.second = x.second then y
          else Source.fresh x.kind x.origin x.second x.tp x.rate
      | none => Source.fresh x.kind x.origin x.second x.tp x.rate
    { base with tp := x.tp, rate := x.rate, groupSize := x.groupSize, member := x.member, lead := x.lead }
  { d with anvil := { d.anvil with srcs := l.foldl (fun a x => Sparse.set (fun _ => none) a x.src (some (mk x))) [] } }

/-- Put the destinations, salvos and tickets of an image in force. -/
def Dev.loadDsts (d : Dev) (p : Persist) : Dev :=
  let keys := (d.anvil.dsts.map Prod.fst ++ p.dsts.map PDst.key).eraseDups
  let d1 := keys.foldl (fun a k =>
    let x := (p.dsts.find? fun x => x.key == k).getD (keepDst k Dst.reset)
    a.updDst k fun y => { y with
      src := x.src, primary := x.primary, pend := x.pend, hold := x.hold, deferred := x.deferred, flaps := x.flaps, latched := x.latched }) d
  { d1 with anvil := { d1.anvil with nextTicket := p.nextTicket, salvos := p.salvos } }

/-- Put the placement and hierarchy state of an image in force: crossings carried anew, raw circuits, moves, maps. -/
def Dev.loadHie (d : Dev) (p : Persist) : Dev :=
  let d1 := d.fabLanes.foldl (fun a x => a.setFabLane x.1 { x.2 with streams := [] }) d
  let d2 : Dev := { d1 with hie := { d1.hie with
    sn := p.sn, dn := p.dn, crossings := p.crossings, cross := [], moves := p.moves, placeDue := p.placeDue, decision := p.decision
    surfs := p.surfs } }
  let d3 := p.cross.foldl (fun a c =>
    if c.item.kind = 8 then
      ({ a with hie := { a.hie with cross := a.hie.cross ++ [c] } } : Dev).rawMark c.item true
    else a.pathAdd c.item) d2
  (p.seqs.foldl (fun a x => a.setPeer x.1 { a.peer x.1 with sent := x.2.1, acted := x.2.2 }) d3).setTable p.table

/-- Replace the list of armed commits and show each of them. -/
def Dev.loadCommits (d : Dev) (l : List CommitReq) : Dev :=
  l.foldl (fun a r => (a.wrNat (Reg.PG_COMMIT_STAT r.page) (1 + b2n r.slipped * 4)).setFlag (Reg.PG_COMMIT r.page) 31 true)
    (d.setCommits l)

/-- Put an image in force: live values with the effects their blocks give a commit, then sources, routes, placement, armed
commits, update. Nothing is sent, journalled or logged. -/
def Dev.load (d : Dev) (p : Persist) : Dev :=
  let d1 := d.loadRegs p.regs (slotPages p.commits)
  let d2 := (changedPages d d1).foldl (fun a page => pageEffect d a page entries16) d1
  let d3 := ((d2.loadSrcs p.srcs).loadDsts p).loadHie p
  let d4 := p.dsts.foldl (fun a x =>
    if 2048 ≤ x.key ∨ x.src.isNone then a
    else
      let dp := a.depthNeeded x.key
      (if dp = 0 then a else a.setStore x.key (some (Store.fresh dp))).placeSwages x.key) d3
  let d5 := (((d4.loadCommits p.commits).setUpd p.upd).surfRefresh.fsRefresh.hrtRefresh).fabShow
  { d5 with journal := d.journal, outbox := d.outbox, evlog := d.evlog }

/-! ### The effect of one record (R593, R605, R637) -/

/-- Effect of a PAGE_WRITE record. -/
def Dev.applyWrites (d : Dev) (page : Nat) (ws : List (Nat × Word)) : Dev :=
  let armed := slotPages d.hostif.commits
  let d1 := ws.foldl (fun a p =>
    let b := a.wr p.1 (merge (keptMask armed p.1) (a.rd p.1) p.2)
    if p.1 % 0x1000 < 0x800 then b
    else b.wr (p.1 - 0x800) (merge (shMask page (p.1 % 0x800)) (b.rd (p.1 - 0x800)) p.2)) d
  if ws.any fun p => decide (0x800 ≤ p.1 % 0x1000) then pageEffect d d1 page entries16 else d1

/-- Effect of a TAKE_END record. On a standby that runs its routes, an applied take still pending is decided and applies at the
next switch line (R638); in a replay it is in force at once. -/
def Dev.applyTakeEnd (d : Dev) (live : Bool) (k ticket result : Nat) : Dev :=
  let d1 := match (d.dst k).pend.find? fun t => t.ticket == ticket with
    | none => d
    | some t =>
      let drop := fun (x : Dst) => { x with pend := x.pend.filter fun u => u.ticket != ticket }
      if result ≠ 3 then d.updDst k drop
      else if live then d.updDst k fun x =>
        { x with pend := x.pend.map fun (u : PendTake) => if u.ticket = ticket then { u with won := true } else u }
      else d.updDst k fun x =>
        let y := { drop x with src := t.src }
        if t.cls = 3 then y else { y with primary := t.src, bad := 0, good := 0, flaps := [], latched := false }
  let d2 := if result = 5 ∧ (d1.anvil.salvos.any fun s => s.ticket == ticket) = true then
      d1.anvil.dsts.foldl (fun a p => if p.2.pend.any fun t => t.salvo == some ticket then
        a.updDst p.1 fun x => { x with pend := x.pend.filter fun t => t.salvo != some ticket } else a) d1
    else d1
  d2.dropDoneSalvos

/-- What the manager knows of a crossing follows the items it sends (R392, R428): a path added or moved, a path dropped. -/
def Dev.crossLearn (d : Dev) (pos : Nat) (i : PlaceItem) : Dev :=
  let old := (d.hie.crossings.find? fun c => c.num == i.num).getD
    ⟨i.num, 0, 0, i.tp.val, laneCapacity / max 1 i.sc, 0, 0, true, []⟩
  let others := d.hie.crossings.filter fun c => c.num != i.num
  if i.kind = 0 ∨ i.kind = 2 then
    let c1 := { old with items := (old.items.filter fun x => !(i.kind == 2 && x.1 == pos)) ++ [(pos, i)], placed := true }
    let c2 := if i.rxLane.isNone then { c1 with srcPos := pos, src := i.idx } else c1
    let c3 := if i.txLane.isNone then { c2 with dstPos := pos, dstSrc := i.idx } else c2
    { d with hie := { d.hie with crossings := others ++ [c3] } }
  else if i.kind = 1 then
    let left := old.items.filter fun x => !(x.1 == pos && x.2.rxLane == i.rxLane && x.2.txLane == i.txLane)
    { d with hie := { d.hie with crossings := if left = [] then others else others ++ [{ old with items := left }] } }
  else d

/-- Destination key of a TAKE record for another position (R435, R593). -/
def elsewhere : Nat := 65535

/-- Effect of one record on a state that is being restored, or on a standby (`live`). -/
def Dev.applyBody (d : Dev) (live : Bool) : JBody → Dev
  | .pageWrite page ws => d.applyWrites page ws
  | .commitArm page r =>
    let others := d.hostif.commits.filter fun q => q.page != page
    let d1 := (d.setCommits (others ++ r.toList)).setFlag (Reg.PG_COMMIT page) 31 r.isSome
    d1.wrNat (Reg.PG_COMMIT_STAT page) (match r with
      | some q => 1 + b2n q.slipped * 4
      | none => 0)
  | .take k t =>
    let d1 : Dev := { d with anvil := { d.anvil with nextTicket := max d.anvil.nextTicket (t.ticket + 1) } }
    -- the manager's record of a take that it has sent to another position (R435)
    if t.dn.isSome && k == elsewhere then d1
    else d1.updDst k fun x => { x with pend := (x.pend.filter fun u => u.ticket != t.ticket) ++ [t] }
  | .takeEnd k ticket result _ _ => d.applyTakeEnd live k ticket result
  | .hold k h =>
    match h, d.salvoFrame k with
    | some y, some f => d.updDst k fun x => { x with deferred := some (y, f) }
    | _, _ => d.updDst k fun x => { x with hold := h, deferred := none }
  | .salvo s =>
    let d1 : Dev := { d with anvil := { d.anvil with
      nextTicket := max d.anvil.nextTicket (s.ticket + 1), salvos := d.anvil.salvos ++ [s] } }
    s.members.foldl (fun a m =>
      a.updDst m.1 fun x => { x with pend := x.pend ++ [⟨s.ticket, s.cls, s.port, m.2.1, m.2.2, false, some s.ticket, false, none⟩] }) d1
  | .place decision _ pos item =>
    let due := if pos = d.position then d.hie.placeDue ++ [item] else d.hie.placeDue
    let d1 : Dev := { d with hie := { d.hie with decision := decision, placeDue := due } }
    if d.isManager then d1.crossLearn pos item else d1
  | .role t => d.setTable t
  | .maps sn dn =>
    let put := fun (l : List (Nat × Nat)) (ws : List (Nat × Nat)) => ws.foldl (fun a w => Sparse.set (fun _ => 0) a w.1 w.2) l
    { d with hie := { d.hie with sn := put d.hie.sn sn, dn := put d.hie.dn dn } }
  | .tongsSeq peer sent acted => d.setPeer peer { d.peer peer with sent := sent, acted := acted }
  | .chart seq hash => (d.wrNat Reg.SYS_CHART_SEQ seq).wr64 Reg.SYS_CHART_HASH_LO Reg.SYS_CHART_HASH_HI hash
  | .upd u => d.setUpd u
  | .ckptMark _ _ _ => d
  | .seal _ _ life =>
    let d1 : Dev := { d with temper := { d.temper with onNs := life.getD 0 0, ckptCount := life.getD 4 0, hotNs := life.getD 5 0 } }
    d1.showLife life
  | .resume _ => d

/-- Effects of some records; nothing is sent, journalled or logged. -/
def Dev.applyBodies (d : Dev) (live : Bool) (l : List JBody) : Dev :=
  let d1 := l.foldl (fun a b => a.applyBody live b) d
  { d1 with journal := d.journal, outbox := d.outbox, evlog := d.evlog }

/-! ### Restore (R605, R606, R609) -/

/-- Number of lines of the ring (R590). -/
def ringLines : Nat := 1048576

/-- A checkpoint is used when the record at its ring line is lost or does not come after J_CUT + 1. -/
def Journal.usable (j : Journal) (c : Ckpt) : Bool :=
  match j.ring.find? fun r => r.seq % ringLines == c.cut % ringLines with
  | none => true
  | some r => decide (r.seq ≤ c.cut)

/-- The checkpoint that a restore uses, and the frames passed over: those that do not read well, and those whose following
record is gone. -/
def Journal.choose (j : Journal) : List Ckpt → Option Ckpt × List Nat
  | [] => (none, [])
  | c :: t => if c.ok && j.usable c then (some c, [])
    else
      let r := j.choose t
      (r.1, c.frame :: r.2)

/-- The records that follow one another without a gap from a SEQ on. -/
def runFrom : Nat → List JRecord → List JRecord
  | _, [] => []
  | n, r :: t => if r.seq = n then r :: runFrom (n + 1) t else []

/-- The records of whole groups. -/
def wholeGroups (l : List JRecord) : List JRecord := (l.reverse.dropWhile JRecord.more).reverse

/-- What a restore found: source (code of TMP_RESTORE), frames passed over, records replayed, records beyond the stop point, the
last record replayed, the time restored and whether the journal was sealed. -/
structure Restored where
  source : Nat
  passed : List Nat
  replayed : Nat
  beyond : Nat
  last : Option JBody
  time : Nat
  deriving DecidableEq, Repr

/-- Device time (ns) to which a checkpoint's time advances by the 32-bit time of a record (R606). -/
def advance32 (t r : Nat) : Nat := t + (r + 2 ^ 32 - t % 2 ^ 32) % 2 ^ 32

/-- Restore the state of a device whose pages are at reset from checkpoint `c`: load its body and replay the journal. -/
def Dev.replayFrom (d : Dev) (c : Ckpt) (passed : List Nat) : Dev × Restored :=
  let after := d.journal.ring.filter fun r => decide (c.cut ≤ r.seq)
  let run := runFrom c.cut after
  let done := wholeGroups run
  let last := done.getLast?
  let base : Dev := { d.load c.image with temper := { d.temper with
    onNs := c.image.life.getD 0 0, ckptCount := c.image.life.getD 4 0, hotNs := c.image.life.getD 5 0 } }
  let d1 := (base.showLife c.image.life).applyBodies false (done.map JRecord.body)
  let time := match last with
    | none => c.time
    | some r => match r.body with
      | .seal t _ _ => t
      | _ => advance32 c.time r.time
  (d1, ⟨if passed = [] then 1 else 2, passed, done.length, after.length - run.length, last.map JRecord.body, time⟩)

/-- Restore by R605 and R609: the first usable checkpoint with the journal after it, else the newer mirror, else nothing. -/
def Dev.restore (d : Dev) : Dev × Restored :=
  match d.journal.choose d.temper.ckpts with
  | (some c, passed) => d.replayFrom c passed
  | (none, passed) =>
    match d.temper.mirrors with
    | (_, m) :: _ =>
      let life := m.ckpt.image.life
      let d1 : Dev := { d.load m.ckpt.image with temper := { d.temper with
        onNs := life.getD 0 0, ckptCount := life.getD 4 0, hotNs := life.getD 5 0 } }
      (d1.showLife life, ⟨3, passed, 0, 0, none, m.ckpt.time⟩)
    | [] => (d, ⟨if d.temper.everHeld then 4 else 0, passed, 0, 0, none, 0⟩)

/-- The holdover average continues from the memory that was restored. -/
def Dev.hoRestore (d : Dev) : Dev :=
  let m := toSigned 32 (d.rd Reg.REF_HO_MEM).toNat
  { d with bellows := { d.bellows with hoAvg := if d.hoValid || m != 0 then some (m * 4294967296) else none } }

/-- Show what a restore found: TMP_RESTORE, TMP_REPLAY, sticky bits with their events, lifetime counts. -/
def Dev.restoreShow (d : Dev) (r : Restored) : Dev :=
  let sealed_ := match r.last with
    | some (.seal _ _ _) => true
    | _ => false
  let ended := match r.last with
    | some (.seal _ _ _) => true
    | some (.resume _) => true
    | _ => false
  let d1 := (d.wrNat Reg.TMP_RESTORE (r.source + b2n sealed_ * 8)).wrNat Reg.TMP_REPLAY (min r.replayed 2097151)
  let d2 := r.passed.foldl (fun a f => a.raiseLog Reg.pageTMP 1 f) d1
  let d3 := if r.beyond = 0 then d2 else d2.raiseLog Reg.pageTMP 2 r.beyond
  let d4 := if r.source = 1 ∨ r.source = 2 then
      (if ended then d3 else (d3.bump (Reg.TMP_LIFE 3) 31 0).raise Reg.pageTMP 0 0)
    else if r.source = 3 then d3.raise Reg.pageTMP 3 0
    else if r.source = 4 then d3.raise Reg.pageTMP 4 0
    else d3
  if r.source = 0 then d4 else d4.bump (Reg.TMP_LIFE 1) 31 0

/-! ### Items that passed while the device was off (R607) -/

/-- Put an item into a list in order of its instant. -/
def insertItem (x : Nat × Nat × Option Nat) : List (Nat × Nat × Option Nat) → List (Nat × Nat × Option Nat)
  | [] => [x]
  | y :: t => if x.1 < y.1 then x :: y :: t else y :: insertItem x t

/-- Takes and commits whose target lies before now, in order: instant, destination or page, and the read frame of a take. -/
def Dev.passedItems (d : Dev) : List (Nat × Nat × Option Nat) :=
  let takes := d.anvil.dsts.flatMap fun p =>
    ((p.2.pend.map fun t => d.readFrame p.1 t).eraseDups.map fun g => (d.switchInstant p.1 g, p.1, some g))
  let commits := d.hostif.commits.filterMap fun r => r.slot.map fun k => (d.cslotInstant k, r.page, (none : Option Nat))
  ((takes ++ commits).filter fun x => decide (x.1 < d.time)).foldl (fun l x => insertItem x l) []

/-- Apply one of them: a take with the frame at which routes are restored, a commit with SLIPPED. -/
def Dev.applyPassed (d : Dev) (x : Nat × Nat × Option Nat) : Dev :=
  match x.2.2 with
  | some g =>
    let k := x.2.1
    let d1 := d.rankFrame k g
    (((d1.dst k).pend.filter fun t => t.won && d1.readFrame k t == g).foldl
      (fun a w => a.applyTake k ((a.coordNow (a.dstPlane k)).f + 1) w) d1).dropDoneSalvos
  | none =>
    match d.commitOf x.2.1 with
    | some r => d.commitItems [(r, if r.left = [] then entries16 else r.left, true)]
    | none => d

/-- Apply all of them, and how many there were. -/
def Dev.applyAllPassed (d : Dev) : Dev :=
  let l := d.passedItems
  (l.foldl Dev.applyPassed d).setFld Reg.TMP_REPLAY 31 21 (min l.length 2047)

/-! ### Journal (R594 to R596, R612) -/

/-- An uncorrectable line is remapped to a spare line (R612). -/
def Dev.remapLine (d : Dev) (line : Nat) : Dev :=
  let d1 := (d.bump Reg.TMP_UE 31 0).raiseLog Reg.pageTMP 6 line
  let left := d.fld Reg.TMP_SPARE 16 0
  let d2 := d1.setFld Reg.TMP_SPARE 16 0 (left - 1)
  if left - 1 < 6554 then d2.raise Reg.pageTMP 7 0 else d2

/-- May n records be written now: at most 262,144 in a second (R595), and no record that the older of the two newest
checkpoints needs is overwritten (R596)? -/
def Dev.ringRoom (d : Dev) (n : Nat) : Bool :=
  let j := d.journal
  let cut := match d.temper.ckpts with
    | _ :: b :: _ => b.cut
    | [a] => a.cut
    | [] => 0
  decide ((if j.second = d.nowNs / 1000000000 then j.inSecond else 0) + n ≤ 262144) &&
    decide (j.nextSeq + n ≤ cut + ringLines)

/-- The records of a group as they stand when it is durable: a take or salvo with the frame it then gets. -/
def Dev.groupBodies (d : Dev) (g : JGroup) : List JBody :=
  match g.effect with
  | .take k t f _ =>
    let r := d.takeFrame k t.src f
    [.take k { t with f := r.1, slipped := t.slipped || r.2 }]
  | .salvo s now => [.salvo (d.salvoSettle s now).1]
  | _ => g.bodies

/-- The state change of a group takes effect. -/
def Dev.groupEffect (d : Dev) : JEffect → Dev
  | .take k t f via => d.takeDurable k t f via
  | .takeCancel k ticket via => d.cancelDurable k ticket via
  | .hold k h after via => d.holdDurable k h after via
  | .salvo s now => d.salvoDurable s now
  | .salvoCancel ticket => d.salvoCancelDurable ticket

/-- The oldest group is durable. -/
def Dev.durableGroup (d : Dev) (failed : List Nat) : Dev :=
  match d.journal.queue with
  | [] => d
  | g :: rest =>
    let bodies := d.groupBodies g
    let first := d.journal.nextSeq
    let d1 := ({ d with journal := { d.journal with queue := rest } } : Dev).jAppend bodies
    let d2 := (failed.filter fun i => decide (i < bodies.length)).foldl (fun a i => a.remapLine ((first + i) % ringLines)) d1
    d2.groupEffect g.effect

/-- JOURNAL_DURABLE: a group that may not be written yet waits on. -/
def Dev.journalDurable (d : Dev) (failed : List Nat) : Dev :=
  match d.journal.queue with
  | [] => d
  | g :: _ => if d.ringRoom (d.groupBodies g).length then d.durableGroup failed else d

def execJournalDurable (failed : List Nat) (s : State) := s.onDev fun d => d.journalDurable failed

def execJournalWait (s : State) :=
  s.onDev fun d => if d.journal.queue = [] then d else d.raise Reg.pageTMP 10 0

/-- A read of TMP_JSEQ_LO latches TMP_JSEQ_HI (R135). -/
def execJseqRead (s : State) :=
  s.onDev fun d => (d.wrNat Reg.TMP_JSEQ_LO d.journal.nextSeq).wrNat Reg.TMP_JSEQ_HI (d.journal.nextSeq / 2 ^ 32)

/-! ### Checkpoints (R597 to R600) -/

/-- A checkpoint starts: its image is frozen as it stands. -/
def Dev.ckptStart (d : Dev) : Dev :=
  if d.sealing || d.temper.writing.isSome then d
  else
    let newest := d.temper.ckpts.head?
    let c : Ckpt := ⟨((newest.map Ckpt.seq).getD 0 + 1) % 2 ^ 32, (newest.map fun c => (c.frame + 1) % 4).getD 0, d.journal.nextSeq, d.nowNs,
      d.rd64 Reg.SYS_CHART_HASH_LO Reg.SYS_CHART_HASH_HI, true, d.persist⟩
    ({ d with temper := { d.temper with writing := some c } } : Dev).setFlag Reg.TMP_STAT 2 true

def execCheckpointStart (s : State) := s.onDev Dev.ckptStart

/-- TMP_CKPT_CTRL.NOW: BUSY until a checkpoint has been written. -/
def execCkptNow (w : Writer) (s : State) :=
  s.onDev fun d => d.gated Reg.pageTMP 0x050 w fun d => d.wrNat Reg.TMP_CKPT_CTRL 0x80000001

/-- Writes of the most-written 4 KB block of 64 lines (R610): the ring, the first block of a checkpoint frame (a header twice
and 63 lines of body), the event log (128 entries a block) and the audit log (64). -/
def Dev.wear (d : Dev) : Nat :=
  let ring := fun (n lines per : Nat) => per * (n / lines) + min per (n % lines)
  max (max (ring d.journal.nextSeq ringLines 64) (65 * ((d.temper.ckptCount + 3) / 4)))
    (max (ring (d.rd Reg.SYS_EVT_WR).toNat 65536 128) (ring d.hal.auditNext 131072 64))

/-- Ask for a mirror: it forces a checkpoint (R614). -/
def Dev.mirrorRequest (d : Dev) : Dev :=
  if d.temper.mirrorRun.isSome || d.temper.mirrorWant then d
  else ({ d with temper := { d.temper with mirrorWant := true } } : Dev).setFlag Reg.CRU_STAT 9 true

/-- A mirror that waits starts from the newest checkpoint, into the generation that does not hold the newer mirror. -/
def Dev.mirrorStart (d : Dev) : Dev :=
  if !d.temper.mirrorWant then d
  else match d.temper.ckpts with
    | [] => d
    | c :: _ =>
      let gen := match d.temper.mirrors with
        | (g, _) :: _ => 1 - g
        | [] => 0
      { d with temper := { d.temper with mirrorWant := false, mirrorRun := some (gen, c) } }

/-- A copy that waits for its checkpoint is sent to the standby (R639): the body, then as one epoch the records that follow its
J_CUT, which were held meanwhile. -/
def Dev.copySend (d : Dev) (c : Ckpt) : Dev :=
  if !d.twin.copyWait then d
  else
    let recs := d.journal.ring.filter fun r => decide (c.cut ≤ r.seq)
    let d1 : Dev := { d with
      twin := { d.twin with copyWait := false, copying := true }
      journal := { d.journal with epoch := recs, epochAt := d.nowNs } }
    d1.send (.clasp none (.copy c.image))

/-- The header is marked COMPLETE and CKPT_MARK is written. -/
def Dev.ckptComplete (d : Dev) : Dev :=
  match d.temper.writing with
  | none => d
  | some c =>
    let d1 : Dev := { d with temper := { d.temper with
      writing := none
      ckpts := c :: d.temper.ckpts.filter fun x => x.frame != c.frame
      ckptCount := d.temper.ckptCount + 1
      everHeld := true } }
    let d2 := (((d1.setFlag Reg.TMP_STAT 2 false).setFld Reg.TMP_STAT 5 4 c.frame).wrNat Reg.TMP_CKPT_SEQ c.seq).setFlag
      Reg.TMP_CKPT_CTRL 31 false
    let d3 := d2.jAppend [.ckptMark c.seq c.frame ((c.cut + 2 ^ 64 - 1) % 2 ^ 64)]
    (((d3.showLife d3.lifeNow).wrNat Reg.TMP_WEAR (min (d3.wear / 1000) 0xFFFFFFFF))).mirrorStart.copySend c

def execCheckpointComplete (s : State) := s.onDev Dev.ckptComplete

/-! ### Power fail (R601 to R604) -/

/-- Move TMP_STAT.MODE (R621). -/
def Dev.setMode (d : Dev) (m : Nat) : Dev :=
  if d.fld Reg.TMP_STAT 1 0 = m then d else (d.setFld Reg.TMP_STAT 1 0 m).statusIrq Reg.pageTMP 16

/-- The warning: device time is latched with the always-on count (R751), state changes stop, a checkpoint being written is abandoned. One that comes while the first is in force
changes nothing. -/
def Dev.powerWarn (d : Dev) (cause : Nat) : Dev :=
  if d.temper.warned.isSome then d
  else
    let d1 : Dev := { d with
      temper := { d.temper with warned := some (d.nowNs, cause), writing := none }
      ptp := { d.ptp with aonBase := some d.time } }
    let d2 := if d.temper.writing.isSome then (d1.setFlag Reg.TMP_STAT 2 false).setFlag Reg.TMP_CKPT_CTRL 31 false else d1
    if d2.fld Reg.TMP_STAT 1 0 = 0 then d2.setMode 2 else d2

def execPwrFailWarning (cause : Fin 2) (s : State) := s.onDev fun d => d.powerWarn cause.val

/-- Every group already requested is durable, then the SEAL record. -/
def Dev.seal (d : Dev) : Dev :=
  match d.temper.warned with
  | none => d
  | some (at_, cause) =>
    if d.fld Reg.TMP_STAT 1 0 ≠ 2 then d
    else
      let d1 := (List.range d.journal.queue.length).foldl (fun a _ => a.durableGroup []) d
      let d2 := d1.bump (Reg.TMP_LIFE 2) 31 0
      let d3 := (d2.showLife d2.lifeNow).jAppend [.seal d.nowNs cause d2.lifeNow]
      let d4 : Dev := { d3 with temper := { d3.temper with everHeld := true } }
      (d4.setFld Reg.TMP_SEAL_TIME 15 0 (min ((d.nowNs - at_) / 1000) 65535)).setMode 3

def execSealDurable (s : State) := s.onDev Dev.seal

/-- The warning is withdrawn: the sequence completes to the seal, RESUME is written, changes are accepted again. -/
def Dev.warnEnd (d : Dev) : Dev :=
  match d.temper.warned with
  | none => d
  | some _ =>
    let d1 := d.seal
    let d2 : Dev := { d1 with temper := { d1.temper with warned := none } }
    if d2.fld Reg.TMP_STAT 1 0 = 3 then ((d2.setMode 0).jAppend [.resume 1]).raise Reg.pageTMP 9 0 else d2

def execWarningWithdrawn (s : State) := s.onDev Dev.warnEnd

/-! ### Patrol scrub (R611, R612) -/

/-- The content of a line is lost: a journal record, a checkpoint frame, two event entries, an audit entry, a half of the Chart
region, the update region (R590, R612). -/
def Dev.lineLost (d : Dev) (line : Nat) : Dev :=
  if line < 0x100000 then
    { d with journal := { d.journal with ring := d.journal.ring.filter fun r => r.seq % ringLines != line } }
  else if line < 0x280000 then
    let f := (line - 0x100000) / 0x60000
    { d with temper := { d.temper with ckpts := d.temper.ckpts.map fun c => if c.frame = f then { c with ok := false } else c } }
  else if line < 0x288000 then
    { d with evlog := { d.evlog with entries := d.evlog.entries.filter fun e => e.seq % 65536 / 2 != line - 0x280000 } }
  else if line < 0x2A8000 then
    { d with hal := { d.hal with audit := d.hal.audit.filter fun e => e.seq % 131072 != line - 0x288000 } }
  else if line < 0x2C8000 then
    { d with temper := { d.temper with chartLost := ((line - 0x2A8000) / 0x10000 :: d.temper.chartLost).eraseDups } }
  else if line = 0x2C8000 then { d with temper := { d.temper with salt := false } }
  else if line < 0x2D8000 then { d with temper := { d.temper with updLost := true } }
  else d

/-- Patrol scrub reads the next line. -/
def Dev.temperScrub (d : Dev) (corrected : Nat) (uncorrectable : Bool) : Dev :=
  if !d.liveFlag Reg.TMP_SCRUB 31 then d
  else
    let line := d.fld Reg.TMP_SCRUB_POS 21 0
    let d1 :=
      if uncorrectable then (d.lineLost line).remapLine line
      else if corrected ≠ 0 then (d.bump Reg.TMP_CE 31 0).raise Reg.pageTMP 5 0
      else d
    d1.setFld Reg.TMP_SCRUB_POS 21 0 ((line + 1) % 4194304)

def execTemperScrub (corrected : Fin 4) (uncorrectable : Bool) (s : State) := s.onDev fun d => d.temperScrub corrected.val uncorrectable

/-! ### Crucible: mirrors (R614) -/

def execMirrorTimer (s : State) := s.onDev Dev.mirrorRequest

def execMirrorNow (w : Writer) (s : State) :=
  s.onDev fun d => d.gated Reg.pageCRU 0x048 w fun d =>
    if d.flag Reg.CRU_MIRROR_CTRL 31 then d else (d.wrNat Reg.CRU_MIRROR_CTRL 0x80000001).mirrorRequest

/-- A mirror ends. -/
def Dev.mirrorDone (d : Dev) (ok : Bool) : Dev :=
  match d.temper.mirrorRun with
  | none => d
  | some (gen, c) =>
    let m : Mirror := ⟨c, d.evlog.entries, d.hal.audit, d.hostif.chart, d.hostif.chartPrev, d.upd.img⟩
    let d0 := (d.setFlag Reg.CRU_STAT 9 false).setFlag Reg.CRU_MIRROR_CTRL 31 false
    if ok then
      let d1 : Dev := { d0 with temper := { d0.temper with
        mirrorRun := none, mirrors := (gen, m) :: d0.temper.mirrors.filter (fun x => x.1 != gen), mirrorAt := d.nowNs } }
      ((d1.wrNat Reg.CRU_MIRROR_STAT (1 + gen * 4)).bump (Reg.TMP_LIFE 7) 31 0).raise Reg.pageCRU 7 0
    else
      let d1 : Dev := { d0 with temper := { d0.temper with
        mirrorRun := none, mirrors := d0.temper.mirrors.filter fun x => x.1 != gen } }
      (d1.setFld Reg.CRU_MIRROR_STAT 1 0 2).raise Reg.pageCRU 0 0

def execMirrorDone (ok : Bool) (s : State) := s.onDev fun d => d.mirrorDone ok

/-! ### Crucible: the surface library (R615) -/

/-- Bytes free in LIBRARY. -/
def Dev.libFree (d : Dev) : Nat := d.temper.libBytes - d.engines.library.foldl (fun a x => a + x.bytes.length) 0

/-- Show the number of surfaces held and the room left in MB. -/
def Dev.libShow (d : Dev) : Dev :=
  (d.setFld Reg.CRU_LIB_COUNT 16 0 d.engines.library.length).setFld Reg.CRU_LIB_FREE 22 0 (min (d.libFree / 1048576) 8388607)

/-- A store or delete ends: result and reason, BUSY clear, LIB_DONE. -/
def Dev.libEnd (d : Dev) (result reason : Nat) : Dev :=
  (((d.wrNat Reg.CRU_LIB_RESULT (result + reason * 256)).setFlag Reg.CRU_LIB_CTRL 31 false).setFlag Reg.CRU_STAT 10 false).raise
    Reg.pageCRU 6 0

/-- Is a surface named by an applied or armed commit or by a loss policy? -/
def Dev.surfInUse (d : Dev) (num : Nat) : Bool := d.surfWanted.any fun p => p.1 == num

/-- A request is accepted: it becomes visible when its index update is durable. -/
def Dev.libAccept (d : Dev) (j : LibJob) : Dev :=
  ({ d with temper := { d.temper with lib := some j } } : Dev).setFlag Reg.CRU_STAT 10 true

/-- A write of CRU_LIB_CTRL with OP and source `v`. -/
def Dev.libGo (d : Dev) (w : Writer) (v : Nat) (f : Dev → Nat → Dev) : Dev :=
  d.gated Reg.pageCRU 0x050 w fun d =>
    if d.flag Reg.CRU_LIB_CTRL 31 then d
    else
      let d1 := (d.wrNat Reg.CRU_LIB_CTRL v).setFlag Reg.CRU_LIB_CTRL 31 true
      -- no state change is accepted while the journal is closed (R602); CRU_LIB_RESULT has no code for it
      if d.sealing then d1.libEnd 2 0 else f d1 (d.fld Reg.CRU_LIB_NUM 15 0)

/-- STORE: the surface at CRU_LIB_ADDR, of the length its header gives. -/
def Dev.libStore (d : Dev) (m : Mem) (dram busErr : Bool) (num : Nat) : Dev :=
  let a := d.rd64 Reg.CRU_LIB_ADDR_LO Reg.CRU_LIB_ADDR_HI
  if busErr then d.libEnd 2 4
  else
    let x : Surface := ⟨num, m.bytes dram a (m.nat dram (a + 24) 4)⟩
    let held := ((d.engines.library.find? fun y => y.num == num).map fun y => y.bytes.length).getD 0
    if !x.ok then d.libEnd 2 1
    else if d.libFree + held < x.bytes.length then d.libEnd 2 2
    else if d.surfInUse num then d.libEnd 2 3
    else d.libAccept ⟨num, some x.bytes⟩

def execLibStore (dram : Bool) (cells : List Host.Cell) (busErr : Bool) (w : Writer) (s : State) :=
  s.onDevHost cells fun m d => d.libGo w (b2n dram * 4) fun d num => d.libStore m dram busErr num

def execLibDelete (w : Writer) (s : State) :=
  s.onDev fun d => d.libGo w 1 fun d num => if d.surfInUse num then d.libEnd 2 3 else d.libAccept ⟨num, none⟩

/-- The index update is durable. -/
def Dev.libDone (d : Dev) : Dev :=
  match d.temper.lib with
  | none => d
  | some j =>
    let rest := d.engines.library.filter fun x => x.num != j.num
    let lib := match j.bytes with
      | some b => rest ++ [⟨j.num, b⟩]
      | none => rest
    let d1 : Dev := { d with
      engines := { d.engines with library := lib }
      temper := { d.temper with lib := none, libBad := d.temper.libBad.filter fun n => n != j.num } }
    (d1.libShow).libEnd 1 0

def execLibDone (s : State) := s.onDev Dev.libDone

/-! ### Crucible: flash management (R617, R618) -/

/-- An uncorrectable codeword. -/
def Dev.nandUncorr (d : Dev) : Dev := (d.bump Reg.CRU_UNCORR 31 0).raise Reg.pageCRU 2 0

/-- Background work of the flash controller. -/
def Dev.nandStep (d : Dev) : NandOp → Dev
  | .refreshed => d.bump Reg.CRU_REFRESHED 31 0
  | .corrected => d.bump Reg.CRU_CORR 31 0
  | .retired =>
    ((d.bump Reg.CRU_BLOCKS 15 0).setFld Reg.CRU_BLOCKS 31 16 (d.fld Reg.CRU_BLOCKS 31 16 - 1)).raise Reg.pageCRU 5 0
  | .uncorrLibrary num =>
    if d.engines.library.any fun x => x.num == num.val then
      (({ d with temper := { d.temper with libBad := (num.val :: d.temper.libBad).eraseDups } } : Dev).nandUncorr).raise Reg.pageCRU 1 0
    else d.nandUncorr
  | .uncorrMirror gen =>
    ({ d with temper := { d.temper with mirrors := d.temper.mirrors.filter fun x => x.1 != gen.val } } : Dev).nandUncorr
  | .uncorrOther => d.nandUncorr
  | .wear peak rating days left all =>
    let d1 := ((d.wrNat Reg.CRU_WEAR (min peak 65535 + min rating 65535 * 65536)).setFld Reg.CRU_FORECAST 15 0 (min days 65535)).setFld
      Reg.CRU_BLOCKS 31 16 (min left 65535)
    let d2 := if days < d.live Reg.CRU_WARN 15 0 then d1.raise Reg.pageCRU 3 0 else d1
    if left * 10 < all then d2.raise Reg.pageCRU 4 0 else d2

def execNandRefresh (op : NandOp) (s : State) := s.onDev fun d => d.nandStep op

end Sys2Proof.Machine
end

