-- ==== Sys2Proof/Machine/Update.lean ====
section
/-!
DEFINITION. The audit log, restarts of the Hallmark and of the control cores, and the firmware update: chunks, staging,
commit, probation, rollback and finalisation (spec/20_security_and_update.md, R703, R704, R706 to R727, R729).
-/

namespace Sys2Proof.Machine

open Sys2Proof

/-! ### Audit log (R703, R704, R610) -/

/-- Bytes 0 to 47 of an audit entry. -/
def AuditEntry.bytes (e : AuditEntry) : List Byte :=
  bytesLE 8 e.seq ++ bytesLE 8 e.time ++ bytesLE 1 e.kind ++ bytesLE 1 (e.cls % 4 + e.result % 16 * 16) ++ bytesLE 1 (e.slot % 16) ++
    bytesLE 1 0 ++ bytesLE 4 e.who ++ bytesLE 24 e.detail

/-- Write one audit entry; beyond 16,384 in a second it is counted and not written. -/
def Dev.audit (d : Dev) (kind cls result slot who detail : Nat) : Dev :=
  if d.fld Reg.TMP_STAT 1 0 = 3 then d
  else
    let sec := d.nowNs / 1000000000
    let cnt := if sec = d.hal.second then d.hal.inSecond else 0
    if 16384 ≤ cnt then d.bump Reg.TMP_EVT_DROP 31 16
    else
      let prev := ((d.hal.audit.getLast?).map AuditEntry.tag).getD 0
      let e0 : AuditEntry := ⟨d.hal.auditNext, d.nowNs, kind, cls, result, slot, who, detail, 0⟩
      let e : AuditEntry := { e0 with tag := Config.auditTag (e0.bytes ++ bytesLE 16 prev) }
      let keep := if 131072 ≤ d.hal.audit.length then d.hal.audit.drop 1 else d.hal.audit
      let d1 : Dev := { d with hal := { d.hal with
        audit := keep ++ [e], auditNext := d.hal.auditNext + 1, second := sec, inSecond := cnt + 1 } }
      d1.wrNat Reg.HAL_AUDIT_WR_LO (d.hal.auditNext + 1)

/-- An authentication failure: at most one entry a second and source, the others counted in the next entry. -/
def Dev.auditFail (d : Dev) (who : Nat) : Dev :=
  let sec := d.nowNs / 1000000000
  let put := fun (n : Nat) (a : Dev) => ({ a with hal := { a.hal with
    failed := (a.hal.failed.filter fun x => x.1 != who) ++ [(who, sec, n)] } } : Dev)
  match d.hal.failed.find? fun x => x.1 == who with
  | none => (put 0 d).audit 0x07 3 1 0xF who 0
  | some (_, s, n) => if s = sec then put (n + 1) d else (put 0 d).audit 0x07 3 1 0xF who n

/-! ### Restarts (R697, R720) -/

/-- Move the Hallmark to a state (R696); APPROVED reads 1 in OPERATIONAL with test access off (R687). The change is audited
with the failing test (R703) and signalled (R730). -/
def Dev.setHal (d : Dev) (st : Nat) : Dev :=
  let d1 := (d.setFld Reg.HAL_STAT 1 0 st).setFlag Reg.HAL_STAT 2 (st == 1 && !d.hal.testAccess)
  if d.halState = st then d1
  else ((d1.statusIrq Reg.pageHAL 16).audit 0x02 3 0 0xF 0 (st + d.fld Reg.HAL_STAT 15 8 * 256)).twnShow

/-- Show the keys held. -/
def Dev.showKeys (d : Dev) : Dev :=
  ((d.setFlag Reg.HAL_STAT 4 (d.hal.hierKeys != 0)).setFlag Reg.HAL_STAT 5 (d.hal.twinKeys != 0)).setFlag Reg.HAL_STAT 6
    (d.hal.tlsKey && d.hal.cert)

/-- The Hallmark restarts: it runs its self-test. -/
def Dev.halRestart (d : Dev) : Dev := ((d.setFld Reg.HAL_STAT 15 8 0).setHal 0).setFlag Reg.HAL_CMD 31 false

/-- The control cores restart: sessions close. -/
def Dev.closeSessions (d : Dev) : Dev :=
  let open_ := ((List.range 8).filter fun i => d.hostif.sessions.getD i false)
  open_.foldl (fun a i => a.audit 0x06 3 0 0xF i 0)
    ({ d with hostif := { d.hostif with sessions := List.replicate 8 false } } : Dev)

/-! ### Who is named -/

/-- The device drives the update: the manager of a hierarchy, or a standalone device (R726). -/
def Dev.updDriver (d : Dev) : Bool := d.standalone || d.isManager

/-- Plane and present frame of update coordinates (R717). -/
def Dev.updTp (d : Dev) : Nat := d.live Reg.UPD_CFG 2 0
def Dev.updFrame (d : Dev) : Nat := (d.coordNow d.updTp).f

/-- Devices that a manifest names, position and unit. -/
def manNamed (m : Manifest) : List (Nat × Nat) :=
  (m.parts.flatMap fun p => p.targets.flatMap fun t =>
    (if t.2.testBit 0 then [(t.1, 0)] else []) ++ (if t.2.testBit 1 then [(t.1, 1)] else [])).eraseDups

/-- Each named device has exactly one part of each type (R708). -/
def manTargetsOk (m : Manifest) : Bool :=
  (manNamed m).all fun x => (List.range 4).all fun t =>
    (m.parts.filter fun p => p.typ == t && p.targets.any fun y => y.1 == x.1 && y.2.testBit x.2).length == 1

/-- Other positions that take part. -/
def Dev.updOthers (d : Dev) : List Nat :=
  ((d.upd.devs.filter UpdDev.named).map UpdDev.pos).eraseDups.filter fun p => p != d.position

/-- Show the selected device (R729). -/
def Dev.updPosShow (d : Dev) : Dev :=
  let p := d.fld Reg.UPD_POS_SEL 6 0
  let u := d.fld Reg.UPD_POS_SEL 7 7
  match d.upd.devs.find? fun x => x.pos == p && x.unit == u with
  | some x => if d.updDriver then
      d.wrNat Reg.UPD_POS_STAT (x.state % 16 + b2n x.named * 16 + b2n x.acked * 32 + x.reason % 256 * 256) else d.wrNat Reg.UPD_POS_STAT 0
  | none => d.wrNat Reg.UPD_POS_STAT 0

/-- Change what the manager knows of the devices of a position: its active unit speaks for both (notes/assumptions/22.md). -/
def Dev.updNote (d : Dev) (pos : Nat) (f : UpdDev → UpdDev) : Dev :=
  ({ d with upd := { d.upd with devs := d.upd.devs.map fun x => if x.pos = pos then f x else x } } : Dev).updPosShow

/-- Keep an update image, journalled (R710). -/
def Dev.updKeep (d : Dev) (u : UpdImage) : Dev := (d.setUpd u).jAppend [.upd u]

/-- Keep the image in a new state. -/
def Dev.updState (d : Dev) (st : Nat) : Dev := d.updKeep { d.upd.img with state := st }

/-- Send an UPDATE message to a position. -/
def Dev.updSend (d : Dev) (pos op reason f tp ver part : Nat) : Dev :=
  d.tongsSend pos (.update ⟨op, part, reason, d.upd.img.pkg, f, tp, ver⟩)

/-- Version of the package held. -/
def Dev.newVer (d : Dev) : Nat := (d.upd.img.manifest.map Manifest.ver).getD 0

/-- Report to the driver: to itself, or in an UPDATE message to the manager. -/
def Dev.updReport (d : Dev) (op reason ver part : Nat) (f : UpdDev → UpdDev) : Dev :=
  if d.updDriver then d.updNote d.position f else d.updSend d.managerPos op reason 0 0 ver part

/-! ### Results of UPD_CMD -/

/-- A refused command: its reason here and in UPD_STAT, BUSY clear. -/
def Dev.updRefuse (d : Dev) (reason : Nat) : Dev :=
  ((d.wrNat Reg.UPD_CMD_RESULT (2 + reason * 256)).setFld Reg.UPD_STAT 15 8 reason).setFlag Reg.UPD_CMD 31 false

/-- A command that is done. -/
def Dev.updDone (d : Dev) : Dev := (d.wrNat Reg.UPD_CMD_RESULT 1).setFlag Reg.UPD_CMD 31 false

/-- A write of UPD_CMD; while no state change is accepted it is refused (R602). -/
def Dev.updCmd (d : Dev) (w : Writer) (v : Nat) (f : Dev → Dev) : Dev :=
  d.gated Reg.pageUPD 0x070 w fun d =>
    let d1 := d.wrNat Reg.UPD_CMD v
    if d.sealing then d1.updRefuse 3 else f d1

/-! ### Chunks (R706 to R712) -/

/-- What a chunk 0 says in its header: package ID, chunk code, total length, manifest and table length; `none` for a bad one. -/
def packageHeader (l : List Byte) : Option (Nat × Nat × Nat × Nat × Nat) :=
  let num := fun (o n : Nat) => natLE ((l.drop o).take n)
  if num 0 4 = 0x4B50445A ∧ num 4 2 = 1 ∧ num 6 1 ≤ 4 ∧ num 12 4 ≤ 268435456 ∧ num 16 4 ≤ 65536 then
    some (num 8 4, num 6 1, num 12 4, num 16 4, num 20 4)
  else none

/-- Bytes of a chunk of code c. -/
def chunkSize (c : Nat) : Nat := 2 ^ (12 + c)

/-- Bytes of chunk i that are held. -/
def Dev.chunkBytes (d : Dev) (i : Nat) : List Byte := ((d.upd.chunks.find? fun x => x.1 == i).map Prod.snd).getD []

/-- Length of chunk i: the last one ends with the package. Chunk 0 is `first` while it arrives. -/
def Dev.chunkLen (d : Dev) (i : Nat) (first : List Byte) : Nat :=
  match packageHeader (if i = 0 then first else d.chunkBytes 0) with
  | none => 64
  | some (_, c, total, _, _) => min (chunkSize c) (total - i * chunkSize c)

/-- The bytes of the chunks before the parts. -/
def Dev.leadBytes (d : Dev) : List Byte := (List.range d.upd.img.lead).flatMap d.chunkBytes

/-- Entry of the chunk table for chunk i. -/
def Dev.tableEntry (d : Dev) (i : Nat) : List Byte :=
  match packageHeader (d.chunkBytes 0) with
  | none => []
  | some (_, _, _, mlen, _) => (d.leadBytes.drop (64 + mlen + 16 * (i - d.upd.img.lead))).take 16

/-- State of an owner slot (R691). -/
def Dev.ownerSlot (d : Dev) (k : Nat) : Nat := d.fld Reg.HAL_SLOTS (2 * k + 1) (2 * k)

/-- Why a manifest is refused (R708, R706); `none` when it is accepted. -/
def Dev.manifestBad (d : Dev) (man : Option Manifest) : Option Nat :=
  match man with
  | none => some 6
  | some m =>
    if !m.hashOk || m.pkg != d.upd.img.pkg then some 1
    else if !m.sigOk || d.ownerSlot m.ownerSlot != 1 then some 6
    else if m.svn < d.fld Reg.HAL_SLOTS 15 8 then some 7
    else if !manTargetsOk m then some 8
    else none

/-- Discard what is held (R712). -/
def Dev.updDiscard (d : Dev) : Dev :=
  let d1 : Dev := { d with upd := { d.upd with chunks := [], devs := [] } }
  d1.updKeep { UpdImage.reset with slots := d.upd.img.slots, decision := d.upd.img.decision }

/-- Pieces of n bytes of a chunk with their offsets. -/
def piecesOf (n : Nat) : (fuel : Nat) → (ofs : Nat) → List Byte → List (Nat × List Byte)
  | 0, _, _ => []
  | _, _, [] => []
  | fuel + 1, ofs, l => (ofs, l.take n) :: piecesOf n fuel (ofs + n) (l.drop n)

/-- Is chunk i for the standby unit of this position (R711)? -/
def Dev.forPartner (d : Dev) (i : Nat) : Bool :=
  decide (i < d.upd.img.lead) || match d.upd.img.manifest with
    | none => false
    | some m => m.parts.any fun p => decide (p.first ≤ i) && decide (i < p.first + p.count) &&
        p.targets.any fun t => t.1 == d.position && t.2.testBit (1 - b2n (d.flag Reg.HIE_ROLE 18))

/-- The active unit relays a chunk it has stored (R711). -/
def Dev.chunkRelay (d : Dev) (i : Nat) : Dev :=
  if d.fld Reg.TWN_STAT 2 0 = 4 ∧ d.fld Reg.TWN_STAT 11 8 ≠ 0 ∧ d.forPartner i = true then
    let l := d.chunkBytes i
    (piecesOf 232 l.length 0 l).foldl (fun a p => a.send (.clasp none (.updChunk i p.1 p.2))) d
  else d

/-- Store a chunk that has passed its checks: its bytes, its bit, and the manifest once it is complete. Answers the state,
result (1 STORED, 3 REFUSED) and reason. -/
def Dev.chunkPut (d : Dev) (u : UpdImage) (i : Nat) (l : List Byte) (man : Option Manifest) : Dev × Nat × Nat :=
  let u1 : UpdImage := { u with held := insertUp i u.held }
  let d1 : Dev := { d with upd := { d.upd with img := u1, chunks := (d.upd.chunks.filter fun x => x.1 != i) ++ [(i, l)] } }
  if u1.manifest.isNone && (List.range u1.lead).all u1.held.contains then
    match d1.manifestBad man with
    | some reason =>
      let d2 := if reason = 7 then d1.raise Reg.pageUPD 8 0 else d1
      (((d2.audit 0x09 3 1 ((man.map Manifest.ownerSlot).getD 0xF) 0 u.pkg).updDiscard).setFld Reg.UPD_STAT 15 8 reason, 3, reason)
    | none =>
      ((((d1.updKeep { u1 with manifest := man }).audit 0x09 3 0 ((man.map Manifest.ownerSlot).getD 0xF) 0 u.pkg)).chunkRelay i, 1, 0)
  else ((d1.updKeep u1).chunkRelay i, 1, 0)

/-- A chunk arrives (R709, R710, R712). -/
def Dev.chunkStore (d : Dev) (i : Nat) (l : List Byte) (man : Option Manifest) : Dev × Nat × Nat :=
  let no := fun (a : Dev) (reason : Nat) => (a.setFld Reg.UPD_STAT 15 8 reason, 3, reason)
  let u := d.upd.img
  if d.halState = 2 then no d 4
  else if d.sealing then no d 3
  else if i = 0 then
    match packageHeader l with
    | none => no (d.raise Reg.pageUPD 7 0) 1
    | some (pkg, c, total, mlen, tlen) =>
      if u.state = 0 then
        let u0 : UpdImage := { UpdImage.reset with
          slots := u.slots, decision := u.decision, pkg := pkg, code := c, total := ceilDiv total (chunkSize c)
          lead := ceilDiv (64 + mlen + tlen) (chunkSize c), state := 1 }
        ({ d with upd := { d.upd with chunks := [], devs := [] } } : Dev).chunkPut u0 0 l man
      else if u.pkg = pkg then (d, 2, 0)
      else no d 3
  else if u.state = 0 then no d 5
  else if u.total ≤ i then no d 2
  else if u.held.contains i then (d, 2, 0)
  else if u.state ≠ 1 then no d 3
  else if i < u.lead then d.chunkPut u i l man
  else if u.manifest.isNone then no d 5
  else if !(d.neededChunks u).contains i then no d 2
  else if (Config.sha384 l).take 16 ≠ d.tableEntry i then no (d.raise Reg.pageUPD 7 0) 1
  else d.chunkPut u i l man

/-- UPD_CHUNK_GO: the chunk at UPD_CHUNK_ADDR. -/
def Dev.chunkGo (d : Dev) (m : Mem) (man : Option Manifest) : Dev :=
  let i := d.fld Reg.UPD_CHUNK_IDX 15 0
  let dram := d.flag Reg.UPD_CHUNK_IDX 16
  let a := d.rd64 Reg.UPD_CHUNK_ADDR_LO Reg.UPD_CHUNK_ADDR_HI
  let r := d.chunkStore i (m.bytes dram a (d.chunkLen i (m.bytes dram a 64))) man
  (r.1.wrNat Reg.UPD_CHUNK_RESULT (r.2.1 + r.2.2 * 256)).setFlag Reg.UPD_CHUNK_GO 31 false

def execUpdChunkGo (man : Option Manifest) (cells : List Host.Cell) (w : Writer) (s : State) :=
  s.onDevHost cells fun m d => d.gated Reg.pageUPD 0x05C w fun d => (d.wrNat Reg.UPD_CHUNK_GO 1).chunkGo m man

/-- UPD_MISS_NEXT: the first chunk needed and not held at or after an index. -/
def Dev.missNext (d : Dev) (idx : Nat) : Dev :=
  match leastOf ((d.neededChunks d.upd.img).filter fun i => decide (idx ≤ i) && !d.upd.img.held.contains i) with
  | some i => d.wrNat Reg.UPD_MISS_NEXT i
  | none => d.wrNat Reg.UPD_MISS_NEXT 0x80000000

def execUpdMissNextWrite (idx : Fin 65536) (w : Writer) (s : State) :=
  s.onDev fun d => d.gated Reg.pageUPD 0x06C w fun d => d.missNext idx.val

/-- A piece of a chunk joins those held of it; once the chunk is complete, its bytes. -/
def Dev.gather (d : Dev) (object chunk ofs total : Nat) (data : List Byte) : Dev × Option (List Byte) :=
  let same := fun (x : BulkObj) => x.object == object && x.chunk == chunk
  let had := ((d.hie.bulk.find? same).map BulkObj.bytes).getD []
  let new := ((List.range data.length).zip data).map fun p => (ofs + p.1, p.2)
  let all := (had.filter fun x => !new.any fun y => y.1 == x.1) ++ new
  let rest := d.hie.bulk.filter fun x => !same x
  if total ≤ all.length then
    ({ d with hie := { d.hie with bulk := rest } }, some ((List.range total).map fun i => ((all.find? fun x => x.1 == i).map Prod.snd).getD 0))
  else ({ d with hie := { d.hie with bulk := rest ++ [⟨object, chunk, total, all⟩] } }, none)

/-- UPD_CMD ABORT. -/
def execUpdAbort (w : Writer) (s : State) :=
  s.onDev fun d => d.updCmd w 6 fun d => if d.upd.img.state = 1 then d.updDiscard.updDone else d.updRefuse 3

/-! ### Staging (R715, R716) -/

/-- Every chunk needed is held. -/
def Dev.chunksComplete (d : Dev) : Bool := (d.neededChunks d.upd.img).all d.upd.img.held.contains

/-- Staging starts: a mirror, and verification into bank B. -/
def Dev.stageStart (d : Dev) : Dev := ((d.mirrorRequest).updKeep { d.upd.img with state := 2, part := 0 })

/-- Chunks that a position needs. -/
def manChunks (m : Manifest) (lead pos : Nat) : List Nat :=
  List.range lead ++ (m.parts.filter fun p => p.targets.any fun t => t.1 == pos).flatMap fun p => (List.range p.count).map fun i => p.first + i

/-- The manager sends a position its chunks and the stage request. -/
def Dev.stageSend (d : Dev) (m : Manifest) (pos : Nat) : Dev :=
  let d1 := (manChunks m d.upd.img.lead pos).foldl (fun a i =>
    let l := a.chunkBytes i
    (piecesOf 340 l.length 0 l).foldl (fun b p => b.tongsSend pos (.bulk 3 i p.1 l.length p.2)) a) d
  d1.updSend pos 1 0 0 0 0 0

/-- UPD_CMD STAGE. -/
def Dev.updStage (d : Dev) : Dev :=
  if d.halState = 2 then d.updRefuse 4
  else if (d.upd.img.state ≠ 1 ∧ d.upd.img.state ≠ 9) ∨ d.flag Reg.DDR_STAT 9 = true then d.updRefuse 3
  else match d.upd.img.manifest with
    | none => d.updRefuse 9
    | some m =>
      if !d.chunksComplete then d.updRefuse 9
      else
        let d1 := d.stageStart.updDone
        if d.updDriver then
          let d2 : Dev := { d1 with upd := { d1.upd with devs := (manNamed m).map fun x => ⟨x.1, x.2, 0, 0, true, false, 0⟩ } }
          (d2.updOthers.foldl (fun a p => a.stageSend m p) d2).updPosShow
        else d1

def execUpdStage (w : Writer) (s : State) := s.onDev fun d => d.updCmd w 0 Dev.updStage

/-- The firmware slot with a role (R710). -/
def slotOf (slots role : Nat) : Nat := ((List.range 4).find? fun k => slots / 4 ^ k % 4 == role).getD 0

/-- Verification ends. -/
def Dev.verifyDone (d : Dev) (failed : Option Nat) : Dev :=
  if d.upd.img.state ≠ 2 then d
  else match failed with
    | some p =>
      (((d.updKeep { d.upd.img with state := 9, part := p }).audit 0x09 3 1 0xF 0 d.upd.img.pkg)).updReport 3 0 0 p fun x =>
        { x with state := 9 }
    | none =>
      let k := slotOf d.upd.img.slots 2
      let d1 : Dev := { d with upd := { d.upd with fwVer := d.upd.fwVer.set k d.newVer } }
      ((((d1.updState 3).raise Reg.pageUPD 0 0).audit 0x09 3 0 0xF 0 d.upd.img.pkg)).updReport 2 0 d.newVer 0 fun x =>
        { x with state := 3, ver := d.newVer }

def execUpdVerifyDone (failed : Option (Fin 16)) (s : State) := s.onDev fun d => d.verifyDone (failed.map Fin.val)

/-! ### Commit coordinate (R717 to R719) -/

/-- Every named device is READY and can be reached. -/
def Dev.updReady (d : Dev) : Bool :=
  d.upd.img.state == 3 && d.upd.devs.all fun x => !x.named || (x.state == 3 && (x.pos == d.position ||
    !((d.peer x.pos).lost || (d.peer x.pos).unreachable)))

/-- The driver names a commit coordinate: each named device is sent it, and it is armed here. -/
def Dev.updArm (d : Dev) (f : Nat) (op : Nat) : Dev :=
  let d1 : Dev := { d with upd := { d.upd with devs := d.upd.devs.map fun x => { x with acked := x.pos == d.position } } }
  let d2 := d1.updKeep { d.upd.img with state := 4, coord := some (f, d.updTp, false) }
  let d3 := d2.updOthers.foldl (fun a p => a.updSend p op 0 f d.updTp 0 0) d2
  d3.updNote d.position fun x => { x with state := 4 }

/-- UPD_CMD COMMIT. -/
def Dev.updCommit (d : Dev) (slot : Option Nat) : Dev :=
  if !d.updDriver then d.updRefuse 3
  else if d.halState = 2 then d.updRefuse 4
  else if slot.any fun k => !d.planeOn (d.cslotTp k) then d.updRefuse 14
  else if d.upd.img.state = 4 then d.updRefuse 3
  else if !d.updReady then d.updRefuse 10
  else
    let lead := d.live Reg.UPD_LEAD 15 0
    let f := match slot with
      | none => d.updFrame + lead
      | some k => d.cslotF k
    if f < d.updFrame + lead then d.updRefuse 11
    else
      let d1 : Dev := { d with upd := { d.upd with tries := 0 } }
      ((d1.updArm f 4).audit 0x09 0 0 0xF 0 d.upd.img.pkg).updDone

def execUpdCommit (slot : Option (Fin 16)) (w : Writer) (s : State) :=
  s.onDev fun d => d.updCmd w (match slot with
    | none => 1
    | some k => 1 + 16 + k.val * 256) fun d => d.updCommit (slot.map Fin.val)

/-- Back from ARMED to STAGED: the commit is withdrawn everywhere. -/
def Dev.updWithdraw (d : Dev) : Dev :=
  let d1 := d.updKeep { d.upd.img with state := 3, coord := none }
  let d2 := d1.updOthers.foldl (fun a p => a.updSend p 6 0 0 0 0 0) d1
  let d3 : Dev := { d2 with upd := { d2.upd with devs := d2.upd.devs.map fun x => { x with state := if x.state = 4 then 3 else x.state, acked := false } } }
  d3.updPosShow

/-- UPD_CMD CANCEL. -/
def Dev.updCancel (d : Dev) : Dev :=
  match d.upd.img.coord with
  | some (f, _, false) =>
    if !d.updDriver || d.upd.img.state != 4 then d.updRefuse 3
    else if f < d.updFrame + 2 then d.updRefuse 11
    else d.updWithdraw.updDone
  | _ => d.updRefuse 3

def execUpdCancel (w : Writer) (s : State) := s.onDev fun d => d.updCmd w 2 Dev.updCancel

/-- 2 frames before the coordinate: a missing acknowledgement moves it, up to 8 times. -/
def Dev.ackDeadline (d : Dev) : Dev :=
  match d.upd.img.coord with
  | some (f, _, false) =>
    if !d.updDriver || d.upd.img.state != 4 || (d.upd.devs.all fun x => !x.named || x.acked) then d
    else if d.upd.tries < 8 then
      ({ d with upd := { d.upd with tries := d.upd.tries + 1 } } : Dev).updArm (f + d.live Reg.UPD_LEAD 15 0) 6
    else (d.updWithdraw).updRefuse 12
  | _ => d

def execUpdAckDeadline (s : State) := s.onDev Dev.ackDeadline

/-! ### Switching, probation, rollback (R720 to R723) -/

/-- The new images start: microcode and lane tables change bank, Hallmark and control cores restart. -/
def Dev.updSwitch (d : Dev) (kind : Nat) : Dev :=
  let d1 : Dev := { d with upd := { d.upd with restart := kind } }
  ((d1.updState 5).halRestart).closeSessions

/-- Is this device itself named? -/
def Dev.updNamed (d : Dev) : Bool := (d.upd.img.manifest.map fun m => m.parts.any d.isTarget).getD false

/-- The commit coordinate. A manager that is not named itself only watches the probation. -/
def Dev.commitCoordinate (d : Dev) : Dev :=
  match d.upd.img.coord with
  | some (_, _, false) =>
    if d.upd.img.state ≠ 4 then d
    else
      let u : UpdImage := { d.upd.img with probStart := some d.nowNs }
      let d1 := ((d.setUpd u).raise Reg.pageUPD 1 0).setFld Reg.UPD_PROB_REMAIN 15 0 (d.live Reg.UPD_CFG 31 16)
      if d.updNamed then d1.updSwitch 1 else d1.updState 6
  | _ => d

def execUpdCommitCoordinate (s : State) := s.onDev Dev.commitCoordinate

/-- The driver names a rollback coordinate for every named device (R722). -/
def Dev.orderRollback (d : Dev) : Dev :=
  match d.upd.img.coord with
  | some (_, _, true) => d
  | _ =>
    let f := d.updFrame + d.live Reg.UPD_LEAD 31 16
    let others := d.updOthers
    let st := d.upd.img.state
    let d1 := d.updKeep { d.upd.img with
      state := if st = 4 ∨ st = 5 ∨ st = 6 ∨ st = 8 then 7 else st
      coord := some (f, d.updTp, true)
      decision := some (false, (d.upd.devs.filter fun x => x.named && x.pos != d.position).map fun x => (x.pos, x.unit)) }
    let d2 := others.foldl (fun a p => a.updSend p 8 0 f d.updTp 0 0) d1
    d2.updNote d.position fun x => { x with state := d2.upd.img.state }

/-- This device fails its probation (R721): the manager is told, or orders the rollback itself; in ERROR the device also rolls
back by itself (R723). -/
def Dev.probFail (d : Dev) (reason : Nat) : Dev :=
  if d.upd.img.state = 6 ∨ (d.upd.img.state = 5 ∧ d.upd.restart = 1) then
    let d1 := (d.raise Reg.pageUPD 2 0).audit 0x09 3 1 0xF 0 d.upd.img.pkg
    let d2 := if d.updDriver then (d1.updNote d.position fun x => { x with reason := reason }).orderRollback
      else d1.updSend d.managerPos 7 reason 0 0 0 0
    if d.halState = 2 ∧ d.updDriver = false then
      { d2 with upd := { d2.upd with localF := some (d.updFrame + d.live Reg.UPD_LEAD 31 16) } }
    else d2
  else d

/-- UPD_CMD FAIL. -/
def execUpdFail (w : Writer) (s : State) :=
  s.onDev fun d => d.updCmd w 3 fun d => if d.upd.img.state = 6 then (d.probFail 0).updDone else d.updRefuse 3

/-- The Hallmark and the control cores run again. -/
def Dev.restartDone (d : Dev) : Dev :=
  if d.upd.restart = 0 then d
  else if d.upd.restart = 1 then
    let d1 : Dev := { d with upd := { d.upd with restart := 0, bankB := true } }
    -- a rollback that was ordered meanwhile stays armed
    let st := if d.upd.img.state = 5 then 6 else d.upd.img.state
    ((d1.updState st).wrNat Reg.UPD_RUN_VER d.newVer).updReport 10 0 d.newVer 0 fun x => { x with state := st, ver := d.newVer }
  else
    let old := d.upd.fwVer.getD (slotOf d.upd.img.slots 0) 0
    let d1 : Dev := { d with upd := { d.upd with restart := 0, bankB := false } }
    let d2 := d1.updKeep { d.upd.img with state := 3, coord := none, probStart := none }
    (((d2.wrNat Reg.UPD_RUN_VER old).setFld Reg.UPD_PROB_REMAIN 15 0 0).raise Reg.pageUPD 3 0).updReport 10 0 old 0 fun x =>
      { x with state := 3, ver := old }

/-- 2 s after the commit coordinate: this device's own firmware has not reported, or on the driver a named device has not. -/
def Dev.versionDeadline (d : Dev) : Dev :=
  let d1 := if d.upd.img.state = 5 ∧ d.upd.restart = 1 then d.probFail 0 else d
  if d1.updDriver ∧ (d1.upd.img.state = 5 ∨ d1.upd.img.state = 6) ∧
      (d1.upd.devs.any fun x => x.named && x.ver != d1.newVer) = true then d1.orderRollback
  else d1

def execUpdVersionDeadline (s : State) := s.onDev Dev.versionDeadline

/-- The rollback coordinate: a device that runs bank B, or is about to, switches back; every device returns to STAGED. -/
def Dev.rollbackCoordinate (d : Dev) : Dev :=
  if d.upd.img.state ≠ 7 then d
  else if d.upd.bankB || d.upd.restart = 1 then d.updSwitch 2
  else
    let d1 := (d.updKeep { d.upd.img with state := 3, coord := none, probStart := none }).raise Reg.pageUPD 3 0
    (d1.setFld Reg.UPD_PROB_REMAIN 15 0 0).updNote d.position fun x => { x with state := 3 }

def execRollbackCoordinate (s : State) := s.onDev Dev.rollbackCoordinate

/-- A device rolls back by itself (R723, R727). -/
def Dev.localRollback (d : Dev) : Dev :=
  match d.upd.localF with
  | none => d
  | some f =>
    if d.updFrame < f then d
    else
      let d1 : Dev := { d with upd := { d.upd with localF := none } }
      if d.upd.bankB || d.upd.restart = 1 then (d1.raise Reg.pageUPD 6 0).updSwitch 3 else d1

def execLocalRollback (s : State) := s.onDev Dev.localRollback

/-- A new role epoch is adopted (R727). -/
def Dev.updNewEpoch (d : Dev) : Dev :=
  if d.upd.img.state = 4 then d.updKeep { d.upd.img with state := 3, coord := none }
  else if d.upd.img.state = 5 ∨ d.upd.img.state = 6 then
    { d with upd := { d.upd with localF := some (d.updFrame + d.live Reg.UPD_LEAD 31 16) } }
  else d

/-! ### Finalise (R724, R725) -/

/-- Roles of the firmware slots after finalisation: STAGE runs, RUNNING is PREVIOUS, PREVIOUS is STAGE. -/
def finalSlots (slots : Nat) : Nat :=
  (List.range 4).foldl (fun a k =>
    let r := slots / 4 ^ k % 4
    a + (if r = 0 then 1 else if r = 1 then 2 else if r = 2 then 0 else 3) * 4 ^ k) 0

/-- This device keeps the new firmware. -/
def Dev.finalise (d : Dev) : Dev :=
  if d.upd.img.state ≠ 6 ∧ d.upd.img.state ≠ 8 then d
  else
    let m := d.upd.img.manifest
    let svn := max (d.fld Reg.HAL_SLOTS 15 8) ((m.map Manifest.svn).getD 0)
    let rec_ := slotOf d.upd.img.slots 3
    let fw := if (m.map Manifest.recovery).getD false then d.upd.fwVer.set rec_ d.newVer else d.upd.fwVer
    let slots := if d.updNamed then finalSlots d.upd.img.slots else d.upd.img.slots
    let d1 : Dev := { d with upd := { d.upd with fwVer := fw, bankB := false, chunks := [], localF := none } }
    let d2 := d1.updKeep { UpdImage.reset with slots := slots, decision := d.upd.img.decision }
    (((d2.setFld Reg.HAL_SLOTS 15 8 (min svn 64)).setFld Reg.UPD_PROB_REMAIN 15 0 0).raise Reg.pageUPD 4 0).audit 0x09 3 0 0xF 0 d.upd.img.pkg

/-- The driver finalises every named device. -/
def Dev.finaliseAll (d : Dev) : Dev :=
  let others := d.updOthers
  let d1 := others.foldl (fun a p => a.updSend p 9 0 0 0 0 0) d
  let named := (d.upd.devs.filter fun x => x.named && x.pos != d.position).map fun x => (x.pos, x.unit)
  let d2 := d1.updKeep { d1.upd.img with decision := if named = [] then none else some (true, named) }
  (d2.finalise).updNote d.position fun x => { x with state := 0 }

/-- The probation ends without a failure. -/
def Dev.probationEnd (d : Dev) : Dev :=
  if d.upd.img.state ≠ 6 then d
  else
    let d1 := d.setFld Reg.UPD_PROB_REMAIN 15 0 0
    if d.updDriver ∧ d.liveFlag Reg.UPD_CFG 4 = true then d1.finaliseAll else d1

def execProbationEnd (s : State) := s.onDev Dev.probationEnd

/-- No decision came. -/
def execUndecided (s : State) :=
  s.onDev fun d => if d.upd.img.state = 6 ∧ d.fld Reg.UPD_PROB_REMAIN 15 0 = 0 then (d.updState 8).raise Reg.pageUPD 5 0 else d

/-- UPD_CMD FINALISE: on the driver once the probation has ended, and locally in UNDECIDED. -/
def Dev.updFinalise (d : Dev) : Dev :=
  if d.upd.img.state = 8 ∧ d.updDriver = false then d.finalise.updDone
  else if d.updDriver ∧ (d.upd.img.state = 8 ∨ (d.upd.img.state = 6 ∧ d.fld Reg.UPD_PROB_REMAIN 15 0 = 0)) then d.finaliseAll.updDone
  else d.updRefuse 3

def execUpdFinalise (w : Writer) (s : State) := s.onDev fun d => d.updCmd w 4 Dev.updFinalise

/-- UPD_CMD ROLLBACK: locally, at once, in UNDECIDED. -/
def Dev.updRollback (d : Dev) : Dev :=
  if d.upd.img.state ≠ 8 then d.updRefuse 3
  else if d.upd.bankB then (d.updSwitch 2).updDone
  else ((d.updState 3).raise Reg.pageUPD 3 0).updDone

def execUpdRollback (w : Writer) (s : State) := s.onDev fun d => d.updCmd w 5 Dev.updRollback

/-! ### UPDATE messages (R716 to R725): what a device does with one -/

/-- Does a message concern the package held? -/
def Dev.samePkg (d : Dev) (u : UpdateMsg) : Bool := u.pkg == d.upd.img.pkg

/-- STAGE at a worker. -/
def Dev.stageMsg (d : Dev) (u : UpdateMsg) : Dev :=
  let no := fun (reason : Nat) => d.updSend d.managerPos 3 reason 0 0 0 0
  if d.halState = 2 then no 4
  else if !d.samePkg u then no 5
  else if d.upd.img.state = 3 then d.updSend d.managerPos 2 0 0 0 d.newVer 0
  else if (d.upd.img.state ≠ 1 ∧ d.upd.img.state ≠ 9) ∨ d.flag Reg.DDR_STAT 9 = true then no 3
  else if d.upd.img.manifest.isNone || !d.chunksComplete then no 9
  else d.stageStart

/-- COMMIT at a worker: it arms and acknowledges. -/
def Dev.commitMsg (d : Dev) (u : UpdateMsg) : Dev :=
  if d.samePkg u && (d.upd.img.state == 3 || d.upd.img.state == 4) then
    (d.updKeep { d.upd.img with state := 4, coord := some (u.f, u.tp, false) }).updSend d.managerPos 5 0 0 0 0 0
  else d

/-- CANCEL at a worker: a new coordinate, or back to STAGED. -/
def Dev.cancelMsg (d : Dev) (u : UpdateMsg) : Dev :=
  if !d.samePkg u || d.upd.img.state != 4 then d
  else if u.f = 0 then d.updKeep { d.upd.img with state := 3, coord := none }
  else d.commitMsg u

/-- ROLLBACK at a worker. -/
def Dev.rollbackMsg (d : Dev) (u : UpdateMsg) : Dev :=
  let st := d.upd.img.state
  if d.samePkg u && (st == 4 || st == 5 || st == 6 || st == 8) then
    d.updKeep { d.upd.img with state := 7, coord := some (u.f, u.tp, true) }
  else d

/-- READY, STAGE_FAILED, ARMED, FAIL and VERSION at the manager. A device that runs the new version while no commit is armed or
in probation here, because a CANCEL did not reach it, is rolled back (R719). -/
def Dev.reportMsg (d : Dev) (pos : Nat) (u : UpdateMsg) : Dev :=
  if !d.updDriver || !d.samePkg u then d
  else match u.op with
    | 2 => d.updNote pos fun x => { x with state := 3, ver := u.ver }
    | 3 => d.updNote pos fun x => { x with state := 9, reason := u.reason }
    | 5 => d.updNote pos fun x => { x with state := 4, acked := true }
    | 7 => (d.updNote pos fun x => { x with reason := u.reason }).orderRollback
    | 10 =>
      let d1 := d.updNote pos fun x => { x with state := if u.ver = d.newVer then 6 else 3, ver := u.ver }
      if u.ver = d.newVer ∧ d.upd.img.state = 3 then
        let f := d1.updFrame + d1.live Reg.UPD_LEAD 31 16
        d1.updSend pos 8 0 f d1.updTp 0 0
      else d1
    | _ => d

/-- DECISION_REQ at the manager: it answers with the decision it keeps. -/
def Dev.decisionReq (d : Dev) (pos : Nat) : Dev :=
  match d.upd.img.decision with
  | some (true, _) => d.updSend pos 9 0 0 0 0 0
  | some (false, _) => d.updSend pos 8 0 (d.updFrame + d.live Reg.UPD_LEAD 31 16) d.updTp 0 0
  | none => d

/-- What a HEALTH of a position tells the manager about the update: a decision carried out needs no keeping any more, and a
device that has finalised against a rollback is DIVERGED (R725). -/
def Dev.updHealth (d : Dev) (pos st ver : Nat) : Dev :=
  match d.upd.img.decision with
  | none => d
  | some (fin, left) =>
    if !left.any fun x => x.1 == pos then d
    else if st = 0 ∧ fin = false ∧ ver = d.newVer then d.updNote pos fun x => { x with state := 0, reason := 13 }
    else if (fin = true ∧ st = 0) ∨ (fin = false ∧ st = 3) then
      let rest := left.filter fun x => x.1 != pos
      (d.updKeep { d.upd.img with decision := if rest = [] then none else some (fin, rest) }).updNote pos fun x => { x with state := st }
    else d

end Sys2Proof.Machine
end

