-- ==== Sys2Proof/Machine/Twin.lean ====
section
/-!
DEFINITION. Twin pairs: states of a unit, heartbeats, epochs and the copy, takeover, handover and revert, comparison of
signatures, self-tests, health reports, the watchdog (spec/18_twin_redundancy.md, R622 to R659); the HEALTH message
(spec/11_hierarchy.md, R429, R437).
-/

namespace Sys2Proof.Machine

open Sys2Proof

/-! ### HEALTH and retransmission (R423, R429, R441) -/

/-- The HEALTH body as it stands. -/
def Dev.healthNow (d : Dev) : Health :=
  ⟨d.fld Reg.HIE_ROLE 1 0, d.roleConfirmed, d.fld Reg.TWN_STAT 2 0 != 0, d.fld Reg.HIE_ROLE 18 18,
    d.fld Reg.TWN_STAT 2 0 == 0 || d.fld Reg.TWN_STAT 2 0 == 4, d.fld Reg.REF_STATE 2 0, d.fld Reg.REF_STATE 6 4, d.flag Reg.REF_STATE 7,
    d.powerState, d.fld Reg.PWR_OP_STAT 1 0, d.halState, d.upd.img.state, d.epoch, d.srcCount, d.dstEnabledCount,
    d.fld Reg.HRT_IN_RATE 31 0, d.fld Reg.HRT_OUT_RATE 31 0, d.fld Reg.FAB_STAT 15 8, d.upd.img.state == 8 && !d.updDriver,
    d.flag (Reg.PG_STAT Reg.pagePTP) 0, d.fld Reg.SYS_EVT_WR 31 0, d.upd.img.pkg, d.fld Reg.UPD_RUN_VER 31 0, d.nowNs⟩

/-- A worker sends HEALTH to its manager, and asks for the decision while UNDECIDED (R437, R725). -/
def Dev.healthSend (d : Dev) : Dev :=
  if d.isManager then d
  else
    let d1 := d.tongsSend d.managerPos (.health d.healthNow)
    if d.upd.img.state = 8 then d1.updSend d.managerPos 11 0 0 0 0 0 else d1

/-- Send again what a peer has not acknowledged, with RETX set. -/
def Dev.retransmit (d : Dev) (p : Nat) : Dev :=
  (d.peer p).unacked.foldl (fun a x =>
    if x.sent && a.maySend x.msg.body then (a.send (.tongs (a.laneFor p) { x.msg with retx := true })).bump Reg.HIE_CNT_RETX 31 0 else a) d

/-- Other positions of the role table (R409). -/
def Dev.otherPositions (d : Dev) : List Nat :=
  (List.range 128).filter fun p => p != d.position && d.roleOf p != 0xF

/-- CONFIRMED in HIE_ROLE, signalled by R445. -/
def Dev.setConfirmed (d : Dev) : Dev :=
  if d.roleConfirmed then d else (d.setFlag Reg.HIE_ROLE 2 true).statusIrq Reg.pageHIE 16

/-- A device of fabric role NONE that manages no worker confirms its role at once (R415). -/
def Dev.confirmAlone (d : Dev) : Dev :=
  if d.standalone ∧ d.otherPositions = [] then d.setConfirmed else d

/-- The manager builds its global table from the workers' reports (R441). -/
def Dev.buildStart (d : Dev) : Dev :=
  let d1 : Dev := { d with hie := { d.hie with globals := [], reported := [] } }
  let d2 := d1.setFlag Reg.HIE_ROLE 3 (d.otherPositions != [])
  d.otherPositions.foldl (fun a p => a.tongsSend p (.routeQuery 0 0)) d2

/-! ### Tags of Clasp cells (R626, R692) -/

/-- A cell with a good tag has its effect; one with a bad tag is discarded and counted. -/
def Dev.claspGated (d : Dev) (tag : TagCheck) (f : Dev → Dev) : Dev :=
  match tag with
  | .newest => f d
  | .older => f (d.bump Reg.HAL_OLD_KEY 15 0)
  | .bad => ((d.bump Reg.TWN_AUTH_FAIL 31 0).raise Reg.pageTWN 10 0).auditFail 0x1000

/-! ### States (R629 to R634) -/

/-- State of this unit. -/
def Dev.twnState (d : Dev) : Nat := d.fld Reg.TWN_STAT 2 0

/-- Move to a state: TWIN_ACTIVE follows (R624), the preferred unit drives TWIN_ARB low but in FAILED (R632), the change is
signalled (R659). -/
def Dev.setTwn (d : Dev) (st : Nat) : Dev :=
  let was := d.twnState
  let d1 := d.setFld Reg.TWN_STAT 2 0 st
  let high := fun (x : Nat) => x == 0 || x == 4
  let d2 := if high was = high st then d1 else d1.send (.twinActive (high st))
  let d3 := if d.twin.pref && (was == 5) != (st == 5) then d2.send (.twinArb (st != 5)) else d2
  if was = st then d3.twnShow else (d3.statusIrq Reg.pageTWN 16).twnShow

/-- The unit declares failure (R634). -/
def Dev.unitFailed (d : Dev) : Dev :=
  if d.twnState = 5 then d
  else (({ d with twin := { d.twin with takeover := none, handover := none, cancelling := false } } : Dev).setFlag Reg.TWN_STAT 16 false).setTwn 5

/-- The unit is active from now on: its epochs continue the count of the pair (R635), its state is a full one (R630). -/
def Dev.becomeActive (d : Dev) : Dev :=
  let tx := if 0 < diff32 (d.rd Reg.TWN_EPOCH_RX).toNat (d.rd Reg.TWN_EPOCH_TX).toNat then (d.rd Reg.TWN_EPOCH_RX).toNat
    else (d.rd Reg.TWN_EPOCH_TX).toNat
  let d1 : Dev := { d with twin := { d.twin with takeover := none, rx := [], unacked := [], copying := false, copyWait := false } }
  ((d1.wrNat Reg.TWN_EPOCH_TX tx).setFlag Reg.TWN_STAT 5 true).setTwn 4

/-- The unit becomes a standby that receives a copy. -/
def Dev.becomeCopying (d : Dev) : Dev :=
  let d1 : Dev := { d with twin := { d.twin with takeover := none, rx := [], unacked := [], copying := false, copyWait := false } }
  d1.setTwn 2

/-- SPLIT in TWN_STAT and its sticky. -/
def Dev.setSplit (d : Dev) : Dev := (d.setFlag Reg.TWN_STAT 4 true).raise Reg.pageTWN 0 0

/-- A takeover is decided (R647 to R649): a partly received epoch is dropped, the Bellows goes on with the candidate of the
active unit where it is qualified here, else selects (R648). -/
def Dev.takeoverStart (d : Dev) (cause : Nat) : Dev :=
  if d.twin.takeover.isSome then d
  else
    let d1 : Dev := { d with twin := { d.twin with takeover := some cause, rx := [], handover := none, cancelling := false } }
    let d2 := (d1.setFlag Reg.TWN_STAT 16 false)
    match d2.activeCand with
    | some c => if d2.qualified c then d2 else d2.select false
    | none => d2.select false

/-- Rows of R631 for a loss of the heartbeat, with the cause a takeover records. -/
def Dev.heartbeatLoss (d : Dev) (cause : Nat) : Dev :=
  let low := !d.flag Reg.TWN_STAT 15
  let d0 : Dev := { d with twin := { d.twin with hb := none, lost := true, handover := none, cancelling := false } }
  let d1 := (d0.setFlag Reg.TWN_STAT 16 false).raise Reg.pageTWN 5 0
  match d1.twnState with
  | 2 =>
    if d1.twin.pref then (if d1.flag Reg.TWN_STAT 4 then d1 else d1.takeoverStart cause)
    else if d1.twin.arbHigh then d1.takeoverStart 2 else d1
  | 3 =>
    if d1.twin.pref then d1.takeoverStart cause
    else if d1.twin.arbHigh then d1.takeoverStart 2
    else if low then d1.setSplit.becomeCopying
    else d1
  | 4 =>
    if d1.twin.pref then d1.setSplit
    else if low then d1.setSplit.becomeCopying
    else d1
  | _ => d1

/-- The partner's failure counts in a probation (R721). -/
def Dev.partnerFailed (d : Dev) : Dev := d.probFail 0

/-- HEARTBEAT_LOST. -/
def Dev.hbLost (d : Dev) (arb : Bool) : Dev :=
  if d.twnState = 0 ∨ d.twnState = 1 ∨ d.twin.lost then d
  else ((d.bumpBy Reg.TWN_HB_MISS 31 0 8).setFlag Reg.TWN_STAT 15 arb).heartbeatLoss 1

def execHeartbeatLost (arb : Bool) (s : State) := s.onDev fun d => d.hbLost arb

/-- Both sides of STARTING with no heartbeat for 2 s. -/
def Dev.startAlone (d : Dev) : Dev :=
  if d.twin.pref then d.setSplit.becomeActive
  else if d.twin.arbHigh then d.becomeActive.raise Reg.pageTWN 2 0
  else if !d.flag Reg.TWN_STAT 15 then d.setSplit.becomeCopying
  else d

def execStartingTimeout (arb : Bool) (s : State) :=
  s.onDev fun d =>
    if d.twnState = 1 ∧ d.twin.hb.isNone then
      (({ d with twin := { d.twin with lost := true } } : Dev).setFlag Reg.TWN_STAT 15 arb).startAlone
    else d

/-- TWIN_ARB high for 2 ms: the preferred unit is absent; a partner that has lost its heartbeat takes over (R631 to R633). -/
def Dev.arbIsHigh (d : Dev) : Dev :=
  if d.twin.pref then d
  else
    let d1 := ({ d with twin := { d.twin with arbHigh := true } } : Dev).setFlag Reg.TWN_STAT 15 true
    if !d1.twin.lost then d1
    else match d1.twnState with
      | 1 => d1.startAlone
      | 2 => d1.takeoverStart 2
      | 3 => d1.takeoverStart 2
      | _ => d1

def execTwinArbHigh (s : State) := s.onDev Dev.arbIsHigh

/-- TAKEOVER_INSTANT (R647, R648, R650). -/
def Dev.takeoverInstant (d : Dev) : Dev :=
  match d.twin.takeover with
  | none => d
  | some cause =>
    let valid := d.flag Reg.TWN_STAT 5
    let tp := d.live Reg.TWN_CFG 2 0
    let f := (d.coordNow tp).f % 2 ^ 24
    let d1 := (d.becomeActive).setFlag Reg.TWN_STAT 4 false
    let d2 := (d1.wrNat Reg.TWN_LAST_TAKEOVER (cause + f * 256)).bump Reg.TWN_COUNTS 15 0
    let d3 := d2.raiseLog Reg.pageTWN 1 (cause + f * 256)
    let d4 := if valid then d3 else d3.raise Reg.pageTWN 2 0
    let d5 := d4.hie.peers.foldl (fun a p => a.retransmit p.1) d4.healthSend
    if d5.standalone then d5.raise Reg.pageTWN 12 0
    else if d5.isManager then d5.buildStart
    else d5

def execTakeoverInstant (s : State) := s.onDev Dev.takeoverInstant

/-! ### Epochs (R635 to R638) -/

/-- A standby's view of one record: a decision for a switch line that has passed is late (R638). -/
def Dev.noteLate (d : Dev) (b : JBody) : Dev :=
  match b with
  | .take k t =>
    if t.won && d.dstEnabled k && decide (d.switchInstant k (d.readFrame k t) ≤ d.time) then
      ({ d with twin := { d.twin with excluded := (d.twin.excluded ++ [(k, (d.coordNow (d.dstPlane k)).f % 65536)]) } } : Dev).bump
        Reg.TWN_LAG 31 0
    else d
  | _ => d

/-- The records of a complete epoch, in the order of their cells; `none` while a cell is missing. -/
def wholeEpoch (rx : List (Nat × Nat × Bool × List JRecord)) (n : Nat) : Option (List JRecord) :=
  let mine := rx.filter fun c => c.1 == n
  match mine.find? fun c => c.2.2.1 with
  | none => none
  | some c =>
    let idx := List.range (c.2.1 + 1)
    if idx.all fun i => mine.any fun x => x.2.1 == i then
      some (idx.flatMap fun i => ((mine.find? fun x => x.2.1 == i).map fun x => x.2.2.2).getD [])
    else none

/-- A standby journals the records of an epoch in its own Temper, then applies them (R637). -/
def Dev.applyEpoch (d : Dev) (n : Nat) (recs : List JRecord) : Dev :=
  let own : List JRecord := recs.mapIdx fun i r => { r with seq := d.journal.nextSeq + i, segment := d.journal.segment }
  let d1 := recs.foldl (fun a r => a.noteLate r.body) (d.jPut own)
  let d2 := (d1.applyBodies true (recs.map JRecord.body)).surfRefresh.fsRefresh.hrtRefresh
  let d3 : Dev := { d2 with twin := { d2.twin with rx := d2.twin.rx.filter fun c => c.1 != n } }
  d3.wrNat Reg.TWN_EPOCH_RX n

/-- Apply the epochs that are complete, in order. -/
def Dev.applyEpochs : (fuel : Nat) → Dev → Dev
  | 0, d => d
  | fuel + 1, d =>
    let n := ((d.rd Reg.TWN_EPOCH_RX).toNat + 1) % 2 ^ 32
    match wholeEpoch d.twin.rx n with
    | some recs => (d.applyEpoch n recs).applyEpochs fuel
    | none => d

/-- EPOCH_CELL_RX: kept until it can be applied; acknowledged. A unit that receives a copy only keeps them; an old active's
last epochs still reach a new active (R652). -/
def Dev.epochCell (d : Dev) (n index : Nat) (last : Bool) (recs : List JRecord) : Dev :=
  let st := d.twnState
  if d.twin.takeover.isSome || !(st == 2 || st == 3 || st == 4) then d
  else if diff32 n (d.rd Reg.TWN_EPOCH_RX).toNat ≤ 0 ∧ st ≠ 2 then d.send (.clasp none (.ack (d.rd Reg.TWN_EPOCH_RX).toNat 0))
  else
    let rx := (d.twin.rx.filter fun c => !(c.1 == n && c.2.1 == index)) ++ [(n % 2 ^ 32, index, last, recs)]
    let d1 : Dev := { d with twin := { d.twin with rx := rx } }
    if st = 2 then d1
    else
      let d2 := d1.applyEpochs rx.length
      if d2.rd Reg.TWN_EPOCH_RX = d.rd Reg.TWN_EPOCH_RX then d2 else d2.send (.clasp none (.ack (d2.rd Reg.TWN_EPOCH_RX).toNat 0))

def execEpochCellRx (n index : Nat) (last : Bool) (recs : List JRecord) (tag : TagCheck) (s : State) :=
  s.onDev fun d => d.claspGated tag fun d => d.epochCell n index last recs

/-- Cut a list into pieces of n. -/
def chunksOf {α : Type} (n : Nat) : (fuel : Nat) → List α → List (List α)
  | 0, _ => []
  | _, [] => []
  | fuel + 1, l => l.take n :: chunksOf n fuel (l.drop n)

/-- The epoch that is open closes and leaves on Clasp, three records a cell (R635, R636). -/
def Dev.epochClose (d : Dev) : Dev :=
  if d.journal.epoch = [] then d
  else
    let n := ((d.rd Reg.TWN_EPOCH_TX).toNat + 1) % 2 ^ 32
    let recs := d.journal.epoch
    let cells := chunksOf 3 recs.length recs
    let d1 : Dev := { d with
      journal := { d.journal with epoch := [] }
      twin := { d.twin with unacked := d.twin.unacked ++ [(n, recs)] } }
    (List.range cells.length).foldl (fun a i =>
      a.send (.clasp none (.epoch n i (i + 1 == cells.length) (cells.getD i [])))) (d1.wrNat Reg.TWN_EPOCH_TX n)

/-- An epoch closes 10 µs after its first record. -/
def Dev.epochTick (d : Dev) : Dev :=
  if d.journal.epoch ≠ [] ∧ d.journal.epochAt + 10000 ≤ d.nowNs then d.epochClose else d

/-- A copy starts: a checkpoint is forced (R639); CHECKPOINT_COMPLETE sends its body. -/
def Dev.copyStart (d : Dev) : Dev :=
  if d.twnState ≠ 4 then d
  else
    let d1 : Dev := { d with twin := { d.twin with copyWait := true, copying := false, unacked := [] } }
    d1.ckptStart

def execEpochAckTimeout (s : State) := s.onDev fun d => if d.twin.unacked = [] then d else d.copyStart

/-- CLASP_ACK_RX. -/
def Dev.claspAck (d : Dev) (epoch : Nat) : Dev :=
  { d with twin := { d.twin with unacked := d.twin.unacked.filter fun x => decide (0 < diff32 x.1 epoch) } }

def execClaspAckRx (epoch _ofs : Nat) (tag : TagCheck) (s : State) :=
  s.onDev fun d => d.claspGated tag fun d => d.claspAck epoch

/-- COPY_COMPLETE: the image replaces the state, the epochs after it are applied, and the standby is in step. Its own Temper
takes the new state in a checkpoint. -/
def Dev.copyComplete (d : Dev) (image : Persist) (first : Nat) : Dev :=
  if !d.isStandby || d.twin.takeover.isSome || d.fld Reg.TWN_STAT 11 8 == 0 then d
  else match wholeEpoch d.twin.rx first with
    | none => d
    | some _ =>
      let d1 := (d.load image).wrNat Reg.TWN_EPOCH_RX ((first + 2 ^ 32 - 1) % 2 ^ 32)
      let d2 := d1.applyEpochs d1.twin.rx.length
      let d3 : Dev := { d2 with twin := { d2.twin with rx := d2.twin.rx.filter fun c => decide (0 < diff32 c.1 (d2.rd Reg.TWN_EPOCH_RX).toNat) } }
      let d4 := ((d3.setFlag Reg.TWN_STAT 5 true).setTwn 3).raise Reg.pageTWN 8 0
      (d4.ckptStart).send (.clasp none (.ack (d4.rd Reg.TWN_EPOCH_RX).toNat 0))

def execCopyComplete (image : Persist) (first : Nat) (s : State) := s.onDev fun d => d.copyComplete image first

/-! ### Heartbeats (R626, R627, R631) -/

/-- Health flags, byte 1 of the health report (R645). -/
def Dev.twnFlags (d : Dev) : Nat :=
  b2n (d.flag Reg.TWN_STAT 6) + b2n d.claspUp * 2 + b2n (d.twnState == 3) * 4 + b2n d.twin.sigFail * 8 + b2n (!d.twin.failing.isEmpty) * 16 +
    b2n (decide (d.twin.timeOfs.natAbs ≤ 4)) * 32 + b2n (d.halState != 2) * 64 + b2n (d.flag Reg.TWN_STAT 5) * 128

/-- A heartbeat on every Clasp lane in service, and the CANCEL cell while it repeats (R655). A unit whose Hallmark makes no tags
sends none (R418, R696). -/
def Dev.heartbeatSend (d : Dev) : Dev :=
  if d.twnState = 0 ∨ d.hal.twinKeys = 0 ∨ (d.halState ≠ 1 ∧ d.halState ≠ 3) then d
  else
    let h := d.twin.handover
    let x : Heartbeat := ⟨d.fld Reg.TWN_STAT 3 3, d.twnState, d.twnFlags, (d.rd Reg.TWN_EPOCH_TX).toNat, (d.rd Reg.TWN_EPOCH_RX).toNat,
      d.nowNs, (h.map Handover.f).getD 0, (h.map Handover.tp).getD 0, h.isSome⟩
    let lanes := [192, 193, 194, 195].filter d.fabSvc
    let d1 := lanes.foldl (fun a l => a.send (.clasp (some (l - 192)) (.heartbeat x))) d
    if d1.twin.cancelling then d1.send (.clasp none (.handover .cancel 0 0)) else d1

def execHeartbeatSend (s : State) := s.onDev Dev.heartbeatSend

/-- A heartbeat arrives: the rows of R631 that a partner's state triggers. -/
def Dev.heartbeatRx (d : Dev) (h : Heartbeat) (arb : Bool) : Dev :=
  if d.twnState = 0 ∨ d.twnState = 5 then d
  else
    let cancelled := d.twin.cancelling && !h.valid
    let d0 : Dev := { d with twin := { d.twin with
      hb := some h, lost := false
      arbHigh := d.twin.arbHigh && arb
      cancelling := d.twin.cancelling && h.valid } }
    let d1 := ((d0.setFld Reg.TWN_STAT 14 12 h.state).setFlag Reg.TWN_STAT 15 arb).setFlag Reg.TWN_STAT 16
      (if cancelled then false else d0.flag Reg.TWN_STAT 16)
    if h.state = 5 then (d1.heartbeatLoss 3).partnerFailed
    else match d1.twnState with
      | 1 =>
        if h.state = 4 then d1.becomeCopying
        else if h.state = 1 then (if d1.twin.pref then d1.becomeActive else d1.becomeCopying)
        else d1
      | 4 =>
        if h.state = 4 ∧ d1.twin.pref = false then d1.becomeCopying.raise Reg.pageTWN 11 0
        else if h.state = 2 ∧ d1.twin.copyWait = false ∧ d1.twin.copying = false then d1.copyStart
        else if h.state = 3 ∧ d1.twin.copying then { d1 with twin := { d1.twin with copying := false } }
        else d1
      | _ => d1

def execHeartbeatRx (h : Heartbeat) (arb : Bool) (tag : TagCheck) (s : State) :=
  s.onDev fun d => d.claspGated tag fun d => d.heartbeatRx h arb

/-- A lane comes into service (R386); with Clasp up again SPLIT clears and the standby's copy restarts (R633). -/
def Dev.serviceStart (d : Dev) (n : Nat) : Dev :=
  let up := d.claspUp
  let d1 := d.laneInService n
  if !up && d1.claspUp then
    let d2 := (({ d1 with twin := { d1.twin with lost := false } } : Dev).setFlag Reg.TWN_STAT 4 false)
    if d2.twnState = 2 then d2.becomeCopying else d2.twnShow
  else d1

def execLaneInService (n : Fin 196) (s : State) := s.onDev fun d => d.serviceStart n.val

/-! ### Failure (R634) -/

def execLoscFail (s : State) := s.onDev fun d => d.loscFail.unitFailed

def execWatchdogExpiry (s : State) := s.onDev fun d => if d.liveFlag Reg.TWN_WDOG 31 then d.unitFailed else d

def execWatchdogKick (w : Writer) (s : State) :=
  s.onDev fun d => d.gated Reg.pageTWN 0x054 w fun d => d.wrNat Reg.TWN_WDOG_KICK 1

/-! ### TWN_CMD (R652 to R656, R639) -/

/-- Result of a command: 1 DONE, 2 REFUSED with a reason; BUSY clears. -/
def Dev.twnEnd (d : Dev) (result reason : Nat) : Dev :=
  (d.wrNat Reg.TWN_CMD_RESULT (result + reason * 256)).setFlag Reg.TWN_CMD 31 false

/-- A write of TWN_CMD. -/
def Dev.twnCmd (d : Dev) (w : Writer) (v : Nat) (f : Dev → Dev) : Dev :=
  d.gated Reg.pageTWN 0x048 w fun d => f (d.wrNat Reg.TWN_CMD v)

def execFail (w : Writer) (s : State) := s.onDev fun d => d.twnCmd w 1 fun d => (d.unitFailed).twnEnd 1 0

def execRecopy (w : Writer) (s : State) :=
  s.onDev fun d => d.twnCmd w 2 fun d =>
    if d.twnState ≠ 4 then d.twnEnd 2 3
    else if d.fld Reg.TWN_STAT 11 8 = 0 then d.twnEnd 2 2
    else (d.copyStart).twnEnd 1 0

/-- Plane of takeovers and handovers, its present frame, and the switch line of frame f on it (R647, R652). -/
def Dev.twnTp (d : Dev) : Nat := d.live Reg.TWN_CFG 2 0
def Dev.twnFrame (d : Dev) : Nat := (d.coordNow d.twnTp).f

/-- Propose a handover. -/
def Dev.propose (d : Dev) (f : Nat) (revert : Bool) : Dev :=
  let d1 : Dev := { d with twin := { d.twin with handover := some ⟨f, d.twnTp, true, false, revert⟩, cancelling := false } }
  d1.send (.clasp none (.handover .propose f d.twnTp))

/-- READY of the partner, from its heartbeat. -/
def Dev.partnerReady (d : Dev) : Bool := d.twin.hb.any fun h => h.state == 3 && h.flags % 2 == 1

/-- SWITCH (R654). The command stays busy until the partner accepts or declines. -/
def Dev.switchCmd (d : Dev) (slot : Option Nat) : Dev :=
  if slot.any fun k => !d.planeOn (d.cslotTp k) then d.twnEnd 2 8
  else if d.twnState ≠ 4 then d.twnEnd 2 3
  else if d.flag Reg.TWN_STAT 4 then d.twnEnd 2 4
  else if d.fld Reg.TWN_STAT 11 8 = 0 then d.twnEnd 2 2
  else if d.twin.handover.isSome then d.twnEnd 2 5
  else if !d.partnerReady then d.twnEnd 2 1
  else match slot with
    | none => (d.propose (d.twnFrame + 4) false).setFlag Reg.TWN_CMD 31 true
    | some k =>
      if d.cslotF k < d.twnFrame + 4 then d.twnEnd 2 7
      else (d.propose (d.cslotF k) false).setFlag Reg.TWN_CMD 31 true

def execSwitch (slot : Option (Fin 16)) (w : Writer) (s : State) :=
  s.onDev fun d => d.twnCmd w (match slot with
    | none => 0
    | some k => 16 + k.val * 256) fun d => d.switchCmd (slot.map Fin.val)

/-- Drop a handover. -/
def Dev.dropHandover (d : Dev) : Dev :=
  (({ d with twin := { d.twin with handover := none, readySec := 0 } } : Dev).setFlag Reg.TWN_STAT 16 false)

/-- CANCEL (R655). -/
def Dev.cancelCmd (d : Dev) : Dev :=
  match d.twin.handover with
  | none => d.twnEnd 2 6
  | some h =>
    if h.f < d.twnFrame + 2 then d.twnEnd 2 7
    else
      let d1 := d.dropHandover
      ((({ d1 with twin := { d1.twin with cancelling := true } } : Dev).setFlag Reg.TWN_STAT 16 true).send (.clasp none (.handover .cancel 0 0))).twnEnd 1 0

def execHandoverCancelCmd (w : Writer) (s : State) := s.onDev fun d => d.twnCmd w 3 Dev.cancelCmd

/-- A HANDOVER cell (R652, R655). -/
def Dev.handoverRx (d : Dev) (op : HandoverOp) (f tp : Nat) : Dev :=
  match op with
  | .propose =>
    let ready := if d.twnState = 4 then d.partnerReady else d.twnState = 3 && d.flag Reg.TWN_STAT 6
    if ready then
      let d1 : Dev := { d with twin := { d.twin with handover := some ⟨f, tp, false, true, d.twnState == 4⟩, cancelling := false } }
      (d1.setFlag Reg.TWN_STAT 16 true).send (.clasp none (.handover .accept f tp))
    else d.send (.clasp none (.handover .cancel f tp))
  | .accept =>
    match d.twin.handover with
    | some h =>
      if h.mine && h.f == f then
        let d1 : Dev := { d with twin := { d.twin with handover := some { h with accepted := true } } }
        let d2 := d1.setFlag Reg.TWN_STAT 16 true
        if d2.flag Reg.TWN_CMD 31 then d2.twnEnd 1 0 else d2
      else d
    | none => d
  | .cancel =>
    match d.twin.handover with
    | some h =>
      let d1 := d.dropHandover
      if h.mine && !h.accepted && d1.flag Reg.TWN_CMD 31 then d1.twnEnd 2 1 else d1
    | none => d

def execHandoverRx (op : HandoverOp) (f : Nat) (tp : Fin 8) (tag : TagCheck) (s : State) :=
  s.onDev fun d => d.claspGated tag fun d => d.handoverRx op f tp.val

/-- HANDOVER_COORDINATE: an accepted handover moves the role; one not accepted changes nothing (R652, R653). -/
def Dev.handoverCoordinate (d : Dev) : Dev :=
  match d.twin.handover with
  | none => d
  | some h =>
    let d1 := d.dropHandover
    if !h.accepted then (if h.mine && d1.flag Reg.TWN_CMD 31 then d1.twnEnd 2 1 else d1)
    else
      let st := d.twnState
      let d2 := if st = 4 then
          (({ d1 with twin := { d1.twin with rx := [] } } : Dev).wrNat Reg.TWN_EPOCH_RX (d1.rd Reg.TWN_EPOCH_TX).toNat).setTwn 3
        else if st = 3 then d1.becomeActive
        else d1
      if st ≠ 3 ∧ st ≠ 4 then d2
      else
        ((d2.wrNat Reg.TWN_LAST_TAKEOVER ((if h.revert then 5 else 4) + h.f % 2 ^ 24 * 256)).bump Reg.TWN_COUNTS 31 16).raise Reg.pageTWN
          (if h.revert then 3 else 4) 0

/-- Before the role moves, the old active sends the epoch that is open. -/
def execHandoverCoordinate (s : State) := s.onDev fun d => d.epochClose.handoverCoordinate

/-- REVERT_HOLD_END (R656). -/
def execRevertHoldEnd (s : State) :=
  s.onDev fun d =>
    if d.twin.pref && d.flag Reg.TWN_STAT 6 && d.liveFlag Reg.TWN_CFG 3 && d.twin.handover.isNone then d.propose (d.twnFrame + 4) true else d

/-! ### Assay (R641 to R644) -/

/-- Compare one entry with this unit's own signature. -/
def Dev.compareSig (d : Dev) (x own : SigEntry) : Dev :=
  if x.exclude || own.exclude || d.twin.excluded.contains (x.dst, x.f) then d
  else
    let old := ((d.twin.runs.find? fun r => r.1 == x.dst).map fun r => (r.2.1, r.2.2)).getD (0, 0)
    let same := x.sig == own.sig
    let now := if same then (0, old.2 + 1) else (old.1 + 1, 0)
    let d1 : Dev := { d with twin := { d.twin with
      runs := (d.twin.runs.filter fun r => r.1 != x.dst) ++ [(x.dst, now)]
      cmp := d.twin.cmp + 1
      bad := if same then d.twin.bad else d.twin.bad + 1 } }
    let d2 := d1.bump Reg.TWN_SIG_CMP 31 0
    let d3 := if same then d2 else (d2.bump Reg.TWN_SIG_BAD 31 0).wrNat Reg.TWN_SIG_LAST (x.dst % 2048 + x.f % 65536 * 65536)
    if now.1 = d3.live Reg.TWN_CFG 7 4 then
      (({ d3 with twin := { d3.twin with sigFail := true } } : Dev).raiseLog Reg.pageTWN 6 x.dst).twnShow
    else if d3.twin.sigFail && d3.twin.runs.all fun r => decide (1000 ≤ r.2.2) then
      ({ d3 with twin := { d3.twin with sigFail := false } } : Dev).twnShow
    else d3

/-- SIGNATURES_RX on a standby. -/
def Dev.signaturesRx (d : Dev) (theirs own : List SigEntry) : Dev :=
  if d.twnState ≠ 3 then d
  else theirs.foldl (fun a x => match own.find? fun y => y.dst == x.dst && y.f == x.f with
    | some y => a.compareSig x y
    | none => a) d

def execSignaturesRx (theirs own : List SigEntry) (tag : TagCheck) (s : State) :=
  s.onDev fun d => d.claspGated tag fun d => d.signaturesRx theirs own

/-- SELFTEST_RUN: only a standby with SELFTEST_EN runs them; a failure stands until the same test has passed twice in a row. -/
def Dev.selfTest (d : Dev) (t : SelfTest) (ok : Bool) (errors : Nat) : Dev :=
  if !d.isStandby || !d.liveFlag Reg.TWN_CFG 8 then d
  else
    let d1 : Dev := { d with twin := { d.twin with tests := d.twin.tests + 1, prbs := d.twin.prbs + errors } }
    if ok then
      let l := d1.twin.failing.filterMap fun x => if x.1 = t then (if 1 ≤ x.2 then none else some (t, x.2 + 1)) else some x
      ({ d1 with twin := { d1.twin with failing := l } } : Dev).twnShow
    else
      let l := (d1.twin.failing.filter fun x => x.1 != t) ++ [(t, 0)]
      (({ d1 with twin := { d1.twin with failing := l, fails := d1.twin.fails + 1 } } : Dev).raiseLog Reg.pageTWN 7 0).twnShow

def execSelftestRun (t : SelfTest) (ok : Bool) (errors : Nat) (s : State) := s.onDev fun d => d.selfTest t ok errors

/-! ### Health reports (R645) -/

/-- Words 0 to 13 of the report. -/
def Dev.healthWords (d : Dev) : List Word :=
  let n := fun (v : Nat) => BitVec.ofNat 32 v
  [n (d.fld Reg.TWN_STAT 3 3 + d.twnState * 16 + d.twnFlags * 256 + d.fld Reg.TWN_STAT 11 8 * 65536),
    if d.twnState = 4 then d.rd Reg.TWN_EPOCH_TX else d.rd Reg.TWN_EPOCH_RX, n d.twin.unacked.length, n d.twin.cmp, n d.twin.bad,
    n (d.fld Reg.TWN_SIG_LAST 10 0 + min d.twin.tests 65535 * 65536), n (min d.twin.fails 65535 + min d.twin.prbs 65535 * 65536),
    n (ofSigned 32 (satSigned 32 d.twin.timeOfs)), n d.twin.readySec, n d.nowNs, n (d.nowNs / 2 ^ 32), 0, 0, 0]

/-- The 1 s report: shown, sent, its counts of the second start again, and the time to revert counts down. -/
def Dev.twnHealthSend (d : Dev) (ofs : Int) : Dev :=
  if d.twnState = 0 then d
  else
    let d0 := ({ d with twin := { d.twin with timeOfs := ofs } } : Dev).twnShow
    let d1 : Dev := if d0.flag Reg.TWN_STAT 6 then { d0 with twin := { d0.twin with readySec := d0.twin.readySec + 1 } } else d0
    let w := d1.healthWords
    let tag := Config.claspTag w
    let all := w ++ [BitVec.ofNat 32 tag, BitVec.ofNat 32 (tag / 2 ^ 32)]
    let d2 := (List.range 16).foldl (fun a i => a.wr (Reg.TWN_HEALTH i) (all.getD i 0)) d1
    let d3 : Dev := { d2 with twin := { d2.twin with cmp := 0, bad := 0, tests := 0, fails := 0, prbs := 0 } }
    let hold := if d3.twin.pref && d3.twnState == 3 && d3.liveFlag Reg.TWN_CFG 3 then d3.live Reg.TWN_CFG 31 16 - d3.twin.readySec else 0
    (d3.wrNat Reg.TWN_HOLD_REMAIN hold).send (.clasp none (.health all))

def execTwinHealthSend (ofs : Int) (s : State) := s.onDev fun d => d.twnHealthSend ofs

def execTwinHealthRx (words : List Word) (tag : TagCheck) (s : State) :=
  s.onDev fun d => d.claspGated tag fun d => (List.range 16).foldl (fun a i => a.wr (Reg.TWN_PHEALTH i) (words.getD i 0)) d

/-! ### Update chunks for the standby (R711) -/

/-- A piece of a chunk from the active unit. The header, manifest and bitmap come with the epochs (R710). -/
def Dev.chunkCell (d : Dev) (index ofs : Nat) (data : List Byte) : Dev :=
  if !d.isStandby then d
  else
    let first := if index = 0 then (((d.hie.bulk.find? fun x => x.object == 4 && x.chunk == 0).map fun x => (List.range 64).map fun i =>
      ((x.bytes.find? fun y => y.1 == i).map Prod.snd).getD 0).getD (data.take 64)) else []
    let r := d.gather 4 index ofs (d.chunkLen index (if ofs = 0 then data else first)) data
    match r.2 with
    | none => r.1
    | some l => { r.1 with upd := { r.1.upd with chunks := (r.1.upd.chunks.filter fun x => x.1 != index) ++ [(index, l)] } }

def execUpdChunkCellRx (index ofs : Nat) (data : List Byte) (tag : TagCheck) (s : State) :=
  s.onDev fun d => d.claspGated tag fun d => d.chunkCell index ofs data

end Sys2Proof.Machine
end

