-- ==== Sys2Proof/Machine/Hallmark.lean ====
section
/-!
DEFINITION. The Hallmark: states, self-tests, zeroisation, owner slots, keys, test access and the signed audit log
(spec/20_security_and_update.md, R686 to R705, R728).
-/

namespace Sys2Proof.Machine

open Sys2Proof

/-! ### Commands (R728) -/

/-- A write of HAL_CMD; one while BUSY reads 1 is ignored (R137). -/
def Dev.halCmd (d : Dev) (w : Writer) (op : Nat) (f : Dev → Dev) : Dev :=
  d.gated Reg.pageHAL 0x080 w fun d => if d.flag Reg.HAL_CMD 31 then d else f (d.wrNat Reg.HAL_CMD op)

/-- A command that is done. -/
def Dev.halDone (d : Dev) : Dev := (d.wrNat Reg.HAL_CMD_RESULT 1).setFlag Reg.HAL_CMD 31 false

/-- A refused command and its reason: 1 STATE, 2 SIGNATURE, 3 SLOT, 4 LAST_SLOT, 5 RANGE, 6 ROLE. -/
def Dev.halRefuse (d : Dev) (reason : Nat) : Dev :=
  (d.wrNat Reg.HAL_CMD_RESULT (2 + reason * 256)).setFlag Reg.HAL_CMD 31 false

/-- A command whose signature fails: refused with SIGNATURE, signalled and audited (R688). -/
def Dev.halBadSig (d : Dev) : Dev := ((d.halRefuse 2).raise Reg.pageHAL 3 0).auditFail 0x2000

/-- Services other than status and zeroisation: none in SELFTEST and ERROR (R696). -/
def Dev.halServes (d : Dev) : Bool := d.halState == 1 || d.halState == 3

/-- Where a command's argument and result stand: DRAM or host memory, and the address (R728). -/
def Dev.halBuf (d : Dev) : Bool × Nat :=
  (d.flag Reg.HAL_CMD_ADDR_HI 31, d.fld Reg.HAL_CMD_ADDR_LO 31 6 * 64 + d.fld Reg.HAL_CMD_ADDR_HI 30 0 * 2 ^ 32)

/-- Change the Hallmark's own state. -/
def Dev.onHal (d : Dev) (f : Hal → Hal) : Dev := { d with hal := f d.hal }

/-! ### Zeroisation (R699 to R702) -/

/-- A zeroisation, and its source: 0 ZEROIZE_N, 1 HAL_CMD, 2 TEST_ACCESS. Sessions close, every installed key and the TLS key
go, an install that waits goes with them, the salt line is zero. -/
def Dev.zeroise (d : Dev) (source : Nat) : Dev :=
  let d1 := (d.closeSessions).onHal fun h =>
    { h with hierKeys := 0, twinKeys := 0, tlsKey := false, cert := false, waiting := [], zeroAfter := false }
  let d2 : Dev := { d1 with temper := { d1.temper with salt := false } }
  let d3 := (d2.showKeys).audit 0x03 (if source = 1 then 0 else 3) 0 0xF 0 source
  (if d3.halState = 2 then d3 else d3.setHal 3).raise Reg.pageHAL 2 0

def execZeroize (w : Writer) (s : State) :=
  s.onDev fun d => d.halCmd w 1 fun d => if d.halState = 0 then d.halRefuse 1 else (d.zeroise 1).halDone

/-- ZEROIZE_N: during a self-test the zeroisation runs after it (R727). -/
def execZeroizeNAssert (s : State) :=
  s.onDev fun d => if d.halState = 0 then d.onHal fun h => { h with zeroAfter := true } else d.zeroise 0

/-- Both copies of the key store are erased, once the salt is (R700, step 4). -/
def execKeystoreErased (s : State) :=
  s.onDev fun d => if d.temper.salt then d else d.onHal fun h => { h with store := 0 }

/-! ### Self-tests and failures (R697) -/

/-- The Hallmark enters ERROR with a failing test: sessions close (R171), a probation fails (R721), a twin unit declares
failure (R634). -/
def Dev.halError (d : Dev) (sticky code : Nat) : Dev :=
  let d1 := ((d.raise Reg.pageHAL sticky 0).setFld Reg.HAL_STAT 15 8 code).setHal 2
  let d2 := ((d1.raiseLog Reg.pageHAL 1 code).closeSessions).probFail 4
  if d2.twnState = 0 then d2 else d2.unitFailed

/-- HAL_CMD SELFTEST. -/
def execHalSelftest (w : Writer) (s : State) :=
  s.onDev fun d => d.halCmd w 0 fun d => if d.halServes then d.setFlag Reg.HAL_CMD 31 true else d.halRefuse 1

/-- A run of the self-tests is counted. -/
def Dev.countTest (d : Dev) (failed : Bool) : Dev :=
  let d1 := d.bump Reg.HAL_ST_CNT 15 0
  if failed then d1.bump Reg.HAL_ST_CNT 31 16 else d1

/-- The key store holds an installed key. -/
def Hal.holdsKey (h : Hal) : Bool := h.hierKeys != 0 || h.twinKeys != 0 || h.tlsKey

/-- The self-tests end: those of a start, or those that HAL_CMD SELFTEST asked for. -/
def Dev.selftestDone (d : Dev) (fail : Option Nat) (entropy : Bool) : Dev :=
  let d1 := d.countTest fail.isSome
  if d.halState = 0 then
    let d2 := match fail with
      | none => (d1.showKeys).setHal (if d1.hal.holdsKey then 1 else 3)
      | some c => d1.halError 0 c
    if d2.hal.zeroAfter then d2.zeroise 0 else d2
  else if d.flag Reg.HAL_CMD 31 then
    match fail with
    | none => d1.halDone
    | some c => d1.halDone.halError (if entropy then 6 else 0) c
  else d

/-- A health test of the entropy source, or a pairwise consistency test, fails in operation. -/
def execHallmarkFailure (kind : HalFailure) (code : Fin 256) (s : State) :=
  s.onDev fun d => if d.halServes then d.halError (match kind with
    | .entropy => 6
    | .pairwise => 0) code.val else d

/-! ### Audit signatures (R705) -/

/-- A read of HAL_AUDIT_WR_LO latches the high half. -/
def execAuditWrRead (s : State) := s.onDev fun d => d.wr64 Reg.HAL_AUDIT_WR_LO Reg.HAL_AUDIT_WR_HI d.hal.auditNext

/-- The 128 bytes of AUDIT_SIGN: the two numbers, the last chain tag, and the signature over those 32 bytes. -/
def auditSignature (first last tag : Nat) : List Byte :=
  let head := bytesLE 8 first ++ bytesLE 8 last ++ bytesLE 16 tag
  head ++ bytesLE 96 (Config.identSign head)

/-- AUDIT_SIGN over a range that the ring still holds. -/
def Dev.auditSign (d : Dev) (m : Mem) (first last : Nat) : Dev × Mem :=
  if !d.halServes then (d.halRefuse 1, m)
  else match d.hal.audit.find? (fun e => e.seq == first), d.hal.audit.find? (fun e => e.seq == last) with
    | some _, some e =>
      if last < first then (d.halRefuse 5, m)
      else (d.halDone, m.setBytes d.halBuf.1 d.halBuf.2 (auditSignature first last e.tag))
    | _, _ => (d.halRefuse 5, m)

/-- A command of HAL_CMD that writes memory. -/
def Dev.halCmdMem (d : Dev) (m : Mem) (w : Writer) (op : Nat) (f : Dev → Mem → Dev × Mem) : Dev × Mem :=
  if d.gate Reg.pageHAL 0x080 w = .open_ ∧ d.flag Reg.HAL_CMD 31 = false then f (d.wrNat Reg.HAL_CMD op) m
  else (d.halCmd w op id, m)

def execAuditSign (first last : Nat) (w : Writer) (s : State) :=
  s.onBoth fun d m => d.halCmdMem m w 2 fun d m => d.auditSign m first last

/-! ### Owner slots (R691) -/

/-- Does a key of an ACTIVE owner slot, other than `but`, or (where `vendor`) the vendor root key sign? -/
def Dev.signerOk (d : Dev) (x : CmdSig) (vendor : Bool) (but : Option Nat) : Bool :=
  match x with
  | .vendor => vendor
  | .slot k => d.ownerSlot k.val == 1 && but != some k.val
  | .bad => false

/-- Owner slot of a signer, 0xF for none (R704). -/
def signerSlot (x : CmdSig) : Nat :=
  match x with
  | .slot k => k.val
  | _ => 0xF

/-- The first 24 bytes of a hash of 48. -/
def hashHead (h : Nat) : Nat := h % 2 ^ 192

/-- An owner slot moves on. -/
def Dev.slotTo (d : Dev) (k st : Nat) (signer : CmdSig) (w : Writer) : Dev :=
  (((d.setFld Reg.HAL_SLOTS (2 * k + 1) (2 * k) st).raise Reg.pageHAL 4 0).audit 0x04 w.cls.code 0 (signerSlot signer) w.port
    (hashHead (d.hal.slotHash.getD k 0))).halDone

def Dev.slotProgram (d : Dev) (k hash : Nat) (signer : CmdSig) (w : Writer) : Dev :=
  if !d.halServes then d.halRefuse 1
  else if !d.signerOk signer true none then d.halBadSig
  else if d.ownerSlot k ≠ 0 then d.halRefuse 3
  else (d.onHal fun h => { h with slotHash := h.slotHash.set k hash }).slotTo k 1 signer w

def execSlotProgram (slot : Fin 4) (hash : Nat) (signer : CmdSig) (w : Writer) (s : State) :=
  s.onDev fun d => d.halCmd w 3 fun d => d.slotProgram slot.val hash signer w

/-- SLOT_REVOKE: the last ACTIVE slot stays, whoever signs. -/
def Dev.slotRevoke (d : Dev) (k : Nat) (signer : CmdSig) (w : Writer) : Dev :=
  if !d.halServes then d.halRefuse 1
  else if d.ownerSlot k = 1 ∧ ((List.range 4).filter fun j => d.ownerSlot j == 1) = [k] then d.halRefuse 4
  else if !d.signerOk signer false (some k) then d.halBadSig
  else if d.ownerSlot k ≠ 1 then d.halRefuse 3
  else d.slotTo k 2 signer w

def execSlotRevoke (slot : Fin 4) (signer : CmdSig) (w : Writer) (s : State) :=
  s.onDev fun d => d.halCmd w 4 fun d => d.slotRevoke slot.val signer w

/-! ### Test access (R702) -/

def Dev.testAccess (d : Dev) (signer : CmdSig) (identOk : Bool) (w : Writer) : Dev :=
  if !d.halServes then d.halRefuse 1
  else if signer ≠ .vendor ∨ identOk = false then d.halBadSig
  else
    let d1 := (d.zeroise 2).onHal fun h => { h with testAccess := true }
    (((d1.setFlag Reg.HAL_STAT 3 true).setFlag Reg.HAL_STAT 2 false).audit 0x0A w.cls.code 0 0xF w.port 0).halDone

def execTestAccess (signer : CmdSig) (identOk : Bool) (w : Writer) (s : State) :=
  s.onDev fun d => d.halCmd w 5 fun d => d.testAccess signer identOk w

/-! ### Keys (R690, R692, R693) -/

/-- The key store is written with a key newly held: the salt is there from the first install on, and ZEROISED ends. -/
def Dev.keyStored (d : Dev) (cls who slot : Nat) (f : Hal → Hal) : Dev :=
  let now := d.nowNs
  let d1 := d.onHal fun h => { f h with store := h.store + 1, lastInstall := some now }
  let d2 : Dev := { d1 with temper := { d1.temper with salt := true } }
  let d3 := ((d2.showKeys).raise Reg.pageHAL 5 0).audit 0x05 cls 0 slot who 0
  (if d3.halState = 3 then d3.setHal 1 else d3).twnShow

/-- GEN_TLS: a new TLS key, with no certificate yet; the request goes to the result buffer. -/
def Dev.genTls (d : Dev) (m : Mem) (csr : List Byte) (zeroLow : Bool) (w : Writer) : Dev × Mem :=
  if !d.halServes || zeroLow then (d.halRefuse 1, m)
  else ((d.keyStored w.cls.code w.port 0xF fun h => { h with tlsKey := true, cert := false }).halDone,
    m.setBytes d.halBuf.1 d.halBuf.2 csr)

def execGenTls (csr : List Byte) (zeroLow : Bool) (w : Writer) (s : State) :=
  s.onBoth fun d m => d.halCmdMem m w 6 fun d m => d.genTls m csr zeroLow w

/-- CERT_SET: the certificate is kept with the TLS key it is for. -/
def Dev.certSet (d : Dev) (ok : Bool) (w : Writer) : Dev :=
  if !d.halServes || !d.hal.tlsKey then d.halRefuse 1
  else if !ok then d.halRefuse 2
  else
    let d1 := d.onHal fun h => { h with cert := true, store := h.store + 1 }
    ((d1.showKeys).audit 0x05 w.cls.code 0 0xF w.port 0).halDone

def execCertSet (ok : Bool) (cells : List Host.Cell) (w : Writer) (s : State) :=
  s.onDevHost cells fun _ d => d.halCmd w 7 fun d => d.certSet ok w

/-- A hierarchy or twin key becomes the newest generation; of the two held the older goes. -/
def Dev.keyPlace (d : Dev) (k : KeyWait) : Dev :=
  d.keyStored 0 k.session k.slot fun h =>
    if k.kind = 1 then { h with twinKeys := min 2 (h.twinKeys + 1) } else { h with hierKeys := min 2 (h.hierKeys + 1) }

/-- A key arrives in a session: its client certificate must chain to a key of an ACTIVE owner slot. One within 10 s of the
previous install of any key waits. -/
def Dev.keyInstall (d : Dev) (k : KeyWait) (slotOk zeroLow : Bool) : Dev :=
  if !d.hostif.sessions.getD k.session false then d
  else if !d.halServes || zeroLow then d.audit 0x05 0 1 k.slot k.session 0
  else if !slotOk then (d.audit 0x05 0 1 k.slot k.session 0).auditFail k.session
  else if d.hal.waiting ≠ [] ∨ (d.hal.lastInstall.any fun t => decide (d.nowNs < t + 10000000000)) = true then
    d.onHal fun h => { h with waiting := h.waiting ++ [k] }
  else d.keyPlace k

def execKeyInstall (twin : Bool) (session : Fin 8) (slot : Option (Fin 4)) (zeroLow : Bool) (s : State) :=
  s.onDev fun d => d.keyInstall ⟨b2n twin, session.val, (slot.map Fin.val).getD 0xF⟩
    (slot.any fun k => d.ownerSlot k.val == 1) zeroLow

/-- The 10 s are over for the install that has waited longest. -/
def execKeyInstallDelayed (s : State) :=
  s.onDev fun d => match d.hal.waiting with
    | [] => d
    | k :: rest =>
      let d1 := d.onHal fun h => { h with waiting := rest }
      if d1.halServes then d1.keyPlace k else d1.audit 0x05 0 1 k.slot k.session 0

end Sys2Proof.Machine
end

