-- ==== Sys2Proof/Machine/Chart.lean ====
section
/-!
DEFINITION. The Chart: its image, the checks of a load, loading now or at a slot, and what it puts in force
(spec/04_register_pages_and_host.md, R172 to R177, R789; spec/00_scope.md, R5).
-/

namespace Sys2Proof.Machine

open Sys2Proof

/-! ### The image (R172 to R174) -/

/-- A little-endian field of n bytes at an offset. -/
def numAt (l : List Byte) (o n : Nat) : Nat := natLE ((l.drop o).take n)

/-- The sections between header and signature: type and payload; `none` when they do not fill the space. -/
def chartSections : (n : Nat) → List Byte → Option (List (Nat × List Byte))
  | 0, l => if l = [] then some [] else none
  | n + 1, l =>
    let len := numAt l 4 4
    if l.length < 8 + len ∨ len % 4 ≠ 0 then none
    else (chartSections n (l.drop (8 + len))).map fun r => (numAt l 0 2, (l.drop 8).take len) :: r

/-- A Chart that says nothing: position 0, standalone. -/
def chartBlank (seq hash signer : Nat) : Chart := ⟨seq, hash, signer, 0, 0, 0, 0, false, 0, 0, 600, none, [], [], [], [], [], []⟩

/-- A FAR_END entry in range: a front lane has nothing else, an unused one is free, else the far lane exists. -/
def farEndOk (n e : Nat) : Bool :=
  if e / 128 % 2 = 1 then e % 128 == 0 && e / 256 % 65536 == 0
  else e / 2 ^ 23 % 2 == 1 || decide (e / 256 % 256 < (if n < 192 then 192 else 4))

/-- OWNERS entries: classes 0 to 2, none of the pages of R152, no overlap. -/
def ownersOk (l : List (Nat × Nat × Nat)) : Bool :=
  let has := fun (x : Nat × Nat × Nat) (p : Nat) => decide (x.1 ≤ p) && decide (p < x.1 + x.2.1)
  l.all (fun x => decide (x.2.2 ≤ 2) && !([Reg.pageDIR, Reg.pageSYS, Reg.pagePWR, Reg.pageHAL].any (has x))) &&
    (List.range l.length).all fun i => (List.range i).all fun j =>
      let a := l.getD i (0, 0, 0)
      let b := l.getD j (0, 0, 0)
      decide (a.1 + a.2.1 ≤ b.1) || decide (b.1 + b.2.1 ≤ a.1)

/-- What a section adds to a Chart; `none` for a payload too short or a field out of range. -/
def chartSection (c : Chart) (typ : Nat) (p : List Byte) : Option Chart :=
  let u := numAt p
  let when := fun (ok : Bool) (x : Chart) => if ok then some x else none
  match typ with
  | 0x0001 => when (decide (8 ≤ p.length))
      { c with position := u 0 1 % 128, role := u 1 1 % 4, manager := u 2 1 % 128, slotId := u 3 1 }
  | 0x0002 =>
    let l := (List.range 196).map fun n => u (4 * n) 4
    when (decide (784 ≤ p.length) && (List.range 196).all fun n => farEndOk n (l.getD n 0)) { c with farEnd := l }
  | 0x0003 => when (decide (8 ≤ p.length) && decide (10 ≤ u 4 2))
      { c with twinPresent := u 0 1 % 2 == 1, twinPref := u 1 1 % 2, twinPlane := u 2 1 % 8, twinHold := u 4 2 }
  | 0x0004 =>
    let n := u 0 1
    let l := (List.range n).map fun i => (u (4 + 4 * i) 1, toSigned 16 (u (6 + 4 * i) 2))
    when (decide (4 ≤ p.length) && decide (n ≤ 4) && decide (4 + 4 * n ≤ p.length) && l.all fun x => decide (x.1 < 192)) { c with timeTree := l }
  | 0x0005 => when (decide (32 ≤ p.length)) { c with regulators := (List.range 8).map fun r => (u (4 * r) 1, u (4 * r + 1) 1 % 32) }
  | 0x0006 => when (decide (4 ≤ p.length)) { c with holdup := some (u 0 4) }
  | 0x0007 =>
    let l := (List.range (p.length / 8)).map fun i => (u (8 * i) 2, u (8 * i + 2) 2, u (8 * i + 4) 1 % 4)
    when (p.length % 8 == 0 && ownersOk l) { c with owners := l }
  | 0x0008 => when (decide (80 ≤ p.length) && decide (u 8 1 ≤ 32) && decide (u 32 1 ≤ 128)) { c with mgmt := p.take 80 }
  | 0x0100 =>
    let n := u 2 2
    let l := (List.range n).map fun i => (u 0 2, u (4 + 8 * i) 2, u (8 + 8 * i) 4)
    when (decide (4 + 8 * n ≤ p.length) && pageInUse (u 0 2) && l.all fun x => x.2.1 % 4 == 0 && decide (x.2.1 < 0x800))
      { c with pageInit := c.pageInit ++ l.map fun x => (x.1 * 0x1000 + x.2.1, BitVec.ofNat 32 x.2.2) }
  | _ => none

/-- Section types of R173. -/
def knownSections : List Nat := [1, 2, 3, 4, 5, 6, 7, 8, 0x0100]

/-- Read sections one by one: the Chart and the optional types skipped, or reason and section of the refusal: FORMAT for an
unknown section, VALUE for a bad payload. -/
def chartFold : Chart → List Nat → List (Nat × List Byte) → Except (Nat × Nat) (Chart × List Nat)
  | c, skipped, [] => .ok (c, skipped)
  | c, skipped, (typ, p) :: t =>
    if knownSections.contains typ then
      match chartSection c typ p with
      | some c1 => chartFold c1 skipped t
      | none => .error (5, typ)
    else if 0x8000 ≤ typ then chartFold c (skipped ++ [typ]) t
    else .error (1, typ)

/-- The most a Chart copy holds (R736). -/
def chartMax : Nat := 4194304

/-- A Chart hash: the first 8 bytes of SHA-384 over the Chart before its signature, bytes 20 to 27 taken as 0. -/
def chartHashOf (l : List Byte) : Nat :=
  numAt (Config.sha384 (l.take 20 ++ List.replicate 8 0 ++ (l.take (l.length - 96)).drop 28)) 0 8

/-- Read a Chart image: checks of R175 on the image itself. -/
def Dev.chartRead (d : Dev) (l : List Byte) : Except (Nat × Nat) (Chart × List Nat) :=
  let body := l.take (l.length - 96)
  let slot := numAt l 6 1 % 4
  if numAt l 0 4 ≠ 0x5A434854 ∨ numAt l 4 2 ≠ 1 ∨ l.length < 160 ∨ numAt l 8 4 ≠ l.length then .error (1, 0)
  else match chartSections (numAt l 16 2) (body.drop 64) with
    | none => .error (1, 0)
    | some ss =>
      if numAt l 20 8 ≠ chartHashOf l then .error (2, 0)
      else if d.ownerSlot slot ≠ 1 ∨ Config.ecdsaOk slot body (l.drop (l.length - 96)) = false then .error (3, 0)
      else if numAt l 18 2 ≠ (if d.partH then 2 else 1) then .error (4, 0)
      else chartFold (chartBlank (numAt l 12 4) (numAt l 20 8) slot) [] ss

/-! ### Putting a Chart in force -/

/-- Bits of a register that a Chart sets at boot alone (R560, R680). -/
def bootOnly (a : Nat) : Word := if a = Reg.DDR_CFG then 0xFFFFFFFF else if a = Reg.PWR_CFG then 0x100 else 0

/-- Write a PAGE_INIT pair: shadow, live and RW bits. -/
def Dev.chartWrite (d : Dev) (boot : Bool) (p : Nat × Word) : Dev :=
  let page := p.1 / 0x1000
  let off := p.1 % 0x1000
  let rw := BitVec.ofNat 32 (((regRow page off).map RegRow.rw).getD 0)
  let sh := shMask page off
  let m := if boot then sh else sh &&& ~~~ bootOnly p.1
  let d1 := d.wr p.1 (merge (sh ||| rw) (d.rd p.1) p.2)
  if m = 0 then d1 else d1.wr (p.1 + 0x800) (merge m (d1.rd (p.1 + 0x800)) p.2)

/-- Pages a Chart writes, rising. -/
def chartPages (c : Chart) : List Nat := c.pageInit.foldl (fun l p => insertUp (p.1 / 0x1000) l) []

/-- The registers as a Chart has them: takeover plane and hold time of TWIN, then PAGE_INIT. -/
def Dev.chartEdit (d : Dev) (boot : Bool) (c : Chart) : Dev :=
  let twn := fun (x : Dev) (a : Nat) => (x.setFld a 2 0 c.twinPlane).setFld a 31 16 c.twinHold
  let d1 := if c.twinPresent then twn (twn d Reg.TWN_CFG) (Reg.TWN_CFG + 0x800) else d
  let d2 := c.pageInit.foldl (fun a p => a.chartWrite boot p) d1
  (chartPages c).foldl (fun a page => groupMirror d a page) d2

/-- Lanes and compositors that the part does not have and a Chart names (R5): the event's argument of each. -/
def Dev.chartUnfitted (e : Dev) : List Nat :=
  if !e.partH then []
  else (((List.range 96).map fun i => 96 + i).filter fun n => e.laneRole n != 0) ++
    ((((List.range 8).map fun i => 8 + i).filter e.filEnabled).map fun n => n + 0x100)

/-- A CLOS Chart gives each edge a bundle of BUNDLE lanes to each of CENTRES centres (R376). -/
def Dev.chartClosBad (e : Dev) (c : Chart) : Bool :=
  let far := (c.farEnd.take 192).filter fun x => x / 128 % 2 == 0 && x / 2 ^ 23 % 2 == 0
  let ends := (far.map fun x => x % 128).eraseDups
  e.live Reg.FAB_CFG 5 4 == 2 && (e.live Reg.FAB_CFG 1 0 == 1 || e.live Reg.FAB_CFG 1 0 == 2) && c.farEnd != [] &&
    (ends.any (fun p => (far.filter fun x => x % 128 == p).length != e.live Reg.FAB_CFG 15 8) ||
      (e.live Reg.FAB_CFG 1 0 == 1 && ends.length != e.live Reg.FAB_CFG 23 16))

/-- The frame pool lies within fitted DRAM, below banks A and B (R463, R714). -/
def Dev.chartPoolBad (e : Dev) : Bool :=
  let n := e.live Reg.FS_POOL_SIZE 17 0
  n != 0 && decide ((dramGeoOf (e.rd Reg.DDR_CFG)).bytes < (e.live Reg.FS_POOL_BASE 16 0 + n) * 2097152 + 134217728)

/-- Why a Chart is refused in the present state: reason and section (R175, R176); `none` when it is accepted. -/
def Dev.chartBad (d : Dev) (c : Chart) : Option (Nat × Nat) :=
  let e := d.chartEdit false c
  if e.chartUnfitted ≠ [] then some (5, 0x0100)
  else match (chartPages c).findSome? fun p => commitCheck d [] (chartPages c) e p with
    | some (3, _) => some (6, 0x0100)
    | some _ => some (5, 0x0100)
    | none => if e.chartPoolBad then some (5, 0x0100) else if e.chartClosBad c then some (5, 0x0002) else none

/-- What beside the pages follows from the Chart in force: position, hash and sequence, time tree. -/
def Dev.chartBasics (d : Dev) (c : Chart) : Dev :=
  let d1 := ((d.setFld Reg.HIE_ROLE 17 11 c.position).wrNat Reg.SYS_CHART_SEQ c.seq).wr64 Reg.SYS_CHART_HASH_LO
    Reg.SYS_CHART_HASH_HI c.hash
  let d2 := d1.wrNat Reg.TMP_HOLDUP (min (c.holdup.getD 0) 65535)
  let d3 := d2.setFlag Reg.TMP_STAT 6 (c.holdup.any fun h => decide (200 ≤ h))
  { d3 with ptp := { d3.ptp with ttLanes := c.timeTree } }

/-- Owners as the Chart has them: the reset value of PG_OWNER (R149). -/
def Dev.chartOwners (d : Dev) (c : Chart) : Dev :=
  c.owners.foldl (fun a x => ((List.range x.2.1).map fun i => x.1 + i).foldl (fun b p =>
    if pageInUse p then b.wrNat (Reg.PG_OWNER p) x.2.2 else b) a) d

/-- Put the registers of a Chart in force with the effects that a commit of each page has. -/
def Dev.chartForce (d : Dev) (boot : Bool) (c : Chart) : Dev :=
  let e := d.chartEdit boot c
  (changedPages d e).foldl (fun a page => pageEffect d a page entries16) e

/-! ### Loading (R176) -/

/-- A Chart is refused. -/
def Dev.chartRefuse (d : Dev) (reason sec : Nat) : Dev :=
  let d1 : Dev := { d with hostif := { d.hostif with chartLoad := none } }
  (((d1.wrNat Reg.SYS_CHART_STAT (3 + reason * 256 + sec * 65536)).setFlag Reg.SYS_CHART_CTRL 31 false).logEvent Reg.pageSYS 0x21
    (reason + sec * 65536)).audit 0x08 3 1 0xF 0 reason

/-- A Chart image is read and checked; one that passes is written to Temper and SPI NOR. -/
def Dev.chartTake (d : Dev) (l : List Byte) (slipped : Bool) : Dev :=
  if d.halState = 2 then d.chartRefuse 7 0
  else match d.chartRead l with
    | .error (reason, sec) => d.chartRefuse reason sec
    | .ok (c, skipped) =>
      let d1 := skipped.foldl (fun a t => a.logEvent Reg.pageSYS 0x23 t) d
      match d1.chartBad c with
      | some (reason, sec) => (((d1.chartEdit false c).chartUnfitted).foldl (fun a n => a.logEvent Reg.pageSYS 0x24 n) d1).chartRefuse reason sec
      | none => { d1 with hostif := { d1.hostif with chartLoad := none, chartNew := some (c, slipped) } }

/-- The image in DRAM that a load names. -/
def chartImage (m : Mem) (addr : Nat) : List Byte := m.bytes true addr (min (m.nat true (addr + 8) 4) (chartMax + 1))

/-- Loads wait for the 2 s after the last Chart write, and for new firmware to run (R727). -/
def Dev.chartWaits (d : Dev) : Bool := d.hostif.chartHold || d.upd.img.state == 5

/-- The load runs now, or is held. -/
def Dev.chartGo (d : Dev) (m : Mem) (x : ChartLoad) : Dev :=
  if d.chartWaits then { d with hostif := { d.hostif with chartLoad := some { x with slot := none, held := true } } }
  else d.chartTake (x.image.getD (chartImage m x.addr)) x.slipped

/-- A held load runs once nothing holds it. -/
def Dev.chartPump (d : Dev) (m : Mem) : Dev :=
  match d.hostif.chartLoad with
  | some x => if x.held && !d.chartWaits then d.chartGo m x else d
  | none => d

/-- The coordinate of a slot is reached: a load armed on it. One that is held slips. -/
def Dev.chartSlot (d : Dev) (m : Mem) (k : Nat) : Dev :=
  match d.hostif.chartLoad with
  | some x => if x.slot = some k then d.chartGo m { x with slipped := d.chartWaits } else d
  | none => d

/-- SYS_CHART_CTRL GO: now, or on a slot. -/
def Dev.chartLoad (d : Dev) (m : Mem) (slot : Option Nat) : Dev :=
  let addr := d.rd64 Reg.SYS_CHART_ADDR_LO Reg.SYS_CHART_ADDR_HI
  let d1 := ((d.wrNat Reg.SYS_CHART_CTRL (match slot with
    | none => 1
    | some k => 3 + k * 16)).setFlag Reg.SYS_CHART_CTRL 31 true).wrNat Reg.SYS_CHART_STAT 1
  if d.sealing then d1.chartRefuse 0 0
  else match slot with
    | none => d1.chartGo m ⟨addr, none, none, false, false⟩
    | some k =>
      if !d.planeOn (d.cslotTp k) then d1.chartRefuse 5 0
      else if d.cslotInstant k ≤ d.time then d1.chartGo m ⟨addr, none, none, false, true⟩
      else { d1 with hostif := { d1.hostif with chartLoad := some ⟨addr, none, some k, false, false⟩ } }

def execChartLoad (at_ : Option (Fin 16)) (w : Writer) (s : State) :=
  s.onDevHost [] fun m d => d.gated Reg.pageSYS 0x0D0 w fun d =>
    if d.flag Reg.SYS_CHART_CTRL 31 then d else d.chartLoad m (at_.map Fin.val)

def execChartHoldEnd (s : State) :=
  s.onDevHost [] fun m d => ({ d with hostif := { d.hostif with chartHold := false } } : Dev).chartPump m

/-- The images of an update run again: a Chart load that waited follows. -/
def execUpdRestartDone (s : State) := s.onDevHost [] fun m d => d.restartDone.chartPump m

/-- An accepted Chart has been written to Temper and to both SPI copies, and is in force: its pages, the journal, its hash. A
load that came late shows SLIPPED in PG_COMMIT_STAT of the SYS page. -/
def Dev.chartAccepted (d : Dev) : Dev :=
  match d.hostif.chartNew with
  | none => d
  | some (c, slipped) =>
    let half := 1 - d.temper.chartHalf
    let d1 : Dev := { d with
      hostif := { d.hostif with
        chart := some c, chartPrev := d.hostif.chart, spiChartA := some c, spiChartB := some c, chartNew := none, chartHold := true }
      temper := { d.temper with chartHalf := half, chartLost := d.temper.chartLost.filter fun h => h != half } }
    let d2 := (d1.chartForce false c).chartBasics c
    let pages := (changedPages d1 d2).filter fun p => keptTypes.contains (pageType p)
    let d3 := d2.jAppend ((pages.map fun p => JBody.pageWrite p (changedWords d1 d2 p)) ++ [.chart c.seq c.hash])
    let d4 := ((d3.wrNat Reg.SYS_CHART_STAT 2).setFlag Reg.SYS_CHART_CTRL 31 false).setFlag (Reg.PG_COMMIT_STAT Reg.pageSYS) 2 slipped
    ((d4.logEvent Reg.pageSYS 0x20 c.seq).audit 0x08 3 0 0xF 0 c.seq)

def execChartAccepted (s : State) := s.onDev Dev.chartAccepted

/-! ### Checks against what the device sees (R177) -/

/-- A mismatch: check and index. -/
def Dev.chartMismatch (d : Dev) (check idx : Nat) : Dev := d.raiseLog Reg.pageSYS 3 (check + idx * 256)

end Sys2Proof.Machine
end

