-- ==== Sys2Proof/Machine/Power.lean ====
section
/-!
DEFINITION. Quench: power states, their entry, wakes, operating points and PMBus (spec/19_power.md, R660 to R685), and what
every reset and every wake from DEEP keeps (spec/21_startup.md, R750, R751).
-/

namespace Sys2Proof.Machine

open Sys2Proof

/-- Change the power state beyond the PWR page. -/
def Dev.onPower (d : Dev) (f : Power → Power) : Dev := { d with power := f d.power }

/-! ### What survives a reset (R750) -/

/-- Words of read-only registers that a fuse, Temper or Crucible holds. -/
def coldWords : List Nat :=
  [Reg.HAL_SLOTS, Reg.HAL_IDENT, Reg.HAL_AUDIT_WR_LO, Reg.HAL_AUDIT_WR_HI, Reg.SYS_EVT_WR, Reg.TMP_JSEQ_LO, Reg.TMP_JSEQ_HI,
    Reg.TMP_CKPT_SEQ, Reg.TMP_WEAR, Reg.TMP_SEAL_TIME, Reg.TMP_SPARE, Reg.CRU_CAP, Reg.CRU_MIRROR_STAT, Reg.CRU_LIB_COUNT,
    Reg.CRU_LIB_FREE, Reg.CRU_FORECAST, Reg.CRU_WEAR, Reg.CRU_BLOCKS, Reg.TWN_EPOCH_TX, Reg.TWN_EPOCH_RX, Reg.TWN_LAST_TAKEOVER,
    Reg.TWN_COUNTS, Reg.SYS_BOOT_STAT] ++ (List.range 8).map Reg.TMP_LIFE ++ (List.range 12).map Reg.HAL_MEAS

/-- The Hallmark that starts again: fuses, audit log, and the key store where its salt stands; test access ends (R690, R700,
R702). -/
def coldHal (h : Hal) (salt : Bool) : Hal :=
  { Hal.reset with
    slotHash := h.slotHash, audit := h.audit, auditNext := h.auditNext
    hierKeys := if salt then h.hierKeys else 0
    twinKeys := if salt then h.twinKeys else 0
    tlsKey := salt && h.tlsKey
    cert := salt && h.cert
    store := if salt then h.store else 0 }

/-- The device as a reset leaves it: everything at reset but what Temper, Crucible, SPI NOR, fuses and the always-on domain
hold. It is held in reset. -/
def Dev.cold (d : Dev) (cause : Nat) : Dev :=
  { Dev.reset with
    regs := d.regs.filter fun p => coldWords.contains p.1
    partH := d.partH
    time := d.time
    freeCount := d.freeCount
    outbox := d.outbox
    hostif := { HostIf.reset with
      chart := d.hostif.chart, chartPrev := d.hostif.chartPrev, spiChartA := d.hostif.spiChartA, spiChartB := d.hostif.spiChartB }
    evlog := { EventLog.reset with entries := d.evlog.entries }
    ptp := { Ptp.reset with aonBase := d.ptp.aonBase }
    engines := { Engines.reset with library := d.engines.library }
    journal := { Journal.reset with ring := d.journal.ring, nextSeq := d.journal.nextSeq, segment := d.journal.segment }
    hal := coldHal d.hal d.temper.salt
    temper := { d.temper with writing := none, warned := none, mirrorRun := none, mirrorWant := false, lib := none }
    upd := { Upd.reset with
      img := { UpdImage.reset with slots := d.upd.img.slots }, fwVer := d.upd.fwVer, chunks := d.upd.chunks }
    twin := { Twin.reset with pref := d.twin.pref }
    power := { Power.reset with run := .held, cause := cause, good := d.power.good } }

/-- What the outside sees of a reset: TWIN_ACTIVE low, TWIN_ARB released (R734). -/
def Dev.coldOut (d : Dev) (cause : Nat) : Dev :=
  let d1 := if d.twnState = 0 ∨ d.twnState = 4 then d.send (.twinActive false) else d
  (d1.send (.twinArb false)).cold cause

/-! ### Regulators (R666, R680, R681) -/

/-- The PMBus address and ULINEAR16 exponent of a rail's declared regulator. -/
def Dev.regulator (d : Dev) (rail : Nat) : Option (Nat × Int) :=
  match d.hostif.chart with
  | none => none
  | some c =>
    let x := c.regulators.getD rail (0, 0)
    if x.1 / 128 % 2 = 1 then some (x.1 % 128, toSigned 5 x.2) else none

/-- Send a command to a rail's regulator, where one is declared. -/
def Dev.pmbusTo (d : Dev) (rail : Nat) (c : PmbusCmd) : Dev :=
  match d.regulator rail with
  | some (a, _) => d.send (.pmbus a c)
  | none => d

/-- The rails that DEEP turns off: VDD_CORE, VDD_LANE, VDDH_LANE, VDD_IO; OFF all but VDD_AON. -/
def deepRails : List Nat := [0, 2, 3, 7]
def offRails : List Nat := [0, 2, 3, 4, 5, 6, 7]

/-- VDD_CORE of an operating point, mV (R677). -/
def opMillivolts (op : Nat) : Nat := if op = 0 then 650 else if op = 1 then 720 else if op = 2 then 800 else 880

/-- The ULINEAR16 mantissa of a voltage, to the nearest step: V = mantissa × 2^exponent. -/
def ulinear16 (mv : Nat) (e : Int) : Nat :=
  if e ≤ 0 then (mv * 2 ^ (-e).toNat + 500) / 1000 else (mv + 500 * 2 ^ e.toNat) / (1000 * 2 ^ e.toNat)

/-- In PMBUS mode, the VOUT_COMMAND for an operating point. -/
def Dev.pmbusVout (d : Dev) (op : Nat) : Dev :=
  if d.liveFlag Reg.PWR_CFG 8 then
    match d.regulator 0 with
    | some (a, e) => d.send (.pmbus a (.vout (ulinear16 (opMillivolts op) e % 65536)))
    | none => d
  else d

/-! ### Results and accounting (R664, R668, R676) -/

/-- Result and refuser of PWR_CMD. -/
def Dev.pwrResult (d : Dev) (r refuser : Nat) : Dev := d.wrNat Reg.PWR_CMD_RESULT (r + refuser * 256)

/-- Account for a result of REFUSED (kind 0), BUSY (1), ABORTED (2) or DROPPED (3): count, record, sticky bit and event. -/
def Dev.pwrAccount (d : Dev) (kind refuser state : Nat) : Dev :=
  let n := if kind = 2 then 1 else if kind = 3 then 2 else 0
  let arg := refuser + state * 16
  if d.liveFlag Reg.PWR_CFG 5 then
    ((d.bump Reg.PWR_REFUSE_CNT 15 0).wrNat Reg.PWR_REFUSE_LAST (arg + kind * 256)).raiseLog Reg.pagePWR n arg
  else d.raise Reg.pagePWR n arg

/-- PWR_STATE reads a state; a change is signalled (R685), and a twin unit's READY follows (R646). -/
def Dev.setPwr (d : Dev) (st : Nat) : Dev :=
  let d1 := d.setFld Reg.PWR_STATE 2 0 st
  if d.powerState = st then d1 else (d1.statusIrq Reg.pagePWR 8).twnShow

/-- A transition starts toward a state, or is over. -/
def Dev.pwrMoving (d : Dev) (target : Option Nat) : Dev :=
  match target with
  | some t => (d.setFlag Reg.PWR_STATE 3 true).setFld Reg.PWR_STATE 6 4 t
  | none => (d.setFlag Reg.PWR_STATE 3 false).setFld Reg.PWR_STATE 6 4 0

/-- A transition or an operating-point change is in progress (R668). -/
def Dev.pwrBusy (d : Dev) : Bool := d.flag Reg.PWR_STATE 3 || d.flag Reg.PWR_OP_STAT 2

/-- Target of the transition in progress. -/
def Dev.pwrTarget (d : Dev) : Nat := d.fld Reg.PWR_STATE 6 4

/-- Show and keep the queued request. -/
def Dev.pwrQueue (d : Dev) (q : Option PwrWait) : Dev :=
  let d1 := d.onPower fun p => { p with queued := q }
  match q with
  | some x => (d1.setFlag Reg.PWR_STATE 7 true).setFld Reg.PWR_STATE 10 8 x.state
  | none => (d1.setFlag Reg.PWR_STATE 7 false).setFld Reg.PWR_STATE 10 8 0

/-- Why SLEEP, DEEP or OFF is refused (R664), in the table's order. -/
def Dev.lowRefuser (d : Dev) (st : Nat) (wake : Bool) : Option Nat :=
  if wake then some 1
  else if d.twnState = 4 then some 3
  else if d.hie.cross ≠ [] then some 4
  else if d.isManager && d.otherPositions.any fun p => (d.peer p).heard && !(d.peer p).lost then some 5
  else if 3 ≤ st ∧ d.sealing = true then some 6
  else if 2 ≤ d.upd.img.state ∧ d.upd.img.state ≤ 7 then some 7
  else none

/-! ### Entry (R665 to R667, R670) -/

/-- The registers of R670 that the model names: the PWR page from 0x040 to 0x07C and the boot measurement; the MSI-X table and the pending bits. -/
def Dev.saveRegs (d : Dev) : Dev :=
  let l := ((List.range 16).map fun i => Reg.pagePWR * 0x1000 + 0x040 + 4 * i) ++ (List.range 12).map Reg.HAL_MEAS
  let s : Saved := ⟨l.map fun a => (a, d.rd a), d.hostif.msixTable, d.hostif.pba, d.hostif.msgEnable⟩
  (d.onPower fun p => { p with saved := some s }).wrNat Reg.PWR_SAVE_STAT (412 + 65536)

/-- Entry to SLEEP, DEEP or OFF starts. -/
def Dev.entryStart (d : Dev) (st : Nat) : Dev :=
  let left := d.powerState
  let d1 := ((d.setFlag Reg.PWR_CMD 31 true).pwrResult 0 0).pwrMoving (some st)
  d1.saveRegs.onPower fun p => { p with step := 1, left := left }

/-- A quad is disabled: its lanes neither send nor receive. -/
def Dev.quadOff (d : Dev) (q : Nat) : Dev :=
  d.forLanes (lanesOfQuad q) fun d n =>
    ((d.setFlag (Reg.LN_QUAD_STAT n) 0 false).setFlag (Reg.LN_STAT n) 4 false).rxTo n rxDisabled

/-- The datapath stops on every plane (R43, R553, R665). -/
def execSleepCommit (s : State) :=
  s.onDev fun d => if d.power.step ≠ 1 then d
    else (d.aptSleep).onPower fun p => { p with step := 2, stopped := true }

/-! ### Wakes (R669 to R675) -/

/-- The refuser code of a wake source (R673). -/
def wakeRefuser (source : Nat) : Nat := if source = 2 then 11 else if source = 3 then 12 else if source = 4 then 10 else 1

/-- Account for a wake: its source, the state it left, and device time. -/
def Dev.wakeAccount (d : Dev) (source left : Nat) : Dev :=
  if d.liveFlag Reg.PWR_CFG 4 then
    (d.wrNat Reg.PWR_LAST_WAKE (source + left * 16)).wr64 Reg.PWR_WAKE_TIME_LO Reg.PWR_WAKE_TIME_HI d.nowNs
  else d

/-- After a wake, a queued request for a lower state is dropped (R675). -/
def Dev.wakeDrop (d : Dev) (source : Nat) : Dev :=
  match d.power.queued with
  | some q => if 2 ≤ q.state then ((d.pwrQueue none).pwrResult 6 (wakeRefuser source)).pwrAccount 3 (wakeRefuser source) q.state else d
  | none => d

/-- A wake from SLEEP runs: registers are written back, the quads that were off start at PLL_WAIT (R671). -/
def Dev.sleepWake (d : Dev) (source target left : Nat) : Dev :=
  let off := d.power.quadsOff
  let d1 := ((d.onPower fun p => { p with step := 0, quadsOff := false, wake := some (source, target) }).pwrMoving (some target)).setFlag
    Reg.PWR_SAVE_STAT 17 true
  let d2 := if off then
      (List.range 49).foldl (fun a q => if d.sleepQuad q then a else a.forLanes (lanesOfQuad q) fun b n => (b.txUpdate n).rxRestart n) d1
    else d1
  (d2.wakeAccount source left).wakeDrop source

/-- The state that a wake from DEEP starts from: the always-on SRAM, DRAM training results, Temper and its logs. -/
def Dev.deepBase (d : Dev) : Dev :=
  let b := d.cold d.power.cause
  let saved : Saved := d.power.saved.getD ⟨[], [], 0, false⟩
  let keep := [Reg.PTP_UNC, Reg.PG_STAT Reg.pagePTP, Reg.DDR_STAT, Reg.PWR_SAVE_STAT, Reg.TMP_STAT, Reg.HIE_ROLE] ++ (List.range 8).map Reg.DDR_CH_STAT
  let b1 := keep.foldl (fun a r => a.wr r (d.rd r)) b
  let b2 := saved.regs.foldl (fun a p => a.wr p.1 p.2) b1
  { b2 with
    hostif := { b2.hostif with msixTable := saved.msix, pba := saved.pba, msgEnable := saved.msgEnable }
    journal := d.journal, evlog := d.evlog, power := { d.power with run := .up, step := 0, quadsOff := false, queued := d.power.queued } }

/-- A wake from DEEP runs (R672): regulators on, registers written back, device time advanced, DRAM out of self-refresh, page
state loaded from the checkpoint of R666; nothing is replayed or journalled. Roles start unconfirmed (R415), the Hallmark runs its
self-test, a twin unit starts in STARTING. -/
def Dev.deepWake (d : Dev) (source ticks : Nat) : Dev :=
  let d1 := deepRails.foldl (fun a r => a.pmbusTo r (.operation 0x80)) d
  let twin := d.twnState != 0
  let b0 := (d1.deepBase).setFlag Reg.HIE_ROLE 2 false
  let b1 := match d.hostif.chart with
    | some c => (b0.chartForce true c).chartBasics c |>.chartOwners c
    | none => b0
  let b2 := match d.temper.ckpts.head? with
    | some c => b1.load c.image
    | none => b1
  let b3 := (if twin then b2.setFld Reg.TWN_STAT 2 0 1 else b2).confirmAlone.hoRestore.bellowsStart
  let b4 := (({ b3 with time := d.time } : Dev).aonAdvance ticks).dramSelfRefresh false
  let b5 := (((b4.setFld Reg.PWR_STATE 2 0 3).pwrMoving (some 0)).setFlag Reg.PWR_SAVE_STAT 17 true).onPower fun p =>
    { p with wake := some (source, 0), stopped := true }
  (b5.wakeAccount source 3).wakeDrop source

/-- The entry in progress is aborted before its commit point (R673): the request ends ABORTED. -/
def Dev.entryAbort (d : Dev) (source target : Nat) : Dev :=
  let want := d.pwrTarget
  let left := d.power.left
  let d1 := (((d.setFlag Reg.PWR_CMD 31 false).pwrResult 5 (wakeRefuser source))).pwrAccount 2 (wakeRefuser source) want
  if d.power.step = 1 ∧ left ≤ 1 then
    (((d1.pwrMoving none).onPower fun p => { p with step := 0 }).wakeAccount source left).wakeDrop source
  else d1.sleepWake source (if left ≤ 1 then left else target) left

/-- Is a source a wake of the state being entered or held (R669)? -/
def wakes (state source : Nat) : Bool :=
  if state = 2 then true else if state = 3 then source == 1 || source == 4 else if state = 4 then source == 1 else false

/-- A wake arrives. `saved`: the write-back is verified; one that is not makes it a wake from OFF (R670). -/
def Dev.wakeArrive (d : Dev) (source target ticks : Nat) (saved : Bool) : Dev :=
  match d.power.run with
  | .off => if source = 1 then (offRails.foldl (fun a r => a.pmbusTo r (.operation 0x80)) d).cold 4 else d
  | .deep =>
    if !wakes 3 source then d
    else if saved then d.deepWake source ticks
    else (deepRails.foldl (fun a r => a.pmbusTo r (.operation 0x80)) d).cold 4
  | .up =>
    if d.power.wake.isSome then d.wakeAccount source d.powerState
    else if d.power.step = 0 then
      if d.powerState ≠ 2 then d
      else if saved then d.sleepWake source target 2
      else d.coldOut 4
    else
      let past := decide (4 ≤ d.power.step) || (d.power.step == 2 && d.pwrTarget == 2)
      if past then
        if wakes d.pwrTarget source then d.onPower fun p => { p with wakeNext := some (source, target) } else d
      else d.entryAbort source target
  | _ => d

def execWakePin (ticks : Nat) (saved : Bool) (s : State) := s.onAny fun d => d.wakeArrive 1 0 ticks saved

def execWakeTimer (ticks : Nat) (saved : Bool) (s : State) :=
  s.onAny fun d => if d.fld Reg.PWR_WAKE_TIMER 31 0 = 0 then d else d.wakeArrive 4 0 ticks saved

/-! ### Requests (R661, R664, R668) -/

/-- A request that starts now. -/
def Dev.pwrStart (d : Dev) (st port : Nat) (wake : Bool) : Dev :=
  if d.powerState = st then (d.setFlag Reg.PWR_CMD 31 false).pwrResult 1 0
  else if st ≤ 1 then
    if d.powerState = 2 then ((d.setFlag Reg.PWR_CMD 31 true).pwrResult 0 0).sleepWake (if port = 0 then 2 else 3) st 2
    else (d.setPwr st).pwrResult 1 0
  else match d.lowRefuser st wake with
    | some r => (d.pwrResult 3 r).pwrAccount 0 r st
    | none => d.entryStart st

/-- A request of PWR_CMD. While WAKE is asserted every request for a lower state is refused (R674), also one that would have to
wait. RUN or IDLE during an entry is a wake of SLEEP; any other request while something is in progress waits, and one beyond the
first is BUSY. -/
def Dev.pwrRequest (d : Dev) (st port : Nat) (wake : Bool) : Dev :=
  let source := if port = 0 then 2 else 3
  if wake ∧ 2 ≤ st then (d.pwrResult 3 1).pwrAccount 0 1 st
  else if !d.pwrBusy then d.pwrStart st port wake
  else if st ≤ 1 ∧ d.power.step ≠ 0 ∧ d.power.step < 4 then d.wakeArrive source st 0 true
  else match d.power.queued with
    | none => (d.pwrQueue (some ⟨st, port⟩)).pwrResult 2 0
    | some _ => (d.pwrResult 4 2).pwrAccount 1 2 st

/-- A write of PWR_CMD. -/
def Dev.pwrCmd (d : Dev) (w : Writer) (st : Nat) (wake : Bool) : Dev :=
  d.gated Reg.pagePWR 0x040 w fun d => (d.wrParams Reg.PWR_CMD 7 st).pwrRequest st w.port wake

def execPwrCmdRun (w : Writer) (s : State) := s.onDev fun d => d.pwrCmd w 0 false
def execPwrCmdIdle (w : Writer) (s : State) := s.onDev fun d => d.pwrCmd w 1 false
def execPwrCmdSleep (wake : Bool) (w : Writer) (s : State) := s.onDev fun d => d.pwrCmd w 2 wake
def execPwrCmdDeep (wake : Bool) (w : Writer) (s : State) := s.onDev fun d => d.pwrCmd w 3 wake
def execPwrCmdOff (wake : Bool) (w : Writer) (s : State) := s.onDev fun d => d.pwrCmd w 4 wake

/-- The queued request starts once nothing is in progress. -/
def Dev.pwrNext (d : Dev) (wake : Bool) : Dev :=
  match d.power.queued with
  | some q => if d.pwrBusy then d else (d.pwrQueue none).pwrStart q.state q.port wake
  | none => d

/-- The forced checkpoint of R666: one that is already being written does not serve. -/
def Dev.entryCkpt (d : Dev) : Dev :=
  let newest := (d.temper.ckpts.head?.map Ckpt.seq).getD 0
  let running := d.temper.writing.isSome
  (d.ckptStart).onPower fun p => { p with step := 3, ckpt := newest + (if running then 2 else 1) }

/-- Quads not kept are disabled and the state reads SLEEP; on the way to DEEP or OFF a checkpoint is forced. -/
def Dev.sleepReached (d : Dev) (wake : Bool) : Dev :=
  if d.power.step ≠ 2 then d
  else
    let d1 := (List.range 49).foldl (fun a q => if d.sleepQuad q then a else a.quadOff q) d
    let d2 := (d1.onPower fun p => { p with quadsOff := true }).setPwr 2
    if d.pwrTarget = 2 then
      let d3 := (((d2.pwrMoving none).setFlag Reg.PWR_CMD 31 false).pwrResult 1 0).onPower fun p => { p with step := 0, wakeNext := none }
      match d.power.wakeNext with
      | some (source, target) => d3.sleepWake source target 2
      | none => d3.pwrNext wake
    else d2.entryCkpt

def execSleepQuadsOff (wake : Bool) (s : State) := s.onDev fun d => d.sleepReached wake

/-- The checkpoint is complete: lanes stop, DRAM goes to self-refresh, the PCI Express link goes down. To OFF, the journal is
then sealed as for a supply-monitor warning (R667). -/
def Dev.deepCommit (d : Dev) : Dev :=
  if d.power.step ≠ 3 ∨ d.temper.writing.isSome then d
  else if ((d.temper.ckpts.head?.map Ckpt.seq).getD 0) < d.power.ckpt then d.ckptStart
  else
    let d1 := ((List.range 49).foldl Dev.quadOff d).dramSelfRefresh true
    let d2 := ({ d1 with hostif := { d1.hostif with linkUp := false } } : Dev).onPower fun p => { p with step := 4 }
    if d.pwrTarget = 4 then d2.powerWarn 1 else d2

def execDeepCommit (s : State) := s.onDev Dev.deepCommit

/-- The device is off: only what `cold` keeps goes on. -/
def Dev.offReached (d : Dev) : Dev :=
  let d1 := offRails.foldl (fun a r => a.pmbusTo r (.operation 0)) d
  let d2 := ({ d1 with ptp := { d1.ptp with aonBase := some d1.time } } : Dev).setPwr 4
  (d2.pwrMoving none).onPower fun p => { p with run := .off, step := 0, stopped := true }

/-- OPERATION 0x00 to the declared regulators: on the way to DEEP those of R666, to OFF once the journal is sealed. -/
def execDeepRegulatorsOff (s : State) :=
  s.onDev fun d =>
    if d.power.step ≠ 4 then d
    else if d.pwrTarget = 4 then (if d.fld Reg.TMP_STAT 1 0 = 3 then d.offReached else d)
    else (deepRails.foldl (fun a r => a.pmbusTo r (.operation 0)) d).onPower fun p => { p with step := 5 }

/-- The regulators have acknowledged: the state reads DEEP, device time stops; a wake that came meanwhile runs at once. -/
def Dev.deepReached (d : Dev) : Dev :=
  if d.power.step ≠ 5 then d
  else
    let d1 := (((d.setPwr 3).pwrMoving none).setFlag Reg.PWR_CMD 31 false).pwrResult 1 0
    let d2 := ({ d1 with ptp := { d1.ptp with aonBase := some d1.time } } : Dev).onPower fun p =>
      { p with run := .deep, step := 0, stopped := true, wakeNext := none }
    match d.power.wakeNext with
    | some (source, _) => d2.deepWake source 0
    | none => d2

def execDeepReached (s : State) := s.onDev Dev.deepReached

/-- A wake ends: the datapath restarts, frame stores are FILLING, audio ports start with LEAD_IN (R671, R672, R553). -/
def Dev.wakeEnd (d : Dev) (target : Nat) : Dev :=
  let d1 := (d.onPower fun p => { p with wake := none, stopped := false }).pwrMoving none
  let d2 := d1.engines.stores.foldl (fun a p => match p.2 with
    | none => a
    | some x => a.setStore p.1 (some (Store.fresh x.depth))) d1
  let d3 := if d.flag Reg.PWR_CMD 31 then (d2.setFlag Reg.PWR_CMD 31 false).pwrResult 1 0 else d2
  ((d3.setPwr target).aptWake).raise Reg.pagePWR 6 0

/-- A transition ends; the queued request starts (R668). -/
def execTransitionEnd (wake : Bool) (s : State) :=
  s.onDev fun d => match d.power.wake with
    | some (_, target) => (d.wakeEnd target).pwrNext wake
    | none => d.pwrNext wake

/-! ### Operating points (R677 to R682) -/

/-- Packets per second of the enabled transmit flows, in thousandths (R292). -/
def Dev.txPackets (d : Dev) : Nat :=
  d.txEntries.foldl (fun a t =>
    let rate := rateMilli (d.planeRate (d.dstPlane (d.txDst t)))
    a + (match d.txType t with
      | 0 => d.txPerFrame t * rate
      | 3 => rate
      | _ => 48000 / ptimePeriods (d.txFast t) * 1000)) 0

/-- Packets per second of the enabled receive flows, in thousandths; the packets of a received video flow are taken at the
largest size of R307, as the spec gives a receive flow no size. -/
def Dev.rxPackets (d : Dev) : Nat :=
  d.rxEntries.foldl (fun a r =>
    let y := d.rxDesc r
    let rate := rateMilli y.rate
    a + (match d.rxType r with
      | 0 => ceilDiv (y.width * bitsPerPixel y.sampling / 8) 1400 * y.lines * rate
      | 3 => rate
      | _ => 1000 * 1000)) 0

/-- Does a standing reservation exceed the figures at a percentage of OP2 (R678)? -/
def Dev.opTooLow (d : Dev) (pct : Nat) : Bool :=
  let cells := 25000000 * pct
  decide (cells < d.inRate) || decide (cells < d.outRate) || decide (6000000 * pct * 1000 < d.txPackets) ||
    decide (6000000 * pct * 1000 < d.rxPackets) ||
    (List.range 32).any (fun n =>
      let (w, l, w2, l2) := d.swgSize n
      d.liveFlag (Reg.SWG_CFG n) 0 && (!pixelsOk pct w l (d.swgRate n) || !pixelsOk pct w2 l2 (d.swgRate n))) ||
    (List.range 16).any fun n =>
      d.filEnabled n && !pixelsOk pct (rasterWidth (d.filRaster n)) (rasterLines (d.filRaster n)) (d.planeRate (d.filPlane n))

/-- The capacity figures on the pages follow the point. -/
def Dev.opShow (d : Dev) : Dev := (d.hrtRefresh).fsRefresh

/-- PWR_OP_CMD. -/
def Dev.opChange (d : Dev) (op : Nat) (answers : Bool) : Dev :=
  let now := d.fld Reg.PWR_OP_STAT 1 0
  let d1 := d.wrNat Reg.PWR_OP_CMD op
  let d2 := if d.liveFlag Reg.PWR_CFG 8 && (d.regulator 0).isSome && !answers then d1.chartMismatch 5 0 else d1
  if 2 < d.powerState then d2
  else if op = now then d2
  else if op < now ∧ d.opTooLow (opPercent op) = true then d2.pwrAccount 0 9 7
  else (((d2.setFlag Reg.PWR_OP_CMD 31 true).setFlag Reg.PWR_OP_STAT 2 true).pmbusVout op).opShow

def execOpChange (point : Fin 4) (answers : Bool) (w : Writer) (s : State) :=
  s.onDev fun d => d.gated Reg.pagePWR 0x058 w fun d =>
    if d.flag Reg.PWR_OP_CMD 31 then d else d.opChange point.val answers

/-- The voltage is confirmed and the clocks run at the new point. -/
def execOpChangeConfirmed (mv : Fin 4096) (wake : Bool) (s : State) :=
  s.onDev fun d => if !d.flag Reg.PWR_OP_STAT 2 then d
    else
      let d1 := (d.wrNat Reg.PWR_OP_STAT (d.fld Reg.PWR_OP_CMD 1 0 + mv.val * 256)).setFlag Reg.PWR_OP_CMD 31 false
      ((d1.raise Reg.pagePWR 7 0).opShow).pwrNext wake

/-- A PMBus change is not confirmed in time: the previous voltage, the old point, PMB_FAULT. -/
def execPmbTimeout (wake : Bool) (s : State) :=
  s.onDev fun d => if !d.flag Reg.PWR_OP_STAT 2 || !d.liveFlag Reg.PWR_CFG 8 then d
    else
      let d1 := (d.pmbusVout (d.fld Reg.PWR_OP_STAT 1 0)).pmbusTo 0 .clearFaults
      let d2 := (d1.setFlag Reg.PWR_OP_STAT 2 false).setFlag Reg.PWR_OP_CMD 31 false
      (((d2.pwrAccount 2 8 7).raise Reg.pagePWR 3 0).opShow).pwrNext wake

/-- PMB_ALERT_N: the status words of a rail's regulator, PMB_FAULT, CLEAR_FAULTS. -/
def execPmbAlert (rail : Fin 8) (word : Fin 65536) (vout : Fin 256) (s : State) :=
  s.onDev fun d =>
    ((d.wrNat Reg.PWR_PMB_STAT (word.val + vout.val * 65536 + rail.val * 16777216)).raiseLog Reg.pagePWR 3 0).pmbusTo rail.val .clearFaults

/-- The junction reaches 105 °C (R683). -/
def execTherm (s : State) := s.onDev fun d => (d.wrNat Reg.PWR_TJ 840).raise Reg.pagePWR 5 0

/-- A margin measured at OP2 (R682). -/
def execAgeMargin (margin : Fin 65536) (s : State) :=
  s.onDev fun d =>
    let d1 := d.wrNat Reg.PWR_AGE margin.val
    if margin.val < d.live Reg.PWR_AGE_THR 15 0 then d1.raise Reg.pagePWR 4 0 else d1

end Sys2Proof.Machine
end

