-- ==== Sys2Proof/Machine/Boot.lean ====
section
/-!
DEFINITION. Reset, boot and bring-up: PWR_GOOD and RESET_N, straps, the boot chain, the choice of the Chart, restore, and what
each kind of reset keeps (spec/21_startup.md, R731 to R755; spec/17_persistent_state.md, R605 to R609).
-/

namespace Sys2Proof.Machine

open Sys2Proof

/-! ### PWR_GOOD and RESET_N (R732, R733, R751) -/

/-- PWR_GOOD rises: a cold start begins; RESET_N is still low. A device in OFF waits for its wake. The cause that is already
known stays: a loss of PWR_GOOD, or a wake from OFF. -/
def Dev.goodRise (d : Dev) : Dev :=
  match d.power.run with
  | .off => d.onPower fun p => { p with good := true }
  | .held => (d.cold d.power.cause).onPower fun p => { p with good := true }
  | _ => (d.coldOut 0).onPower fun p => { p with good := true }

/-- A cold start finds nothing in DRAM. -/
def execPwrGoodRise (s : State) : Host.Outcome State Fault Refusal :=
  .next { s with dev := s.dev.goodRise, mem := { s.mem with dram := [] } }

/-- PWR_GOOD low for 1 µs: reset at once, but in OFF. -/
def Dev.goodLoss (d : Dev) : Dev :=
  match d.power.run with
  | .off => d.onPower fun p => { p with good := false }
  | .held => d.onPower fun p => { p with good := false, cause := if p.cause = 4 then 4 else 2 }
  | _ => (d.coldOut 2).onPower fun p => { p with good := false }

def execPwrGoodLoss (s : State) := s.onAny Dev.goodLoss

/-- Device time is latched with the always-on count; in DEEP it was when device time stopped. -/
def Dev.latchTime (d : Dev) : Dev :=
  if d.power.run = .deep then d else { d with ptp := { d.ptp with aonBase := some d.time } }

/-- RESET_N low for 10 µs. -/
def Dev.resetAssert (d : Dev) : Dev :=
  match d.power.run with
  | .off => d
  | .held => d
  | _ => d.latchTime.coldOut 1

def execResetNAssert (s : State) := s.onAny Dev.resetAssert

/-! ### The boot chain (R735 to R739) -/

/-- The first of some choices that verifies. -/
def firstOk (ok : Nat → Bool) (l : List Nat) : Option Nat := l.find? ok

/-- Stage 1 copies that a boot source tries (R737): 0 A, 1 B. -/
def stageOrder (src : Nat) : List Nat := if src = 2 then [1] else [0, 1]

/-- Image slots that a boot source tries (R737), as SYS_BOOT_STAT.SLOT codes them. -/
def slotOrder (src : Nat) : List Nat := if src = 1 then [2] else [0, 1, 2]

/-- Role of a firmware slot (R729) that SYS_BOOT_STAT.SLOT names. -/
def bootRole (slot : Nat) : Nat := if slot = 2 then 3 else slot

/-- What verifies, by stage 1 copy and by slot. -/
def stageOk (x : BootFind) (n : Nat) : Bool := if n = 0 then x.stageA else x.stageB
def slotOk (x : BootFind) (n : Nat) : Bool := if n = 0 then x.running else if n = 1 then x.previous else x.recovery

/-- SYS_BOOT_STAT as the boot chain leaves it. -/
def bootWord (x : Straps) (stage slot : Option Nat) : Nat :=
  x.bootSrc.val + (if stage = some 1 then 4 else 0) + slot.getD 0 * 16 + (if stage.isNone || slot.isNone then 64 else 0) +
    x.slotId.val * 65536 + b2n x.twinPref * 16777216

/-- Stage 1 and a slot verify: the control firmware starts, and the Hallmark with its self-test. -/
def Dev.bootRun (d : Dev) (find : BootFind) (slot : Nat) : Dev :=
  let d1 := (List.range 12).foldl (fun a i => a.wr (Reg.HAL_MEAS i) (find.meas.getD i 0)) d
  let ver := d1.upd.fwVer.getD (slotOf d1.upd.img.slots (bootRole slot)) 0
  let meas := (List.range 6).foldl (fun a i => a + (find.meas.getD i 0).toNat * 2 ^ (32 * i)) 0
  let d2 := (d1.wrNat Reg.UPD_RUN_VER ver).audit 0x01 3 0 0xF (slot + d1.fld Reg.HAL_SLOTS 15 8 * 256) meas
  ((d2.setFld Reg.SYS_BOOT_TIME 15 0 (min find.ms 65535)).setFld Reg.TMP_STAT 1 0 1).onPower fun p => { p with run := .up, boot := 1 }

/-- The boot chain runs on a device held in reset. -/
def Dev.boot (d : Dev) (x : Straps) (find : BootFind) : Dev :=
  let src := if x.bootSrc.val = 3 then 0 else x.bootSrc.val
  let stage := firstOk (stageOk find) (stageOrder src)
  let slot := if stage.isNone then none else firstOk (slotOk find) (slotOrder src)
  let d0 : Dev := { d with twin := { d.twin with pref := x.twinPref } }
  let d1 := ((d0.wrNat Reg.SYS_BOOT_STAT (bootWord x stage slot)).wrNat Reg.SYS_RESET_CAUSE d.power.cause).setFlag Reg.HIE_ROLE 18 (!x.twinPref)
  let d2 := d1.setFlag Reg.TWN_STAT 3 (!x.twinPref)
  let d3 := if x.bootSrc.val = 3 then d2.logEvent Reg.pageSYS 0x25 0 else d2
  match slot with
  | none => d3.onPower fun p => { p with run := .halted }
  | some n =>
    let d4 := d3.bootRun find n
    if some n = (slotOrder src).head? then d4 else d4.raise Reg.pageSYS 8 0

/-- RESET_N is released: the straps are latched. -/
def Dev.resetRelease (d : Dev) (x : Straps) (find : BootFind) : Dev :=
  if d.power.run = .held ∧ d.power.good = true then d.boot x find else d

def execResetNRelease (straps : Straps) (find : BootFind) (s : State) := s.onAny fun d => d.resetRelease straps find

/-- The straps as they were last latched. -/
def Dev.straps (d : Dev) : Straps :=
  ⟨Fin.ofNat 256 (d.fld Reg.SYS_BOOT_STAT 23 16), Fin.ofNat 4 (d.fld Reg.SYS_BOOT_STAT 1 0), d.flag Reg.SYS_BOOT_STAT 24⟩

/-! ### The Chart (R741 to R743, R177) -/

/-- Usable copies as SYS_BOOT_STAT.CHART_COPY numbers them: those present and readable whose owner slot is active. -/
def Dev.chartCopies (d : Dev) : List (Nat × Chart) :=
  let half := d.temper.chartHalf
  let temper := fun (n h : Nat) (c : Option Chart) => if d.temper.chartLost.contains h then [] else (c.map fun x => (n, x)).toList
  let all := temper 0 half d.hostif.chart ++ temper 1 (1 - half) d.hostif.chartPrev ++
    (d.hostif.spiChartA.map fun x => (2, x)).toList ++ (d.hostif.spiChartB.map fun x => (3, x)).toList
  -- in ERROR the in-force copy is taken without its signature (R742)
  if d.halState = 2 then all.filter fun p => p.1 == 0
  else all.filter fun p => d.ownerSlot p.2.signer == 1

/-- The copy of highest sequence; among equals the first. -/
def newestChart (l : List (Nat × Chart)) : Option (Nat × Chart) :=
  l.foldl (fun a p => match a with
    | none => some p
    | some q => if q.2.seq < p.2.seq then some p else some q) none

/-- Is the copy under a number older than the one in use, or not usable? -/
def Dev.chartStale (d : Dev) (l : List (Nat × Chart)) (n : Nat) (c : Chart) : Bool :=
  match l.find? fun p => p.1 == n with
  | some p => decide (p.2.seq < c.seq)
  | none => d.halState != 2 || n == 0

/-- The checks of R177 at boot. -/
def Dev.chartChecks (d : Dev) (c : Chart) (silent : List (Fin 8)) : Dev :=
  let x := d.straps
  let d1 := if x.slotId.val = c.slotId then d else d.chartMismatch 1 0
  let d2 := if c.twinPresent ∧ b2n x.twinPref ≠ c.twinPref then d1.chartMismatch 3 0 else d1
  silent.foldl (fun a r => if (a.regulator r.val).isSome then a.chartMismatch 5 r.val else a) d2

/-- Device time restarts (R122, R123, R746, R751). -/
def Dev.timeRestart (d : Dev) (ticks : Option Nat) (r : Restored) : Dev :=
  match ticks, d.ptp.aonBase with
  | some t, some base => if r.source = 0 then d.aonLost 0 else ({ d with time := base } : Dev).aonAdvance t
  | _, _ => d.aonLost (r.time * 65536)

/-- The role table of a first boot (R409). -/
def chartRoles (c : Chart) : RoleTable :=
  ⟨c.manager, 1, (List.range 128).map fun p => if p = c.position then c.role else if p = c.manager then 0 else 0xF⟩

/-- The Chart hash of the state a restore used: that of its checkpoint or of a CHART record after it. -/
def Dev.restoredHash (d : Dev) (c : Chart) (r : Restored) : Nat :=
  let now := d.rd64 Reg.SYS_CHART_HASH_LO Reg.SYS_CHART_HASH_HI
  if now ≠ c.hash then now
  else match r.source, (d.journal.choose d.temper.ckpts).1, d.temper.mirrors with
    | 1, some k, _ => k.hash
    | 2, some k, _ => k.hash
    | 3, _, (_, m) :: _ => m.ckpt.hash
    | _, _, _ => c.hash

/-- A Chart is chosen: it is in force, state is restored, device time restarts, a twin unit starts in STARTING. -/
def Dev.chartUse (d : Dev) (n : Nat) (c : Chart) (ticks : Option Nat) (silent : List (Fin 8)) : Dev :=
  let l := d.chartCopies
  let stale := d.chartStale l 0 c
  let d0 : Dev := { d with
    hostif := { d.hostif with chart := some c }
    temper := { d.temper with chartLost := if stale then d.temper.chartLost.filter fun h => h != d.temper.chartHalf else d.temper.chartLost } }
  let d1 := (((d0.chartForce true c).chartBasics c).chartOwners c).setFld Reg.SYS_BOOT_STAT 9 8 n
  let x := d1.restore
  let d2 := (if x.2.source = 0 ∨ x.2.source = 4 then x.1.setTable (chartRoles c) else x.1).timeRestart ticks x.2
  let d3 := (d2.restoreShow x.2).hoRestore.bellowsStart
  let d4 := if stale then d3.logEvent Reg.pageSYS 0x22 0 else d3
  let d5 := d4.wr64 Reg.SYS_CHART_HASH_LO Reg.SYS_CHART_HASH_HI (d3.restoredHash c x.2)
  let d6 := d5.chartChecks c silent
  let d7 := if d6.flag Reg.TMP_STAT 6 then d6 else d6.raise Reg.pageTMP 8 0
  let d8 := if x.2.source = 0 then d7
    else { d7 with journal := { d7.journal with segment := d7.journal.segment + 1 } }
  let d9 := if c.twinPresent then (d8.setFld Reg.TWN_STAT 2 0 1).send (.twinArb d8.twin.pref) else d8.send (.twinActive true)
  (d9.confirmAlone).onPower fun p => { p with boot := 2 }

/-- No copy can be used: the pages stay at reset (every lane DISABLED, role NONE, owner HOST) and no state is restored. -/
def Dev.chartNone (d : Dev) (ticks : Option Nat) : Dev :=
  let r := (d.restore).2
  let d0 : Dev := { d with hostif := { d.hostif with chart := none } }
  let d1 := ((d0.timeRestart ticks r).setFlag Reg.SYS_BOOT_STAT 7 true).raise Reg.pageSYS 9 0
  ((d1.send (.twinActive true)).confirmAlone).onPower fun p => { p with boot := 2 }

/-- CHART_CHOOSE. -/
def Dev.chartChoose (d : Dev) (ticks : Option Nat) (silent : List (Fin 8)) : Dev :=
  if d.power.boot ≠ 1 then d
  else match newestChart d.chartCopies with
    | some (n, c) => d.chartUse n c ticks silent
    | none => d.chartNone ticks

def execChartChoose (ticks : Option Nat) (silent : List (Fin 8)) (s : State) := s.onDev fun d => d.chartChoose ticks silent

/-! ### Restore (R608, R744) -/

/-- DRAM after boot training: status of each fitted channel; without one of them the device runs without DRAM. -/
def Dev.dramBoot (d : Dev) (failed : List (Fin 8)) : Dev :=
  let g := d.dramGeo
  let bad := (List.range g.channels).filter fun ch => failed.any fun f => f.val == ch
  let good := (List.range g.channels).filter fun ch => !bad.contains ch
  let d1 := good.foldl (fun a ch => a.wrNat (Reg.DDR_CH_STAT ch) (1 + 2 + 4)) d
  let d2 := bad.foldl (fun a ch => (a.wrNat (Reg.DDR_CH_STAT ch) 1).raiseLog (Reg.pageDDRCH ch) 2 0) d1
  let mask := good.foldl (fun a ch => a + 2 ^ ch) 0
  let ready := bad = [] ∧ g.channels ≠ 0
  ((d2.wrNat Reg.DDR_STAT (mask + (if ready then 256 else 0) + b2n (bad != []) * 512 + (g.chBytes / 268435456) % 256 * 65536)).setFlag
    Reg.SYS_BOOT_STAT 10 (bad != []))

/-- An update after a restart (R721, R727): one that was VERIFYING, STAGED or ARMED is verified again, or receives the chunks it
lost; one in probation fails. -/
def Dev.updBoot (d : Dev) : Dev :=
  let u := d.upd.img
  let lost := d.temper.updLost
  let d0 : Dev := { d with temper := { d.temper with updLost := false } }
  if u.state = 0 then d0
  else if lost then d0.updKeep { u with state := 1, held := [], coord := none }
  else if 2 ≤ u.state ∧ u.state ≤ 4 then
    d0.updKeep { u with state := if d0.chunksComplete then 2 else 1, part := 0, coord := none }
  else if u.state = 5 ∨ u.state = 6 then
    let d1 := d0.updKeep { u with state := 6 }
    if d1.updDriver && d1.roleConfirmed then d1.probFail 0 else { d1 with upd := { d1.upd with failDue := true } }
  else if u.state = 7 ∧ (u.coord.any fun c => decide (d0.instantOf ⟨c.2.1, c.1, 1, 0⟩ ≤ d0.time)) = true then d0.rollbackCoordinate
  else d0

/-- SPI copies that are older or invalid are rewritten from the Chart in force (R741). -/
def Dev.spiRewrite (d : Dev) : Dev :=
  match d.hostif.chart with
  | none => d
  | some c =>
    let l := d.chartCopies
    let a := d.chartStale l 2 c
    let b := d.chartStale l 3 c
    let d1 : Dev := { d with hostif := { d.hostif with
      spiChartA := if a then some c else d.hostif.spiChartA
      spiChartB := if b then some c else d.hostif.spiChartB } }
    let d2 := if a then d1.logEvent Reg.pageSYS 0x22 2 else d1
    if b then d2.logEvent Reg.pageSYS 0x22 3 else d2

/-- The hash of the restored state against the Chart in force; the restored state stands (R608 step 6). -/
def Dev.hashCheck (d : Dev) : Dev :=
  match d.hostif.chart with
  | none => d
  | some c =>
    let d1 := if d.rd64 Reg.SYS_CHART_HASH_LO Reg.SYS_CHART_HASH_HI = c.hash then d else d.chartMismatch 6 0
    (d1.wrNat Reg.SYS_CHART_SEQ c.seq).wr64 Reg.SYS_CHART_HASH_LO Reg.SYS_CHART_HASH_HI c.hash

/-- RESTORE_COMPLETE. -/
def Dev.restoreDone (d : Dev) (failed : List (Fin 8)) (ms : Nat) : Dev :=
  if d.power.boot ≠ 2 then d
  else
    let d1 := ((d.hashCheck).applyAllPassed.updBoot).dramBoot failed
    let d2 := d1.engines.stores.foldl (fun a p => match p.2 with
      | none => a
      | some x => a.setStore p.1 (some (Store.fresh x.depth))) d1
    let d3 := ((((d2.surfRefresh).fsRefresh).hrtRefresh).fabShow).libShow
    let d4 := (d3.setFld Reg.CRU_STAT 8 0 0x1FF).wrNat Reg.CRU_CAP (min (d3.temper.libBytes / 2 ^ 30) 65535)
    let d5 := (d4.setFld Reg.SYS_BOOT_TIME 31 16 (min ms 65535)).setFlag Reg.SYS_BOOT_STAT 11 (d4.halState == 2)
    let d6 := if d5.flag Reg.SYS_BOOT_STAT 7 then d5 else (d5.jAppend [.resume 0]).spiRewrite
    ((d6.showLife d6.lifeNow).setMode (if d6.temper.warned.isSome then 2 else 0)).onPower fun p => { p with boot := 0 }

def execRestoreComplete (failed : List (Fin 8)) (ms : Nat) (s : State) := s.onDev fun d => d.restoreDone failed ms

/-! ### SYS_RESET_CTRL and the endpoint (R750, R752, R753) -/

/-- A warm reset takes effect at once, also in the halt of R739. -/
def Dev.warmReset (d : Dev) (find : BootFind) (w : Writer) : Dev :=
  if d.power.run ≠ .up ∧ d.power.run ≠ .halted then d
  else d.gated Reg.pageSYS 0x208 w fun d =>
    let x := d.straps
    (d.coldOut 3).boot x find

def execSysResetWarm (find : BootFind) (w : Writer) (s : State) := s.onAny fun d => d.warmReset find w

/-- The control cores restart from bank A: sessions close, bursts of M1 are completed, a probation fails. One that is requested
while another runs is refused with BUSY. -/
def Dev.coreRestart (d : Dev) : Dev :=
  if d.power.cores then d
  else
    let d1 := (d.wrNat Reg.SYS_RESET_CTRL 0x80000004).onPower fun p => { p with cores := true }
    ((d1.closeSessions).masterReset 1).probFail 0

def execSysResetCores (w : Writer) (s : State) := s.onDev fun d => d.gated Reg.pageSYS 0x208 w Dev.coreRestart

def execCoreRestartDone (s : State) :=
  s.onDev fun d => if d.power.cores then (d.setFlag Reg.SYS_RESET_CTRL 31 false).onPower fun p => { p with cores := false } else d

/-- PCI Express configuration and MSI-X go to their defaults. -/
def Dev.endpointReset (d : Dev) : Dev :=
  let d1 : Dev := { d with hostif := { d.hostif with msgEnable := false, msixTable := [], pba := 0 } }
  (d1.setFlag Reg.SYS_RESET_CAUSE 8 true).masterReset 0

def execEndpointReset (s : State) := s.onDev Dev.endpointReset

end Sys2Proof.Machine
end

