-- ==== Sys2Proof/Machine/Placement.lean ====
section
/-!
DEFINITION. The manager's side of hierarchy takes: the SN and DN map, the global table, the acceptance rules and decisions of
placement, takes, holds and salvos across the hierarchy (spec/10_fabric_and_placement.md, R390 to R407;
spec/11_hierarchy.md, R434 to R436, R440).
-/

namespace Sys2Proof.Machine

open Sys2Proof

/-! ### The map (R434) -/

/-- The position and local SRC of a source number. -/
def Dev.snOf (d : Dev) (n : Nat) : Option (Nat × Nat) :=
  let w := Sparse.get (fun _ => 0) d.hie.sn n
  if w / 2 ^ 31 % 2 = 1 then some (w / 2 ^ 10 % 128, w % 1024) else none

/-- The position and destination key of a destination number. -/
def dnKey (w : Nat) : Option (Nat × Nat) :=
  let i := w % 2048
  if w / 2 ^ 31 % 2 = 0 then none
  else if w / 2 ^ 18 % 2 = 1 then (if i < 192 then some (w / 2 ^ 11 % 128, 2048 + i) else none)
  else some (w / 2 ^ 11 % 128, i)
def Dev.dnOf (d : Dev) (n : Nat) : Option (Nat × Nat) := dnKey (Sparse.get (fun _ => 0) d.hie.dn n)

/-- The lowest DN that names a destination. -/
def Dev.lowestDn (d : Dev) (pos key : Nat) : Option Nat := (d.hie.dn.find? fun p => dnKey p.2 == some (pos, key)).map Prod.fst

/-- The message form of a destination key. -/
def refOf (key : Nat) : DestRef := if key < 2048 then .dst (Fin.ofNat 2048 key) else .circuit (Fin.ofNat 192 (key - 2048))

/-! ### The global table (R430, R440) -/

/-- The STATE entry of a destination of this device. -/
def Dev.stateEntry (d : Dev) (k : Nat) : RouteEntry :=
  let x := d.dst k
  let lastF := if k < 2048 then d.fld (Reg.TAKE_DST_LAST_F_LO k) 31 0 + d.fld (Reg.TAKE_DST_LAST_F_HI k) 15 0 * 2 ^ 32 else 0
  let ticket := if k < 2048 then d.fld (Reg.TAKE_DST_LAST_REASON k) 31 16 else 0
  let hold := x.hold.getD ⟨0, 0, 0⟩
  .state (refOf k) (x.src.map (Fin.ofNat 1024)) (x.src.isSome && x.src != x.primary)
    (if k < 2048 then d.live (Reg.TAKE_DST_BACKUP k) 9 0 else 0) (decide (k < 2048) && d.liveFlag (Reg.TAKE_DST_BACKUP k) 15)
    (decide (k < 2048) && d.liveFlag (Reg.TAKE_DST_BACKUP k) 16) hold.kind hold.cls hold.port (min x.flaps.length 15) x.latched lastF ticket

/-- The PENDING entries of a destination of this device. -/
def Dev.pendEntries (d : Dev) (k : Nat) : List RouteEntry :=
  (d.dst k).pend.map fun t => .pending (refOf k) (t.src.map (Fin.ofNat 1024)) t.cls t.port t.f (Fin.ofNat 8 (d.dstPlane k)) (t.ticket % 2 ^ 32)

/-- What a report says of a destination of a position, its pending takes kept. -/
def globalOf (pos : Nat) (pend : List TakeEntry) : RouteEntry → Option GlobalDst
  | .state ref src onBackup backup protEn protRevert hold cls port flaps latched lastF lastTicket =>
    some ⟨pos, ref.key, src.map Fin.val, onBackup, backup, protEn, protRevert, if hold = 0 then none else some ⟨hold, cls, port⟩, flaps,
      latched, lastF, lastTicket, pend⟩
  | _ => none

/-- What the manager knows of a destination; of its own it reads the Anvil. -/
def Dev.global (d : Dev) (pos key : Nat) : Option GlobalDst :=
  if pos = d.position then globalOf pos [] (d.stateEntry key)
  else d.hie.globals.find? fun g => g.pos == pos && g.key == key

/-- Keep what is known of a destination. -/
def Dev.setGlobal (d : Dev) (g : GlobalDst) : Dev :=
  { d with hie := { d.hie with globals := (d.hie.globals.filter fun x => !(x.pos == g.pos && x.key == g.key)) ++ [g] } }

/-- The STATE entry that puts a destination into the state of the global table. -/
def GlobalDst.entry (g : GlobalDst) : RouteEntry :=
  let h := g.hold.getD ⟨0, 0, 0⟩
  .state (refOf g.key) (g.src.map (Fin.ofNat 1024)) g.onBackup g.backup g.protEn g.protRevert h.kind h.cls h.port g.flaps g.latched g.lastF
    g.lastTicket

/-- A position can be reached: it has a role and is neither lost nor unreachable. -/
def Dev.reachable (d : Dev) (p : Nat) : Bool :=
  p == d.position || (d.roleOf p != 0xF && !(d.peer p).lost && !(d.peer p).unreachable)

/-- The frame and plane of a RESYNC: the next frame of the lowest plane that is on (R440). -/
def Dev.resyncFrame (d : Dev) : Nat × Fin 8 :=
  let tp := ((List.range 8).find? d.planeOn).getD 0
  ((d.coordNow tp).f + 1, Fin.ofNat 8 tp)

/-- Send RESYNC entries, 14 to a message. -/
def Dev.resyncSend (d : Dev) (p f : Nat) (tp : Fin 8) (l : List RouteEntry) : Dev :=
  if l = [] then d.tongsSendR p (.resync f tp []) true
  else (chunksOf 14 l.length l).foldl (fun a c => a.tongsSendR p (.resync f tp c) true) d

/-! ### Acceptance (R390 to R397) -/

/-- Share class of a fabric rate. -/
def shareClass (f : Nat) : Nat := min 256 (laneCapacity / max 1 f)

/-- The sum over classes of ceil(ceil(n_k ÷ m) ÷ k), for the classes of some crossings. -/
def lanesFor (m : Nat) (ks : List Nat) : Nat :=
  ks.eraseDups.foldl (fun a k => a + ceilDiv (ceilDiv (ks.filter fun x => x == k).length m) k) 0

/-- Lanes in billet service from a to b. -/
def bundleLanes (view : List Bundle) (a b : Nat) : Nat := ((view.find? fun x => x.a == a && x.b == b).map Bundle.lanes).getD 0

/-- Centres in service: each of their bundles has a lane in each direction. -/
def Dev.centresUp (d : Dev) (view : List Bundle) : List Nat :=
  (List.range 128).filter fun c => d.roleOf c == 2 && view.any (fun x => x.a == c || x.b == c) &&
    view.all fun x => (x.a != c && x.b != c) || x.lanes != 0

/-- Edges of the hierarchy. -/
def Dev.edges (d : Dev) : List Nat := (List.range 128).filter fun e => d.roleOf e == 1

/-- Classes of the crossings out of an edge, or into it. -/
def classesAt (l : List Crossing) (e : Nat) (into : Bool) : List Nat :=
  (l.filter fun c => if into then c.dstPos == e else c.srcPos == e).map fun c => shareClass c.rate

/-- The least number of lanes over the bundles between an edge and the centres in service. -/
def bundleMin (view : List Bundle) (up : List Nat) (e : Nat) (into : Bool) : Nat :=
  match up.map fun c => if into then bundleLanes view c e else bundleLanes view e c with
  | [] => 0
  | n :: t => t.foldl min n

/-- Left-hand side of rule D. -/
def Dev.ruleD (d : Dev) (m : Nat) (l : List Crossing) : Nat :=
  d.edges.foldl (fun a e =>
    let ks := classesAt l e false
    a + ks.eraseDups.foldl (fun b k => b + ceilDiv (ks.filter fun x => x == k).length m) 0) 0

/-- The rules of R394 beyond the devices' own limits: DETAIL of the one that fails. -/
def Dev.acceptDetail (d : Dev) (view : List Bundle) (l : List Crossing) : Option Nat :=
  if l.any fun c => decide (laneCapacity < c.rate) then some 6
  else if d.live Reg.FAB_CFG 5 4 = 1 then
    let pairs := (l.map fun c => (c.srcPos, c.dstPos)).eraseDups
    if pairs.any fun p =>
      decide (bundleLanes view p.1 p.2 ≤ lanesFor 1 ((l.filter fun c => c.srcPos == p.1 && c.dstPos == p.2).map fun c => shareClass c.rate))
    then some 4 else none
  else if d.live Reg.FAB_CFG 5 4 = 2 then
    let up := d.centresUp view
    let m := up.length
    let full := fun (e : Nat) (into : Bool) =>
      let ks := classesAt l e into
      ks != [] && (m == 0 || decide (bundleMin view up e into ≤ lanesFor m ks))
    if d.edges.any fun e => full e false || full e true then some 4
    else if 1008 < d.ruleD (max 1 m) l then some 5
    else none
  else if l = [] then none
  else some 4

/-- The manager's part of the FAB page (R407). -/
def Dev.placeShow (d : Dev) : Dev :=
  let l := d.hie.crossings.filter Crossing.placed
  let view := d.hie.view
  let up := d.centresUp view
  let m := max 1 up.length
  let e := d.fld Reg.FAB_PLACE_SEL 6 0
  let into := d.flag Reg.FAB_PLACE_SEL 8
  let here := l.filter fun c => if into then c.dstPos == e else c.srcPos == e
  let mesh := d.live Reg.FAB_CFG 5 4 == 1
  let ends := (here.map fun c => if into then c.srcPos else c.dstPos).eraseDups
  let need := if mesh then ends.foldl (fun a p =>
      max a (lanesFor 1 ((here.filter fun c => (if into then c.srcPos else c.dstPos) == p).map fun c => shareClass c.rate))) 0
    else lanesFor m (classesAt l e into)
  let has := if mesh then
      (match ends.map fun p => if into then bundleLanes view p e else bundleLanes view e p with
        | [] => 0
        | n :: t => t.foldl min n)
    else bundleMin view up e into
  let edgesUp := d.edges.filter fun p => view.any fun x => (x.a == p || x.b == p) && x.lanes != 0
  (((d.wrNat Reg.FAB_PLACE_STAT (min l.length 65535 + min (d.hie.crossings.length - l.length) 65535 * 65536)).wrNat Reg.FAB_PLACE_USE
    (min need 255 + min (has - 1) 255 * 256 + min here.length 65535 * 65536)).wrNat Reg.FAB_CENTRE_SRC
      (min (d.ruleD m l) 2047 + 1008 * 65536)).wrNat Reg.FAB_ARR_STAT (min up.length 255 + min edgesUp.length 255 * 256)

/-! ### Crossings and items (R392, R428) -/

/-- Send the items of one decision: journalled as one group; this device's own wait for their frame, the others leave in PLACE
messages of 17, LAST in the last to each position. -/
def Dev.placeSend (d : Dev) (l : List (Nat × PlaceItem)) : Dev :=
  if l = [] then d
  else
    let n := (d.hie.decision + 1) % 2 ^ 31
    let d1 := l.foldl (fun a x => a.crossLearn x.1 x.2) ({ d with hie := { d.hie with
      decision := n, placeDue := d.hie.placeDue ++ (l.filter fun x => x.1 == d.position).map Prod.snd } } : Dev)
    let d2 := d1.jAppend (l.mapIdx fun i x => .place n (i + 1 == l.length) x.1 x.2)
    (((l.map Prod.fst).eraseDups).filter fun p => p != d.position).foldl (fun a p =>
      let parts := chunksOf 17 l.length ((l.filter fun x => x.1 == p).map Prod.snd)
      (List.range parts.length).foldl (fun b i => b.tongsSend p (.place n (i + 1 == parts.length) (parts.getD i []))) a) d2

/-- Is a crossing needed by a take: one in force, pending, being journalled, not yet decided, or in a salvo that runs (R392)? -/
def Dev.crossUsed (d : Dev) (c : Crossing) : Bool :=
  let hits := fun (n : Option Nat) => n == some c.dstSrc
  let wants := fun (q : HieReq) => q.pos == c.dstPos && q.src == some (c.srcPos, c.src)
  d.hie.reqs.any wants || d.hie.salvos.any (fun s => s.members.any wants) ||
    (if c.dstPos = d.position then
      d.anvil.dsts.any (fun p => decide (p.1 < 2048) && (hits p.2.src || p.2.pend.any fun t => hits t.src)) ||
        d.journal.queue.any fun g => match g.effect with
          | .take k t _ _ => decide (k < 2048) && hits t.src
          | _ => false
    else d.hie.globals.any fun g => g.pos == c.dstPos && decide (g.key < 2048) && (hits g.src || g.pend.any fun e => hits (e.src.map Fin.val)))

/-- Crossings that no take needs any more end at the next frame of their plane. -/
def Dev.crossEnd (d : Dev) : Dev :=
  let gone := d.hie.crossings.filter fun c => !d.crossUsed c
  let items := gone.flatMap fun c => c.items.map fun x => (x.1, { x.2 with kind := 1, f := (d.coordNow c.tp).f + 1 })
  let d1 := d.placeSend items
  { d1 with hie := { d1.hie with crossings := d1.hie.crossings.filter fun c => !(c.items.isEmpty && !d1.crossUsed c) } }

/-- Order of re-placement (R406): crossings that feed a locked destination, a protected one, the others; then the lowest DN. -/
def Dev.crossRank (d : Dev) (c : Crossing) : Nat × Nat :=
  let fed := if c.dstPos = d.position then
      (d.anvil.dsts.filter fun p => p.2.src == some c.dstSrc).map fun p => ((p.2.hold.map Hold.kind).getD 0, p.1)
    else (d.hie.globals.filter fun g => g.pos == c.dstPos && g.src == some c.dstSrc).map fun g => ((g.hold.map Hold.kind).getD 0, g.key)
  let dn := (fed.map fun x => (d.lowestDn c.dstPos x.2).getD 65535).foldl min 65535
  (if fed.any fun x => x.1 == 2 then 0 else if fed.any fun x => x.1 == 1 then 1 else 2, dn)

/-- Put a crossing into the order. -/
def Dev.crossInsert (d : Dev) (c : Crossing) : List Crossing → List Crossing
  | [] => [c]
  | x :: t =>
    let a := d.crossRank c
    let b := d.crossRank x
    if a.1 < b.1 ∨ (a.1 = b.1 ∧ a.2 < b.2) then c :: x :: t else x :: d.crossInsert c t

/-- Unplaced crossings are placed again where the rules hold with the lanes and centres in service; one that has just lost its
place and does not fit is reported (R405, R406). -/
def Dev.replaceAll (d : Dev) (view : List Bundle) (choices : List PlaceChoice) (stopped : List Nat) : Dev :=
  let d0 : Dev := { d with hie := { d.hie with
    crossings := d.hie.crossings.map fun c => if stopped.contains c.num then { c with placed := false, items := [] } else c } }
  let todo := (d0.hie.crossings.filter fun c => !c.placed).foldl (fun l c => d0.crossInsert c l) []
  todo.foldl (fun a c =>
    let held := a.hie.crossings.filter Crossing.placed
    match choices.find? fun x => x.srcPos == c.srcPos && x.src == c.src && x.dstPos == c.dstPos with
    | some x =>
      if (a.acceptDetail view (held ++ [c])).isNone then a.placeSend (x.items.map fun y => (y.1, { y.2 with num := c.num }))
      else if stopped.contains c.num then a.raiseLog Reg.pageFAB 4 ((a.crossRank c).2 + c.srcPos * 65536) else a
    | none => if stopped.contains c.num then a.raiseLog Reg.pageFAB 4 ((a.crossRank c).2 + c.srcPos * 65536) else a) d0

/-! ### Results (R435, R436) -/

/-- A request on HIE_REQ ends or is accepted: its result, BUSY clear. -/
def Dev.hieEnd (d : Dev) (result reason detail : Nat) : Dev :=
  (d.wrNat Reg.HIE_REQ_RESULT (result % 8 + reason % 256 * 256 + detail % 65536 * 65536)).setFlag Reg.HIE_REQ_GO 31 false

/-- A salvo request ends or is accepted. -/
def Dev.hieSalvoEnd (d : Dev) (result reason idx : Nat) : Dev :=
  (d.wrNat Reg.HIE_SALVO_RESULT (result % 8 + reason % 256 * 256 + idx % 8192 * 65536)).setFlag Reg.HIE_SALVO_GO 31 false

/-! ### Salvos across the hierarchy (R436) -/

/-- The salvo of the Anvil that stands for a hierarchy salvo. -/
def hieSalvoId (ticket : Nat) : Nat := ticket + 2 ^ 32

/-- The members of a held salvo leave the pending takes. -/
def Dev.salvoRelease (d : Dev) (ticket result reason : Nat) : Dev :=
  let d1 := d.salvoEnd (hieSalvoId ticket) result reason
  { d1 with hie := { d1.hie with held := d1.hie.held.filter fun h => h.head.ticket != ticket } }

/-- SALVO_ABORT at a device with members: reason 0 is a cancel. -/
def Dev.salvoAbortHere (d : Dev) (ticket reason : Nat) : Dev :=
  if d.hie.held.any fun h => h.head.ticket == ticket then d.salvoRelease ticket (if reason = 0 then 5 else 2) reason else d

/-- SALVO_COMMIT at a device with members; one that comes after a lead limit is without effect. -/
def Dev.salvoCommitHere (d : Dev) (ticket : Nat) : Dev :=
  let mine := d.anvil.dsts.flatMap fun p => (p.2.pend.filter fun t => t.salvo == some (hieSalvoId ticket)).map fun t => (p.1, t)
  if mine = [] ∨ (mine.any fun x => !d.beforeLead x.1 x.2) = true then d
  else { d with hie := { d.hie with held := d.hie.held.map fun h => if h.head.ticket = ticket then { h with committed := true } else h } }

/-- The manager drops a salvo: every position with members is told, and the result shown. -/
def Dev.salvoDrop (d : Dev) (s : HieSalvo) (result reason idx : Nat) : Dev :=
  let d1 : Dev := { d with hie := { d.hie with salvos := d.hie.salvos.filter fun x => x.ticket != s.ticket } }
  let abort := if result = 5 then 0 else reason
  let d2 := s.positions.foldl (fun a p =>
    if p = a.position then a.salvoAbortHere s.ticket abort
    else a.tongsSend p (.salvoAbort ⟨s.ticket, s.f, s.tp, false, 0, 0⟩ abort)) d1
  d2.hieSalvoEnd result reason idx

/-- Replace a salvo on the manager. -/
def Dev.putSalvo (d : Dev) (s : HieSalvo) : Dev :=
  { d with hie := { d.hie with salvos := d.hie.salvos.map fun x => if x.ticket = s.ticket then s else x } }

/-- Every device is READY: COMMIT to all of them. -/
def Dev.salvoCommitAll (d : Dev) (s : HieSalvo) : Dev :=
  let d1 := d.putSalvo { s with committed := true, acked := s.positions.filter fun p => p == d.position }
  let d2 := s.positions.foldl (fun a p =>
    if p = a.position then a.salvoCommitHere s.ticket else a.tongsSend p (.salvoCommit ⟨s.ticket, s.f, s.tp, false, 0, 0⟩)) d1
  (d2.wrNat Reg.HIE_SALVO_TICKET s.ticket).hieSalvoEnd 1 0 0

/-- A device answers SALVO_PREP: READY is collected, a refusal refuses the salvo whole with the member's index in its list. -/
def Dev.salvoAnswer (d : Dev) (pos ticket f : Nat) (ready : Bool) (reason idx : Nat) : Dev :=
  match d.hie.salvos.find? fun s => s.ticket == ticket && !s.committed with
  | none => d
  | some s =>
    if !ready then
      let mine := s.members.filter fun m => m.pos == pos
      d.salvoDrop s 2 reason ((mine[idx]?.map HieReq.idx).getD 0)
    else if f ≠ s.f then d
    else
      let s1 := { s with ready := (s.ready ++ [pos]).eraseDups }
      if s.positions.all s1.ready.contains then d.salvoCommitAll s1 else d.putSalvo s1

/-- Check the members of a held salvo whose parts are all here, hold them, and say so (R358, R359). -/
def Dev.salvoHold (d : Dev) (h : HeldSalvo) (slipped : Bool) : Dev × Bool × Nat × Nat :=
  let l := ((List.range h.head.parts).flatMap fun i => ((h.parts.find? fun p => p.1 == i).map Prod.snd).getD [])
  let members := l.map fun e => (e.ref.key, e.src.map Fin.val)
  let port := ((l.head?).map TakeEntry.port).getD 0
  match d.salvoCheck members members.length (some h.head.f) h.head.tp.val 1 port with
  | some (reason, idx) =>
    ({ d with hie := { d.hie with held := d.hie.held.filter fun x => x.head.ticket != h.head.ticket } }, false, reason, idx)
  | none =>
    let s : Salvo := ⟨hieSalvoId h.head.ticket, 1, port, h.head.tp.val, h.head.f,
      members.map fun m => (m.1, m.2, d.memberFrame m.1 h.head.tp.val h.head.f)⟩
    let held := d.hie.held.map fun x => if x.head.ticket = h.head.ticket then { x with pended := true } else x
    ((({ d with hie := { d.hie with held := held } } : Dev).jAppend [.salvo s]).salvoPend s slipped, true, 0, 0)

/-- SALVO_PREP at a device: parts are collected; when all are here the members are checked and held. The same salvo named for
another frame has moved: its members slip. `none` while parts are missing; else READY, reason and index. -/
def Dev.salvoPrep (d : Dev) (p : SalvoHead) (l : List TakeEntry) : Dev × Option (Bool × Nat × Nat) :=
  let old := d.hie.held.find? fun h => h.head.ticket == p.ticket
  let moved := old.any fun h => h.head.f != p.f
  let d1 := if moved then
      (match old with
        | some h => if h.pended then d.salvoRelease p.ticket 6 0
            else { d with hie := { d.hie with held := d.hie.held.filter fun x => x.head.ticket != p.ticket } }
        | none => d)
    else d
  let h := (d1.hie.held.find? fun h => h.head.ticket == p.ticket).getD ⟨p, [], false, false⟩
  if h.pended then (d1, some (true, 0, 0))
  else
    let h1 := { h with parts := (h.parts.filter fun x => x.1 != p.part) ++ [(p.part, l)] }
    let d2 : Dev := { d1 with hie := { d1.hie with held := (d1.hie.held.filter fun x => x.head.ticket != p.ticket) ++ [h1] } }
    if h1.parts.length < p.parts then (d2, none)
    else
      let r := d2.salvoHold h1 moved
      (r.1, some r.2)

/-- The manager sends SALVO_PREP to every device with a member, 21 entries a part; its own members are held at once. -/
def Dev.salvoPrepAll (d : Dev) (s : HieSalvo) : Dev :=
  s.positions.foldl (fun a p =>
    let l := (s.members.filter fun m => m.pos == p).map fun m => { m.entry with f := s.f, tp := s.tp, now := false }
    let parts := chunksOf 21 l.length l
    if p = a.position then
      let r := a.salvoPrep ⟨s.ticket, s.f, s.tp, false, 0, 1⟩ l
      match r.2 with
      | some (ready, reason, idx) => r.1.salvoAnswer p s.ticket s.f ready reason idx
      | none => r.1
    else (List.range parts.length).foldl (fun b i =>
      b.tongsSend p (.salvoPrep ⟨s.ticket, s.f, s.tp, false, i, parts.length⟩ (parts.getD i []))) a) d

/-- SALVO_READY_DEADLINE: a missing READY moves the salvo whole to the next frame, and after 8 moves refuses it. -/
def Dev.salvoDeadline (d : Dev) (ticket : Nat) : Dev :=
  match d.hie.salvos.find? fun s => s.ticket == ticket && !s.committed with
  | none => d
  | some s =>
    if 8 ≤ s.moves then d.salvoDrop s 2 0x15 0
    else
      let s1 := { s with f := s.f + 1, moves := s.moves + 1, ready := [] }
      (d.putSalvo s1).salvoPrepAll s1

def execSalvoReadyDeadline (ticket : Nat) (s : State) := s.onDev fun d => d.salvoDeadline ticket

/-- SALVO_COMMIT_DEADLINE: a device that has not acknowledged COMMIT gets its members as RESYNC takes for the next frame. -/
def Dev.salvoSplit (d : Dev) (ticket pos : Nat) : Dev :=
  match d.hie.salvos.find? fun s => s.ticket == ticket && s.committed with
  | none => d
  | some s =>
    let waits := (d.peer pos).unacked.any fun u => match u.msg.body with
      | .salvoCommit h => h.ticket == ticket
      | _ => false
    if !waits || !s.positions.contains pos then d
    else
      let l := (s.members.filter fun m => m.pos == pos).map fun m =>
        RouteEntry.pending m.entry.ref m.entry.src 1 m.port (s.f + 1) s.tp s.ticket
      ((d.putSalvo { s with positions := s.positions.filter fun p => p != pos }).resyncSend pos (s.f + 1) s.tp l).raiseLog Reg.pageHIE 7 pos

def execSalvoCommitDeadline (ticket : Nat) (pos : Fin 128) (s : State) := s.onDev fun d => d.salvoSplit ticket pos.val

/-- Salvos whose frame has passed are over on the manager. -/
def Dev.salvoClean (d : Dev) : Dev :=
  { d with hie := { d.hie with salvos := d.hie.salvos.filter fun s => !(s.committed && decide (s.f + 1 < (d.coordNow s.tp.val).f)) } }

/-! ### Distribution (R346, R435) -/

/-- The target frame of a hierarchy take, and whether it slips: it must reach the manager 1 frame before its switch line, for
another position before the start of the frame in front of F. -/
def Dev.hieFrame (d : Dev) (q : HieReq) (n : Option Nat) (f tp : Nat) : Nat × Bool :=
  let own := q.pos == d.position
  let dp := if own then d.depthOf q.key n else 0
  let ready := fun (g : Nat) =>
    decide (dp + 1 ≤ g) && decide (d.time ≤ (if own then d.switchInstant q.key (g - dp - 1) else d.instantOf ⟨tp, g - 1, 1, 0⟩))
  let now := (d.coordNow tp).f + dp
  if ready f then (f, false) else if ready (now + 1) then (now + 1, true) else (now + 2, true)

/-- A placed take goes to its destination: to the Anvil of this device, or journalled and sent in a TAKE message. -/
def Dev.distribute (d : Dev) (q : HieReq) (n : Option Nat) : Dev :=
  let tp := q.entry.tp.val
  let r := match q.f with
    | some f => d.hieFrame q n f tp
    | none => (0, false)
  let f := q.f.map fun _ => r.1
  if q.pos = d.position then
    let d1 := d.takeRequest q.key n f tp 1 q.port (.tongs q.ticket) (some q.dn)
    if r.2 then d1.dstSticky q.key 0 1 q.port else d1
  else
    let e : TakeEntry := { q.entry with src := n.map (Fin.ofNat 1024), f := r.1, now := f.isNone }
    let t : PendTake := ⟨q.ticket, 1, q.port, n, r.1, r.2, none, false, some q.dn⟩
    let d1 := d.jAppend [.take elsewhere t]
    let d2 := match d1.global q.pos q.key with
      | some g => d1.setGlobal { g with pend := g.pend ++ [e] }
      | none => d1.setGlobal ⟨q.pos, q.key, none, false, 0, false, false, none, 0, false, 0, 0, [e]⟩
    d2.tongsSend q.pos (.take [e])

/-! ### Decisions (R397, R404) -/

/-- The crossing that a request needs: its source lies on another device. -/
def needsCrossing (q : HieReq) : Option (Nat × Nat) :=
  match q.src with
  | some (p, n) => if p = q.pos ∨ 2048 ≤ q.key then none else some (p, n)
  | none => none

/-- The crossing that already brings a stream to an edge. -/
def Dev.crossingFor (d : Dev) (p n pos : Nat) : Option Crossing := d.hie.crossings.find? fun c => c.srcPos == p && c.src == n && c.dstPos == pos

/-- The fabric rate of a chosen stream: that of this device's own source where it is one (R390). -/
def Dev.choiceRate (d : Dev) (x : PlaceChoice) : Nat :=
  if x.srcPos = d.position then
    match d.src x.src with
    | some s => s.rate + 2 * ceilDiv (rateMilli (d.planeRate s.tp)) 1000
    | none => x.rate
  else x.rate

/-- New crossings of some requests, in order and once each; `none` when no path is chosen for one of them. -/
def Dev.newCrossings (d : Dev) (choices : List PlaceChoice) : List HieReq → List Crossing → Option (List Crossing)
  | [], acc => some acc
  | q :: t, acc =>
    match needsCrossing q with
    | none => d.newCrossings choices t acc
    | some (p, n) =>
      if (d.crossingFor p n q.pos).isSome || acc.any fun c => c.srcPos == p && c.src == n && c.dstPos == q.pos then d.newCrossings choices t acc
      else match choices.find? fun x => x.srcPos == p && x.src == n && x.dstPos == q.pos with
        | none => none
        | some x =>
          let num := ((d.hie.crossings ++ acc).map Crossing.num).foldl max 0 + 1
          d.newCrossings choices t (acc ++ [⟨num, p, n, x.tp, d.choiceRate x, q.pos, x.dstSrc, true, x.items.map fun y => (y.1, { y.2 with num := num })⟩])

/-- The source of a request as its destination's device knows it. -/
def Dev.localSrc (d : Dev) (q : HieReq) : Option Nat :=
  match q.src with
  | none => none
  | some (p, n) => if p = q.pos ∨ 2048 ≤ q.key then some n else some (((d.crossingFor p n q.pos).map Crossing.dstSrc).getD 0)

/-- The requests decided together: the oldest, or the whole salvo it belongs to. -/
def Dev.oldest (d : Dev) : List HieReq :=
  match d.hie.reqs with
  | [] => []
  | q :: _ => if q.salvo.isNone then [q] else d.hie.reqs.filter fun x => x.salvo == q.salvo

/-- A decided request whose rules fail is refused. -/
def Dev.decideNo (d : Dev) (q : HieReq) (detail : Nat) : Dev :=
  match q.salvo with
  | some _ => d.hieSalvoEnd 2 9 q.idx
  | none => d.hieEnd 2 9 detail

/-- A salvo that is placed starts its first phase. -/
def Dev.salvoBegin (d : Dev) (ticket : Nat) (l : List HieReq) : Dev :=
  let tp := ((l.head?).map fun q => q.entry.tp).getD 0
  let now := (d.coordNow tp.val).f
  let f0 := ((l.head?).bind HieReq.f).getD (now + 2)
  let f := if d.time ≤ d.instantOf ⟨tp.val, f0 - 1, 1, 0⟩ then f0 else now + 2
  let ms := l.map fun q => { q with entry := { q.entry with src := (d.localSrc q).map (Fin.ofNat 1024), ticket := ticket } }
  let s : HieSalvo := ⟨ticket, tp, f, ms, (l.map HieReq.pos).eraseDups, [], [], 0, false, 1, ((l.head?).map HieReq.port).getD 0⟩
  ({ d with hie := { d.hie with salvos := d.hie.salvos ++ [s] } } : Dev).salvoPrepAll s

/-- A decided request whose rules hold: its new crossings are placed, then it is distributed. -/
def Dev.decideYes (d : Dev) (l : List HieReq) (new : List Crossing) (extra : List (Nat × PlaceItem)) : Dev :=
  let d1 := d.placeSend (new.flatMap Crossing.items ++ extra)
  -- the exact fabric rates, which the items do not carry
  let exact := fun (c : Crossing) => match new.find? fun x => x.num == c.num with
    | some x => { x with items := c.items }
    | none => c
  let d2 : Dev := { d1 with hie := { d1.hie with crossings := d1.hie.crossings.map exact } }
  match l with
  | [] => d2
  | q :: _ =>
    match q.salvo with
    | some t => d2.salvoBegin t l
    | none => ((d2.wrNat Reg.HIE_REQ_TICKET q.ticket).hieEnd 1 0 0).distribute q (d2.localSrc q)

/-- PLACEMENT_DECIDE: crossings that have ended are dropped, those that lost a lane are placed again, then the oldest request is
decided. A request for which placement has chosen no path waits. -/
def Dev.placeDecide (d : Dev) (us : Nat) (view : List Bundle) (unfit : List (Nat × Nat)) (choices : List PlaceChoice)
    (extra : List (Nat × PlaceItem)) (stopped : List Nat) : Dev :=
  if !d.isManager || d.isStandby || !d.roleConfirmed then d
  else
    let d0 : Dev := { d with hie := { d.hie with view := view } }
    let d1 := (d0.salvoClean.crossEnd).replaceAll view choices stopped
    let l := d1.oldest
    if l = [] then (d1.placeSend extra).placeShow
    else match d1.newCrossings choices l [] with
      | none => d1.placeShow
      | some new =>
        let d2 : Dev := { d1 with hie := { d1.hie with reqs := d1.hie.reqs.filter fun q => !l.contains q } }
        let d3 := d2.wrNat Reg.FAB_PLACE_LAST (us + min l.length 65535 * 65536)
        let touched := l.map HieReq.pos ++ l.filterMap fun q => q.src.map Prod.fst
        let first := l.head?
        match first, unfit.find? fun u => touched.contains u.1 with
        | none, _ => d3.placeShow
        | some q, some u => (d3.decideNo q u.2).placeShow
        | some q, none =>
          match d3.acceptDetail view (d3.hie.crossings.filter Crossing.placed ++ new) with
          | some detail => (d3.decideNo q detail).placeShow
          | none => (d3.decideYes l new extra).placeShow

def execPlacementDecide (us : Fin 65536) (view : List Bundle) (unfit : List (Nat × Nat)) (choices : List PlaceChoice)
    (extra : List (Nat × PlaceItem)) (stopped : List Nat) (s : State) :=
  s.onDev fun d => d.placeDecide us.val view unfit choices extra stopped

/-! ### Requests on the HIE page (R435, R436, R444) -/

/-- A write of HIE_REQ_GO: on a device that is not the manager its result is NOT_MANAGER, on a standby STANDBY. -/
def Dev.hieGo (d : Dev) (w : Writer) (f : Dev → Dev) : Dev :=
  match d.gate Reg.pageHIE 0x084 w with
  | .ignored => d
  | .violation => d.ownerViol Reg.pageHIE 0x084 w
  | .standby => ((d.bump Reg.TWN_STBY_WR 31 0).raise Reg.pageTWN 9 0).hieEnd 2 0x16 0
  | .open_ =>
    if d.flag Reg.HIE_REQ_GO 31 then d
    else if !d.isManager then d.hieEnd 4 0 0
    else f (d.wrNat Reg.HIE_REQ_GO 0x80000001)

/-- DN, SN (`none` for CLEAR), frame (`none` for NOW) and plane of the request registers. -/
def Dev.hieDn (d : Dev) : Nat := d.fld Reg.HIE_REQ_DN 15 0
def Dev.hieSn (d : Dev) : Option Nat := if d.flag Reg.HIE_REQ_SN 31 then none else some (d.fld Reg.HIE_REQ_SN 15 0)
def Dev.hieF (d : Dev) : Option Nat :=
  if d.flag Reg.HIE_REQ_F_HI 24 then none else some (d.fld Reg.HIE_REQ_F_LO 31 0 + d.fld Reg.HIE_REQ_F_HI 15 0 * 2 ^ 32)
def Dev.hieTp (d : Dev) : Fin 8 := Fin.ofNat 8 (d.fld Reg.HIE_REQ_F_HI 18 16)

/-- The checks of a hierarchy take that the manager can make, in the order of R343: reason and DETAIL. Those of the destination's
own configuration are made by its device. -/
def Dev.hieCheck (d : Dev) (dn : Nat) (sn f : Option Nat) (tp port : Nat) : Option (Nat × Nat) :=
  if !d.datapathOn || d.sealing then some (0x10, 0)
  else if d.flag Reg.HIE_ROLE 3 || !d.roleConfirmed then some (0x15, 0)
  else match d.dnOf dn with
    | none => some (0x02, 0)
    | some (pos, key) =>
      if !d.reachable pos then some (0x15, 0)
      else
        let src := sn.bind d.snOf
        if sn.isSome && src.isNone then some (0x01, 0)
        else if src.any fun s => !d.reachable s.1 then some (0x15, 0)
        else if pos = d.position then
          let own := match src with
            | some (p, n) => if p = pos ∨ 2048 ≤ key then some n else none
            | none => none
          d.takeCheck key own f tp 1 port
        else
          let g := d.global pos key
          let hold := g.bind GlobalDst.hold
          if heldByOther hold 2 1 port then some (0x03, 0)
          else if heldByOther hold 1 1 port then some (0x04, 0)
          else if 8 ≤ (g.map fun g => g.pend.length).getD 0 then some (0x0A, 0)
          else if f.any fun f => d.tooFar tp f then some (0x0B, 0)
          else none

/-- A request that placement is to decide. -/
def Dev.hieReq (d : Dev) (ticket dn : Nat) (sn f : Option Nat) (tp : Fin 8) (port : Nat) (salvo : Option Nat) (idx : Nat) : HieReq :=
  let k := (d.dnOf dn).getD (0, 0)
  ⟨ticket, dn, k.1, k.2, sn.bind d.snOf, 1, port, f, ⟨refOf k.2, none, f.getD 0, tp, f.isNone, port, ticket⟩, salvo, idx⟩

/-- HIE_REQ TAKE: checked, then it waits for placement. -/
def Dev.hieTake (d : Dev) (w : Writer) : Dev :=
  match d.hieCheck d.hieDn d.hieSn d.hieF d.hieTp.val w.port with
  | some (reason, detail) => d.hieEnd 2 reason detail
  | none =>
    let q := d.hieReq d.anvil.nextTicket d.hieDn d.hieSn d.hieF d.hieTp w.port none 0
    let d1 := d.nextTicket
    { d1 with hie := { d1.hie with reqs := d1.hie.reqs ++ [q] } }

def execHieReqTake (w : Writer) (s : State) := s.onDev fun d => d.hieGo w fun d => d.hieTake w

/-- HIE_REQ CANCEL: a request not yet decided ends at once; a take of this device is cancelled in its Anvil; one sent to another
position by a CANCEL entry. -/
def Dev.hieCancel (d : Dev) (w : Writer) : Dev :=
  let fits := fun (f : Option Nat) => d.hieF.isNone || f == d.hieF
  match d.hie.reqs.find? fun q => q.dn == d.hieDn && q.port == w.port && q.salvo.isNone && fits q.f with
  | some q => ({ d with hie := { d.hie with reqs := d.hie.reqs.filter fun x => x != q } } : Dev).hieEnd 5 0 0
  | none =>
    match d.dnOf d.hieDn with
    | none => d.hieEnd 2 0x12 0
    | some (pos, key) =>
      if !d.reachable pos then d.hieEnd 2 0x15 0
      else if pos = d.position then
        match (d.dst key).pend.find? fun t => t.cls == 1 && t.port == w.port && t.salvo.isNone && fits (some t.f) with
        | none => d.hieEnd 2 0x12 0
        | some t => ((d.wrNat Reg.HIE_REQ_TICKET t.ticket).hieEnd 1 0 0).cancelRequest key (some t.f) 1 w.port (.tongs t.ticket)
      else
        match (d.global pos key).bind fun g => g.pend.find? fun e => e.port == w.port && fits (some e.f) with
        | none => d.hieEnd 2 0x12 0
        | some e =>
          let r := d.resyncFrame
          ((d.wrNat Reg.HIE_REQ_TICKET e.ticket).hieEnd 1 0 0).resyncSend pos r.1 r.2 [.cancel e.ref e.ticket]

def execHieReqCancel (w : Writer) (s : State) := s.onDev fun d => d.hieGo w fun d => d.hieCancel w

/-- Why a hold (kind 1 or 2) or a release (`give`, kind 3 FORCE_RELEASE) is refused, from the hold that the global table shows
(R353, R354). -/
def globalHoldBad (h : Option Hold) (kind port : Nat) (give : Bool) : Option Nat :=
  match h with
  | none => if give then some 0x12 else none
  | some o =>
    let own := o.cls == 1 && o.port == port
    if give then
      (if (if kind = 3 then (o.kind == 2 && port == 0) || (o.kind == 1 && decide (1 ≤ classRank o.cls))
          else o.kind == kind && (own || (kind == 1 && decide (1 ≤ classRank o.cls)))) then none else some 0x13)
    else if own then none else some 0x13

/-- Class with which a hierarchy request acts on this device's own destination: MANAGER, but FORCE_RELEASE of a LOCK is the
host's at port 0 (R353). -/
def Dev.forceCls (d : Dev) (key kind port : Nat) : Nat :=
  if kind = 3 ∧ port = 0 ∧ (d.heldBy key).any (fun h => h.kind == 2) = true then 0 else 1

/-- HIE_REQ LOCK, PROTECT, UNLOCK, UNPROTECT, FORCE_RELEASE: passed to the destination's device, to another position by a STATE
entry with the new hold. -/
def Dev.hieHold (d : Dev) (w : Writer) (kind : Nat) (give : Bool) : Dev :=
  match d.dnOf d.hieDn with
  | none => d.hieEnd 2 0x02 0
  | some (pos, key) =>
    if d.flag Reg.HIE_ROLE 3 || !d.roleConfirmed || !d.reachable pos then d.hieEnd 2 0x15 0
    else if d.sealing then d.hieEnd 2 0x10 0
    else
      let ticket := d.anvil.nextTicket
      let d1 := (d.nextTicket).wrNat Reg.HIE_REQ_TICKET ticket
      if pos = d.position then
        let cls := d.forceCls key kind w.port
        let d2 := d1.hieEnd 1 0 0
        if give then d2.releaseRequest key kind cls w.port (.tongs ticket) else d2.holdRequest key kind cls w.port (.tongs ticket)
      else match d1.global pos key with
        | none => d1.hieEnd 2 0x15 0
        | some g =>
          match globalHoldBad g.hold kind w.port give with
          | some reason => d1.hieEnd 2 reason 0
          | none =>
            let g1 := { g with hold := if give then none else some ⟨kind, 1, w.port⟩ }
            let r := d1.resyncFrame
            ((d1.setGlobal g1).hieEnd 1 0 0).resyncSend pos r.1 r.2 [g1.entry]

def execHieReqLock (w : Writer) (s : State) := s.onDev fun d => d.hieGo w fun d => d.hieHold w 2 false
def execHieReqUnlock (w : Writer) (s : State) := s.onDev fun d => d.hieGo w fun d => d.hieHold w 2 true
def execHieReqProtect (w : Writer) (s : State) := s.onDev fun d => d.hieGo w fun d => d.hieHold w 1 false
def execHieReqUnprotect (w : Writer) (s : State) := s.onDev fun d => d.hieGo w fun d => d.hieHold w 1 true
def execHieReqForceRelease (w : Writer) (s : State) := s.onDev fun d => d.hieGo w fun d => d.hieHold w 3 true

/-- A write of HIE_SALVO_GO. -/
def Dev.hieSalvoGate (d : Dev) (w : Writer) (v : Nat) (f : Dev → Dev) : Dev :=
  match d.gate Reg.pageHIE 0x0A4 w with
  | .ignored => d
  | .violation => d.ownerViol Reg.pageHIE 0x0A4 w
  | .standby => ((d.bump Reg.TWN_STBY_WR 31 0).raise Reg.pageTWN 9 0).hieSalvoEnd 2 0x16 0
  | .open_ =>
    if d.flag Reg.HIE_SALVO_GO 31 then d
    else if !d.isManager then d.hieSalvoEnd 4 0 0
    else f ((d.wrNat Reg.HIE_SALVO_GO v).setFlag Reg.HIE_SALVO_GO 31 true)

/-- An entry of the list: DN and SN, `none` for CLEAR. -/
def hieEntry (l : List Byte) : Nat × Option Nat :=
  (natLE (l.take 2), if natLE ((l.drop 4).take 1) % 2 = 1 then none else some (natLE ((l.drop 2).take 2)))

/-- HIE_SALVO: the list is read, every member checked as a take; then it waits for placement. -/
def Dev.hieSalvo (d : Dev) (m : Mem) (dram : Bool) (w : Writer) : Dev :=
  let count := d.fld Reg.HIE_SALVO_COUNT 12 0
  let addr := d.rd64 Reg.HIE_SALVO_ADDR_LO Reg.HIE_SALVO_ADDR_HI
  let f := if d.flag Reg.HIE_SALVO_F_HI 24 then none else some (d.fld Reg.HIE_SALVO_F_LO 31 0 + d.fld Reg.HIE_SALVO_F_HI 15 0 * 2 ^ 32)
  let tp : Fin 8 := Fin.ofNat 8 (d.fld Reg.HIE_SALVO_F_HI 18 16)
  if count = 0 ∨ 4096 < count then d.hieSalvoEnd 2 0x0D 0
  else
    let l := (List.range count).map fun i => hieEntry (m.bytes dram (addr + 8 * i) 8)
    match firstDup [] 0 (l.map Prod.fst) with
    | some i => d.hieSalvoEnd 2 0x0F i
    | none =>
      let bad := (List.range count).findSome? fun i =>
        let e := l.getD i (0, none)
        (d.hieCheck e.1 e.2 none tp.val w.port).map fun r => (r.1, i)
      match bad with
      | some (reason, i) => d.hieSalvoEnd 2 reason i
      | none =>
        if f.any fun f => d.tooFar tp.val f then d.hieSalvoEnd 2 0x0B 0
        else
          let t := d.anvil.nextTicket
          let new := (List.range count).map fun i =>
            let e := l.getD i (0, none)
            d.hieReq t e.1 e.2 f tp w.port (some t) i
          let d1 := d.nextTicket
          { d1 with hie := { d1.hie with reqs := d1.hie.reqs ++ new } }

def execHieSalvoGo (dram : Bool) (cells : List Host.Cell) (w : Writer) (s : State) :=
  s.onDevHost cells fun m d => d.hieSalvoGate w (1 + b2n dram * 2) fun d => d.hieSalvo m dram w

/-- HIE_SALVO CANCEL: until the frame of the salvo starts. -/
def Dev.hieSalvoCancel (d : Dev) : Dev :=
  let t := (d.rd Reg.HIE_SALVO_TICKET).toNat
  if d.hie.reqs.any fun q => q.salvo == some t then
    ({ d with hie := { d.hie with reqs := d.hie.reqs.filter fun q => q.salvo != some t } } : Dev).hieSalvoEnd 5 0 0
  else match d.hie.salvos.find? fun s => s.ticket == t with
    | none => d.hieSalvoEnd 2 0x12 0
    | some s => if d.time < d.instantOf ⟨s.tp.val, s.f, 1, 0⟩ then d.salvoDrop s 5 0 0 else d.hieSalvoEnd 2 0x11 0

def execHieSalvoCancel (w : Writer) (s : State) := s.onDev fun d => d.hieSalvoGate w 5 Dev.hieSalvoCancel

end Sys2Proof.Machine
end

