-- ==== Sys2Proof/Machine/Hierarchy.lean ====
section
/-!
DEFINITION. Receiving Tongs messages and acting on them, roles and role epochs, worker reports, loss and return, the SN and DN map
(spec/11_hierarchy.md, R409 to R445).
-/

namespace Sys2Proof.Machine

open Sys2Proof

/-- Change the hierarchy's own state. -/
def Dev.onHie (d : Dev) (f : Hie → Hie) : Dev := { d with hie := f d.hie }

/-- Change what is kept of a peer. -/
def Dev.updPeer (d : Dev) (p : Nat) (f : Peer → Peer) : Dev := d.setPeer p (f (d.peer p))

/-- The position at the far end of a lane, as its LANE_ID blocks say (R385). -/
def Dev.farPos (d : Dev) (lane : Nat) : Nat := d.fld (Reg.FAB_LN_STAT lane) 14 8

/-- HIE_PEER_STAT of the position that HIE_PEER_SEL names (R444). -/
def Dev.peerShow (d : Dev) : Dev :=
  let p := d.fld Reg.HIE_PEER_SEL 6 0
  let x := d.peer p
  let st := if x.lost then 2 else if x.unreachable then 3 else if x.heard then 1 else 0
  d.wrNat Reg.HIE_PEER_STAT (st + d.roleOf p % 4 * 4 + x.hops % 8 * 16 +
    (if x.heard then min ((d.nowNs - x.lastNs) / 1000000000) 65535 else 0) * 65536)

/-! ### Time transfer and paths (R117, R419) -/

/-- TIME_XFER_RX: a REQ block shows the lane on which its position is reached. -/
def Dev.timeBlock (d : Dev) (lane : Nat) (x : TimeXfer) (ingress : Int) : Dev :=
  let d1 := match x with
    | .req _ => if d.isFabric lane && d.fabIdOk lane then d.updPeer (d.farPos lane) fun y => { y with lane := some lane, hops := 1 } else d
    | .resp _ _ _ => d
  d1.timeXferRx lane x ingress

def execTimeXferRx (lane : Fin 192) (x : TimeXfer) (ingress : Int) (s : State) := s.onDev fun d => d.timeBlock lane.val x ingress

/-- The lane on which a message for another position goes on (R419). -/
def Dev.relayLane (d : Dev) (p : Nat) : Option Nat :=
  if p = d.managerPos then (if d.flag Reg.PTP_TT_STAT 12 then some (d.fld Reg.PTP_TT_STAT 7 0) else none) else (d.peer p).lane

/-- A message for another position goes on unchanged, its TAG unchecked. -/
def Dev.relay (d : Dev) (m : TongsMsg) : Dev :=
  if d.halState = 2 ∨ d.isStandby = true ∨ d.twnState = 5 then d
  else match d.relayLane m.dstPos with
    | none => d
    | some l => (d.send (.tongs (some l) m)).bump Reg.HIE_CNT_FWD 31 0

/-! ### Entitlement (R425, R426) -/

/-- Does the manager send messages of this kind, or a worker? -/
def sentByManager : TongsBody → Bool
  | .take _ => true
  | .salvoPrep _ _ => true
  | .salvoCommit _ => true
  | .salvoAbort _ _ => true
  | .place _ _ _ => true
  | .routeQuery _ _ => true
  | .bulk _ _ _ _ _ => true
  | .chartCommit _ _ _ _ _ _ => true
  | .resync _ _ _ => true
  | .update u => u.op == 1 || u.op == 4 || u.op == 6 || u.op == 8 || u.op == 9
  | _ => false

/-- May this device send the message to a position under the role table in force? -/
def Dev.entitled (d : Dev) (p : Nat) (b : TongsBody) : Bool :=
  if sentByManager b then d.isManager && d.roleOf p != 0xF else !d.isManager && p == d.managerPos

/-- Is a kind of message exempt from the epoch comparison (R424)? -/
def epochExempt : TongsBody → Bool
  | .ack => true
  | .nakRole _ _ _ _ => true
  | .roleQuery => true
  | .roleSet _ => true
  | _ => false

/-- Issue again what a NAK_ROLE turned away, as far as this device may still send it. -/
def Dev.reissue (d : Dev) (p : Nat) : Dev :=
  let l := (d.peer p).again
  if l = [] then d
  else (l.filter (d.entitled p)).foldl (fun a b => a.tongsSendR p b (match b with
    | .resync _ _ _ => true
    | _ => false)) (d.updPeer p fun x => { x with again := [] })

/-! ### Building the global table (R441) -/

/-- BUILDING clears once every reachable worker has reported. -/
def Dev.buildCheck (d : Dev) : Dev :=
  if d.flag Reg.HIE_ROLE 3 && d.otherPositions.all fun p => d.hie.reported.contains p || !d.reachable p
  then d.setFlag Reg.HIE_ROLE 3 false else d

/-! ### Adopting a role table (R413, R414, R425, R433, R727) -/

/-- The requests not yet distributed end UNREACHABLE. -/
def Dev.endRequests (d : Dev) : Dev :=
  let one := d.hie.reqs.any fun q => q.salvo.isNone
  let many := d.hie.reqs.any (fun q => q.salvo.isSome) || d.hie.salvos.any fun s => !s.committed
  let d1 := (d.hie.salvos.filter fun s => !s.committed).foldl (fun a s => a.salvoAbortHere s.ticket 0x15)
    (d.onHie fun h => { h with reqs := [], salvos := h.salvos.filter HieSalvo.committed })
  let d2 := if one then d1.hieEnd 2 0x15 0 else d1
  if many then d2.hieSalvoEnd 2 0x15 0 else d2

/-- Candidate 7 of a manager reads HIER_ON_MANAGER (R60). -/
def Dev.parentReason (d : Dev) : Dev :=
  if d.isManager && d.rankOf 7 != 15 then d.setFld (Reg.REF_CAND_STAT 7) 3 0 9 else d

/-- A role table comes into force. -/
def Dev.adopt (d : Dev) (t : RoleTable) : Dev :=
  let wasManager := d.isManager
  let d1 := ((d.setTable t).logEvent Reg.pageHIE 0x20 t.epoch).jAppend [.role t]
  let d2 := (if wasManager then d1.disqualify 7 8 else d1.ttLost).parentReason
  let d3 := d2.updNewEpoch
  let d4 := if wasManager ∧ t.manager ≠ d.position then (d3.endRequests.setFlag Reg.HIE_ROLE 3 false).raise Reg.pageHIE 3 0 else d3
  d4.otherPositions.foldl (fun a p => a.reissue p) d4

/-- The role is confirmed (R415): the manager asks the workers for their routes, and a device that failed its probation in a
restart says so (R721). -/
def Dev.confirm (d : Dev) : Dev :=
  if d.roleConfirmed then d
  else
    let d1 := d.setConfirmed
    let d2 := if d1.isManager then d1.otherPositions.foldl (fun a p => a.tongsSend p (.routeQuery 0 0)) d1 else d1
    if d2.upd.failDue then ({ d2 with upd := { d2.upd with failDue := false } } : Dev).probFail 0 else d2

/-- NAK_ROLE with this device's position, role, epoch and manager. -/
def Dev.nakSend (d : Dev) (p : Nat) : Dev :=
  (d.tongsSend p (.nakRole d.position (d.fld Reg.HIE_ROLE 1 0) d.epoch d.managerPos)).raise Reg.pageHIE 1 0

/-- ROLE_SET: a higher epoch is adopted; one's own with another table is a conflict, with the same table from the manager it
confirms the role; a lower one is answered with NAK_ROLE. -/
def Dev.roleSetRx (d : Dev) (p : Nat) (t : RoleTable) : Dev :=
  if d.epoch < t.epoch then d.adopt t
  else if t.epoch < d.epoch then d.nakSend p
  else if t.manager = d.managerPos ∧ (List.range 128).all (fun i => t.roles.getD i 0xF == d.roleOf i) = true then
    (if p = d.managerPos then d.confirm else d)
  else d.raise Reg.pageHIE 2 0

/-- NAK_ROLE: a higher epoch is asked for at the manager it names; to a lower one the manager sends its table, then the
message again. -/
def Dev.nakRx (d : Dev) (p epoch manager : Nat) : Dev :=
  let d1 := d.raise Reg.pageHIE 1 0
  if d.epoch < epoch then d1.tongsSend manager .roleQuery
  else if epoch < d.epoch ∧ d.isManager = true then (d1.tongsSend p (.roleSet d1.hie.table)).reissue p
  else d1

/-! ### Reports and RESYNC (R430, R440) -/

/-- The entries of a report: every destination and circuit in use, or those from a first one on. -/
def Dev.reportEntries (d : Dev) (first count : Nat) : List RouteEntry :=
  let keys := if count = 0 then List.range 2240 else (List.range count).map fun i => first + i
  (keys.filter fun k => d.dstEnabled k || d.dst k != Dst.reset).flatMap fun k => d.stateEntry k :: d.pendEntries k

/-- ROUTE_REPORT, 14 entries a message. -/
def Dev.reportSend (d : Dev) (first count : Nat) : Dev :=
  let l := d.reportEntries first count
  let parts := if l = [] then [[]] else chunksOf 14 l.length l
  (List.range parts.length).foldl (fun a i => a.tongsSend a.managerPos (.routeReport i parts.length (parts.getD i []))) d

/-- The MANAGER takes that a report shows pending on a destination. -/
def reportedPend (l : List RouteEntry) (key : Nat) : List TakeEntry :=
  l.filterMap fun e => match e with
    | .pending ref src cls port f tp ticket => if ref.key = key ∧ cls = 1 then some ⟨ref, src, f, tp, false, port, ticket⟩ else none
    | _ => none

/-- Do two views of a destination agree on what a STATE entry replaces? -/
def GlobalDst.same (a b : GlobalDst) : Bool :=
  a.src == b.src && a.onBackup == b.onBackup && a.backup == b.backup && a.protEn == b.protEn && a.protRevert == b.protRevert &&
    a.hold == b.hold && a.flaps == b.flaps && a.latched == b.latched

/-- Compare one reported destination with the global table: what is new is learned, a difference is answered with RESYNC entries
and logged. A destination that the DN map lacks keeps its local state. -/
def Dev.reportCompare (d : Dev) (p : Nat) (l : List RouteEntry) (e : RouteEntry) : Dev × List RouteEntry :=
  match e with
  | .state ref _ _ _ _ _ _ _ _ _ _ _ _ =>
    let key := ref.key
    let pend := reportedPend l key
    match globalOf p pend e, d.global p key, d.lowestDn p key with
    | some new, some g, some dn =>
      if d.flag Reg.HIE_ROLE 3 then (d.setGlobal new, [])
      else
        let state := if g.same new then [] else [g.entry]
        let add := (g.pend.filter fun t => !pend.any fun u => u.ticket == t.ticket && u.src == t.src && u.f == t.f && !t.now).map fun t =>
          RouteEntry.pending t.ref t.src 1 t.port t.f t.tp t.ticket
        let drop := (pend.filter fun u => !g.pend.any fun t => t.ticket == u.ticket).map fun u => RouteEntry.cancel u.ref u.ticket
        let diff := state ++ add ++ drop
        if diff = [] then (d, []) else (d.raiseLog Reg.pageHIE 8 dn, diff)
    | some new, _, _ => (d.setGlobal new, [])
    | none, _, _ => (d, [])
  | _ => (d, [])

/-- A report is complete. -/
def Dev.reportDone (d : Dev) (p : Nat) (l : List RouteEntry) : Dev :=
  let r := l.foldl (fun a e =>
    let x := a.1.reportCompare p l e
    (x.1, a.2 ++ x.2)) (d, ([] : List RouteEntry))
  let at0 := r.1.resyncFrame
  ((r.1.resyncSend p at0.1 at0.2 r.2).onHie fun h => { h with reported := (h.reported ++ [p]).eraseDups }).buildCheck

/-- ROUTE_REPORT on the manager: parts arrive in order. -/
def Dev.reportRx (d : Dev) (p part parts : Nat) (l : List RouteEntry) : Dev :=
  let had := if part = 0 then [] else (d.hie.reports.filter fun x => x.1 == p).map Prod.snd
  let all := had ++ l
  let rest := d.hie.reports.filter fun x => x.1 != p
  if part + 1 < parts then d.onHie fun h => { h with reports := rest ++ all.map fun e => (p, e) }
  else (d.onHie fun h => { h with reports := rest }).reportDone p all

/-- PENDING of a RESYNC: the take is added, or replaces the one with the same ticket. -/
def Dev.resyncPend (d : Dev) (k : Nat) (n : Option Nat) (cls port f ticket : Nat) : Dev :=
  let d1 := d.updDst k fun x => { x with pend := x.pend.filter fun t => !(t.cls == 1 && t.ticket % 2 ^ 32 == ticket) }
  let d2 := d1.onHie fun h => { h with held := h.held.filter fun y => y.head.ticket != ticket }
  let t : PendTake := ⟨ticket, cls, port, n, f, false, none, false, none⟩
  ((d2.jAppend [.take k t]).pendTake k t (some f)).dropDoneSalvos

/-- CANCEL of a RESYNC: the take ends CANCELLED. -/
def Dev.resyncCancel (d : Dev) (k ticket : Nat) : Dev :=
  match (d.dst k).pend.find? fun t => t.cls == 1 && t.ticket % 2 ^ 32 == ticket with
  | none => d
  | some t => (d.jAppend [.takeEnd k t.ticket 5 0 0]).cancelDurable k t.ticket (.tongs ticket)

/-- One entry of a RESYNC. -/
def Dev.resyncEntry (d : Dev) (f tp : Nat) (e : RouteEntry) : Dev :=
  match e with
  | .state ref _ _ _ _ _ _ _ _ _ _ _ _ => d.onHie fun h => { h with resync := h.resync ++ [(ref.key, d.memberFrame ref.key tp f, e)] }
  | .pending ref src cls port g tp ticket =>
    d.resyncPend ref.key (src.map Fin.val) cls port (d.memberFrame ref.key tp.val g) ticket
  | .cancel ref ticket => d.resyncCancel ref.key ticket

/-- RESYNC on a worker; pages reclaimed return to MANAGER at its frame. -/
def Dev.resyncRx (d : Dev) (f : Nat) (tp : Fin 8) (l : List RouteEntry) : Dev :=
  let d1 := l.foldl (fun a e => a.resyncEntry f tp.val e) d
  if d1.hie.reclaimed = [] then d1 else d1.onHie fun h => { h with ownerBack := some (f, tp.val) }

/-- The frame at which reclaimed pages return. -/
def Dev.ownerReturn (d : Dev) : Dev :=
  match d.hie.ownerBack with
  | none => d
  | some (f, tp) =>
    if (d.coordNow tp).f < f then d
    else (d.hie.reclaimed.foldl (fun a p => a.setFld (Reg.PG_OWNER p) 1 0 1) d).onHie fun h => { h with reclaimed := [], ownerBack := none }

/-! ### Takes, placement and reports from the other side (R428, R435, R437) -/

/-- TAKE on a worker: each entry is a take request of class MANAGER. -/
def Dev.takeMsg (d : Dev) (l : List TakeEntry) : Dev :=
  l.foldl (fun a e => a.takeRequest e.ref.key (e.src.map Fin.val) (if e.now then none else some e.f) e.tp.val 1 e.port (.tongs e.ticket) none) d

/-- What a result says of a member of a hierarchy salvo. -/
def Dev.salvoResult (d : Dev) (p : Nat) (r : ResultEntry) : Dev :=
  match d.hie.salvos.find? fun s => s.ticket == r.ticket with
  | none => d
  | some s =>
    if r.result ≠ 3 then d
    else (s.members.filter fun m => m.pos == p).foldl (fun a m =>
      let g := (a.global p m.key).getD ⟨p, m.key, none, false, 0, false, false, none, 0, false, 0, 0, []⟩
      a.setGlobal { g with
        src := m.entry.src.map Fin.val, onBackup := false, flaps := 0, latched := false, lastF := r.f, lastTicket := r.ticket }) d

/-- TAKE_RESULT on the manager. -/
def Dev.resultMsg (d : Dev) (p : Nat) (l : List ResultEntry) : Dev := (l.foldl (fun a r => (a.hieShowResult r).salvoResult p r) d).crossEnd

/-- SALVO_PREP on a worker: it answers once every part is here. -/
def Dev.salvoPrepMsg (d : Dev) (h : SalvoHead) (l : List TakeEntry) : Dev :=
  let r := d.salvoPrep h l
  match r.2 with
  | none => r.1
  | some (ready, reason, idx) => r.1.tongsSend r.1.managerPos (.salvoReady { h with part := 0, parts := 0 } ready reason idx h.parts)

/-- PLACE on a worker: the items of one decision wait for the message with LAST, then for their frames. -/
def Dev.placeMsg (d : Dev) (n : Nat) (last : Bool) (items : List PlaceItem) : Dev :=
  let parts := d.hie.placeParts ++ items.map fun i => (n, i)
  if !last then d.onHie fun h => { h with placeParts := parts }
  else
    let mine := (parts.filter fun x => x.1 == n).map Prod.snd
    (d.onHie fun h => { h with
      placeParts := parts.filter fun x => x.1 != n
      placeDue := h.placeDue ++ mine
      decision := n }).jAppend (mine.mapIdx fun i x => .place n (i + 1 == mine.length) d.position x)

/-- HEALTH on the manager: recorded; after a takeover in the worker's pair, or when it asks for the decision of an update, it is
answered. -/
def Dev.healthMsg (d : Dev) (p : Nat) (x : Health) : Dev :=
  let old := (d.peer p).health
  let d1 := d.updPeer p fun y => { y with health := some x }
  let d2 := if (old.any fun o => o.unit != x.unit) = true then d1.tongsSend p (.routeQuery 0 0) else d1
  d2.updHealth p x.upd x.ver

/-- Log a forwarded event with FORWARDED and the worker's position. -/
def Dev.logForwarded (d : Dev) (p : Nat) (e : EventMsg) : Dev :=
  if d.fld Reg.TMP_STAT 1 0 = 3 then d
  else
    let sec := d.nowNs / 1000000000
    let cnt := if sec = d.evlog.second then d.evlog.inSecond else 0
    if cnt ≥ 16384 then d.bump Reg.TMP_EVT_DROP 15 0
    else
      let seq := (d.rd Reg.SYS_EVT_WR).toNat
      let x : Event := ⟨e.code, e.page, seq, e.time, e.frame, e.line, e.plane, e.sample, e.uncertain, true, p, e.arg⟩
      let keep := if d.evlog.entries.length ≥ 65536 then d.evlog.entries.drop 1 else d.evlog.entries
      (({ d with evlog := ⟨keep ++ [x], sec, cnt + 1⟩ } : Dev).wrNat Reg.SYS_EVT_WR (seq + 1)).stickyOnly Reg.pageSYS 7

/-- The event code of a refused Chart (R167). -/
def chartRefusedCode : Nat := 0x121

/-- A Chart refused at one position is cancelled at the others (R443). -/
def Dev.chartCancelAll (d : Dev) (except : Nat) : Dev :=
  (d.otherPositions.filter fun p => p != except).foldl (fun a p => a.tongsSend p (.chartCommit 0 0 0 0 0 0)) d

/-! ### Chart by BULK (R431, R443) -/

/-- A coordinate slot is taken: pages, a census or a Chart load are armed on it. -/
def Dev.slotBusy (d : Dev) (k : Nat) : Bool :=
  decide (d.slotArmed k ≠ 0) || d.hostif.census.any (fun c => c.slot == some k && !c.started) ||
    d.hostif.chartLoad.any fun c => c.slot == some k

/-- The armed load is cancelled. -/
def Dev.chartCancel (d : Dev) : Dev :=
  match d.hie.chartArmed with
  | none => d
  | some _ =>
    let d1 := d.onHie fun h => { h with chartArmed := none }
    if d1.hostif.chartLoad.isSome then
      (({ d1 with hostif := { d1.hostif with chartLoad := none } } : Dev).wrNat Reg.SYS_CHART_STAT 0).setFlag Reg.SYS_CHART_CTRL 31 false
    else d1

/-- CHART_COMMIT: the Chart received by BULK is armed on the lowest free slot, with GROUP set. -/
def Dev.chartCommitMsg (d : Dev) (seq hash f : Nat) (tp : Fin 8) (l s : Nat) : Dev :=
  if seq = 0 then d.chartCancel
  else if d.flag Reg.SYS_CHART_CTRL 31 then d
  else
    let image := ((d.hie.bulk.find? fun x => x.object == 1 && x.total == x.bytes.length).map fun x => x.bytes.map Prod.snd).getD []
    let d1 := (d.setFlag Reg.SYS_CHART_CTRL 31 true).wrNat Reg.SYS_CHART_STAT 1
    if d.sealing then d1.chartRefuse 0 0
    else if numAt image 12 4 ≠ seq ∨ numAt image 20 8 ≠ hash then d1.chartRefuse 2 0
    else match (List.range 16).find? fun k => !d.slotBusy k with
      | none => d1.chartRefuse 5 0
      | some k =>
        let d2 := ((d1.wrNat (Reg.SYS_CSLOT_F_LO k) f).wrNat (Reg.SYS_CSLOT_F_HI k)
          (f / 2 ^ 32 % 65536 + tp.val * 65536 + 2 ^ 31)).wrNat (Reg.SYS_CSLOT_LS k) (l % 8192 + s % 16384 * 65536)
        let d3 := d2.onHie fun h => { h with chartArmed := some seq }
        if !d3.planeOn tp.val then d3.chartRefuse 5 0
        else if d3.cslotInstant k ≤ d3.time then
          (if d3.chartWaits then { d3 with hostif := { d3.hostif with chartLoad := some ⟨0, some image, none, true, true⟩ } }
          else d3.chartTake image true)
        else { d3 with hostif := { d3.hostif with chartLoad := some ⟨0, some image, some k, false, false⟩ } }

/-! ### The map (R434) -/

/-- Word i of the map: SN entries, then DN entries. -/
def Dev.mapWord (d : Dev) (i : Nat) : Nat :=
  if i < 65536 then Sparse.get (fun _ => 0) d.hie.sn i else Sparse.get (fun _ => 0) d.hie.dn (i - 65536)

/-- Words of a map image. -/
def mapWords (l : List Byte) : List Nat := (chunksOf 4 l.length l).map natLE

/-- Entries of an image that differ from the map: index and word. -/
def Dev.mapChanges (d : Dev) (ws : List Nat) : List (Nat × Nat) :=
  (ws.mapIdx fun i w => (i, w)).filter fun x => d.mapWord x.1 != x.2

/-- Put entries into the map, journalled. -/
def Dev.mapPut (d : Dev) (l : List (Nat × Nat)) : Dev :=
  let sn := l.filter fun x => decide (x.1 < 65536)
  let dn := (l.filter fun x => decide (65536 ≤ x.1)).map fun x => (x.1 - 65536, x.2)
  let put := fun (a : List (Nat × Nat)) (ws : List (Nat × Nat)) => ws.foldl (fun b w => Sparse.set (fun _ => 0) b w.1 w.2) a
  if l = [] then d else (d.onHie fun h => { h with sn := put h.sn sn, dn := put h.dn dn }).jAppend [.maps sn dn]

/-- Does a source number feed a destination? -/
def Dev.snUsed (d : Dev) (n : Nat) : Bool :=
  match d.snOf n with
  | none => false
  | some (p, i) =>
    let feeds := fun (pos key : Nat) (src : Option Nat) =>
      if pos = p ∨ 2048 ≤ key then pos == p && src == some i
      else src.isSome && ((d.crossingFor p i pos).map Crossing.dstSrc) == src
    (d.anvil.dsts.any fun x => feeds d.position x.1 x.2.src) || d.hie.globals.any fun g => feeds g.pos g.key g.src

/-- Does a destination number have a source, a pending take or a hold? -/
def Dev.dnUsed (d : Dev) (n : Nat) : Bool :=
  match d.dnOf n with
  | none => false
  | some (p, k) =>
    if p = d.position then
      let x := d.dst k
      x.src.isSome || x.pend != [] || x.hold.isSome
    else (d.global p k).any fun g => g.src.isSome || g.pend != [] || g.hold.isSome

/-- MAP_LOAD: the whole map, refused whole when it changes an entry in use; then journalled and sent to every worker. -/
def Dev.mapLoad (d : Dev) (m : Mem) (dram : Bool) : Dev :=
  if d.flag Reg.HIE_MAP_CTRL 31 then d
  else
    let d0 := d.wrNat Reg.HIE_MAP_CTRL (1 + b2n dram * 2)
    let addr := d.rd64 Reg.HIE_MAP_ADDR_LO Reg.HIE_MAP_ADDR_HI / 4096 * 4096
    if !d.isManager || d.sealing then d0.wrNat Reg.HIE_MAP_STAT 3
    else
      let image := m.bytes dram addr 524288
      let l := d.mapChanges (mapWords image)
      match l.find? fun x => if x.1 < 65536 then d.snUsed x.1 else d.dnUsed (x.1 - 65536) with
      | some x => d0.wrNat Reg.HIE_MAP_STAT (3 + x.1 % 65536 * 65536)
      | none =>
        let d1 := (d0.mapPut l).wrNat Reg.HIE_MAP_STAT 2
        d1.otherPositions.foldl (fun a p => (piecesOf 340 image.length 0 image).foldl (fun b x =>
          b.tongsSend p (.bulk 2 0 x.1 524288 x.2)) a) d1

def execMapLoad (dram : Bool) (cells : List Host.Cell) (w : Writer) (s : State) :=
  s.onDevHost cells fun m d => d.gated Reg.pageHIE 0x068 w fun d => d.mapLoad m dram

/-- BULK on a worker: a Chart is kept complete for CHART_COMMIT, a map takes effect, a chunk is stored (R709). -/
def Dev.bulkMsg (d : Dev) (object chunk ofs total : Nat) (data : List Byte) (man : Option Manifest) : Dev :=
  if data = [] ∨ 340 < data.length ∨ total < ofs + data.length then d
  else
    let d0 := if object = 1 ∧ ofs = 0 then d.onHie fun h => { h with bulk := h.bulk.filter fun x => x.object != 1 } else d
    let r := d0.gather object (if object = 3 then chunk else 0) ofs total data
    match r.2 with
    | none => r.1
    | some l =>
      match object with
      | 1 => r.1.onHie fun h => { h with bulk := (h.bulk.filter fun x => x.object != 1) ++ [⟨1, 0, total, l.mapIdx fun i b => (i, b)⟩] }
      | 2 => r.1.mapPut (r.1.mapChanges (mapWords l))
      | 3 => (r.1.chunkStore chunk l man).1
      | _ => r.1

/-! ### Acting on a message (R424, R426) -/

/-- UPDATE by its OP. -/
def Dev.updateMsg (d : Dev) (p : Nat) (u : UpdateMsg) : Dev :=
  if sentByManager (.update u) then
    (if d.isManager || p != d.managerPos then d
    else match u.op with
      | 1 => d.stageMsg u
      | 4 => d.commitMsg u
      | 6 => d.cancelMsg u
      | 8 => d.rollbackMsg u
      | _ => if d.samePkg u then d.finalise else d)
  else if u.op = 11 then d.decisionReq p
  else d.reportMsg p u

/-- EVENT on the manager. -/
def Dev.eventMsg (d : Dev) (p : Nat) (e : EventMsg) : Dev :=
  let d1 := d.logForwarded p e
  if e.code = chartRefusedCode then (d1.chartCancelAll p).chartCancel else d1

/-- What a message does whose epoch is the device's own, or which is exempt. Messages of the manager are acted on when they come
from it; messages of a worker by the manager. -/
def Dev.actOn (d : Dev) (m : TongsMsg) (man : Option Manifest) : Dev :=
  let p := m.srcPos
  let fromManager := fun (x : Dev) => if p = d.managerPos ∧ d.isManager = false then x else d
  let atManager := fun (x : Dev) => if d.isManager then x else d
  match m.body with
  | .ack => d
  | .nakRole _ _ epoch manager => d.nakRx p epoch manager
  | .roleQuery => d.tongsSend p (.roleSet d.hie.table)
  | .roleSet t => d.roleSetRx p { t with epoch := m.epoch }
  | .take l => fromManager (d.takeMsg l)
  | .takeResult l => atManager (d.resultMsg p l)
  | .salvoPrep h l => fromManager (d.salvoPrepMsg h l)
  | .salvoReady h ready reason idx _ => atManager (d.salvoAnswer p h.ticket h.f ready reason idx)
  | .salvoCommit h => fromManager (d.salvoCommitHere h.ticket)
  | .salvoAbort h reason => fromManager (d.salvoAbortHere h.ticket reason)
  | .place n last items => fromManager (d.placeMsg n last items)
  | .health x => atManager (d.healthMsg p x)
  | .event e => atManager (d.eventMsg p e)
  | .routeQuery first count => fromManager (d.reportSend first count)
  | .routeReport part parts l => atManager (d.reportRx p part parts l)
  | .resync f tp l => fromManager (d.resyncRx f tp l)
  | .bulk object chunk ofs total data => fromManager (d.bulkMsg object chunk ofs total data man)
  | .chartCommit seq hash f tp l s => fromManager (d.chartCommitMsg seq hash f tp l s)
  | .update u => d.updateMsg p u
  | .unknown _ => d.bump Reg.HIE_CNT_AUTH 31 0

/-- The epoch of a message in its turn is compared; a message under another epoch is answered with NAK_ROLE. -/
def Dev.deliver (d : Dev) (m : TongsMsg) (man : Option Manifest) : Dev :=
  if m.epoch = d.epoch ∨ epochExempt m.body = true then d.actOn m man
  else (d.nakSend m.srcPos).bump Reg.HIE_CNT_NAK 31 0

/-! ### Receiving (R417, R418, R421, R422, R438, R440) -/

/-- What the ACK field of a message acknowledges. Messages that its NAK_ROLE turned away wait to be issued again. -/
def Dev.ackField (d : Dev) (m : TongsMsg) : Dev :=
  let x := d.peer m.srcPos
  let gone := x.unacked.filter fun u => decide (diff32 u.msg.seq m.ack ≤ 0)
  if gone = [] then d
  else
    let turned := match m.body with
      | .nakRole _ _ epoch _ => (gone.filter fun u => !epochExempt u.msg.body && u.msg.epoch != epoch).map fun u => u.msg.body
      | _ => []
    let d1 := d.setPeer m.srcPos { x with
      unacked := x.unacked.filter fun u => decide (0 < diff32 u.msg.seq m.ack)
      unreachable := false
      again := x.again ++ turned }
    gone.foldl (fun a u => match u.msg.body with
      | .salvoCommit h => a.onHie fun y => { y with
          salvos := y.salvos.map fun s => if s.ticket = h.ticket then { s with acked := (s.acked ++ [m.srcPos]).eraseDups } else s }
      | _ => a) d1

/-- The next message in order is taken. -/
def Dev.takeNext (d : Dev) (m : TongsMsg) (man : Option Manifest) : Dev :=
  let x := d.peer m.srcPos
  ((d.setPeer m.srcPos { x with acted := m.seq, ackDue := true }).jAppend [.tongsSeq m.srcPos x.sent m.seq]).deliver m man

/-- Messages that waited behind a gap follow. -/
def Dev.drain (p : Nat) (man : Option Manifest) : (n : Nat) → Dev → Dev
  | 0, d => d
  | n + 1, d =>
    match (d.peer p).ahead.find? fun m => m.seq == ((d.peer p).acted + 1) % 2 ^ 32 with
    | none => d
    | some m => ((d.updPeer p fun x => { x with ahead := x.ahead.filter fun y => y.seq != m.seq }).takeNext m man).drain p man n

/-- A sequenced message: taken in its turn, held when it is ahead of a gap, acknowledged again when it was taken before. -/
def Dev.sequence (d : Dev) (m : TongsMsg) (man : Option Manifest) : Dev :=
  let x := d.peer m.srcPos
  let k := diff32 m.seq x.acted
  if k ≤ 0 then d.setPeer m.srcPos { x with ackDue := true }
  else if k = 1 then (d.takeNext m man).drain m.srcPos man 16
  else if x.ahead.length < 16 ∧ (x.ahead.any fun y => y.seq == m.seq) = false then d.setPeer m.srcPos { x with ahead := x.ahead ++ [m] }
  else d

/-- A peer has been heard on a lane. -/
def Dev.heard (d : Dev) (p lane : Nat) : Dev :=
  let x := d.peer p
  let near := d.farPos lane == p
  let d1 := d.setPeer p { x with
    lane := some lane, hops := if near then 1 else if x.heard then x.hops else d.free % 8, lastNs := d.nowNs, heard := true, lost := false }
  if near || x.heard then d1 else d1.useFree

/-- A message for this device whose TAG is good. A worker that the manager reaches anew is asked for its routes. -/
def Dev.accept (d : Dev) (lane : Nat) (m : TongsMsg) (man : Option Manifest) : Dev :=
  let p := m.srcPos
  let x := d.peer p
  let anew := !x.heard || x.lost || x.unreachable
  let d1 := (d.heard p lane).ackField m
  let d2 := if m.noseq then d1 else d1.sequence m man
  if anew ∧ d2.isManager = true ∧ d2.roleConfirmed = true ∧ d2.roleOf p ≠ 0xF ∧ p ≠ d2.position then d2.tongsSend p (.routeQuery 0 0) else d2

/-- A message for this device once the Hallmark can check it. -/
def Dev.tongsCheck (d : Dev) (lane : Nat) (m : TongsMsg) (tag : TagCheck) (man : Option Manifest) : Dev :=
  if tag = .bad ∨ d.hal.hierKeys = 0 then
    ((d.bump Reg.HIE_CNT_AUTH 31 0).raiseLog Reg.pageHIE 0 m.srcPos).auditFail m.srcPos
  else (if tag = .older then d.bump Reg.HAL_OLD_KEY 15 0 else d).accept lane m man

/-- A Tongs message arrives: one for another position goes on; in the Hallmark's error state, and on a twin unit that is not
active, it is discarded; during the Hallmark's self-test it waits. -/
def Dev.tongsRx (d : Dev) (lane : Nat) (m : TongsMsg) (tag : TagCheck) (man : Option Manifest) : Dev :=
  if d.halState = 2 ∨ (d.twnState ≠ 0 ∧ d.twnState ≠ 4) then d
  else if m.dstPos ≠ d.position then d.relay m
  else if d.halState = 0 then d.onHie fun h => { h with waitRx := h.waitRx ++ [(lane, m, tag, man)] }
  else d.tongsCheck lane m tag man

/-- After the self-test: messages that waited are sent, and those received are taken (R720). -/
def Dev.tongsResume (d : Dev) : Dev :=
  if d.halState = 0 ∨ d.halState = 2 then d
  else
    let d1 := d.hie.peers.foldl (fun a p =>
      p.2.unacked.foldl (fun b u => if u.sent then b else b.send (.tongs (b.laneFor p.1) u.msg))
        (a.updPeer p.1 fun x => { x with unacked := x.unacked.map fun u => { u with sent := true } })) d
    d.hie.waitRx.foldl (fun a x => a.tongsRx x.1 x.2.1 x.2.2.1 x.2.2.2) (d1.onHie fun h => { h with waitRx := [] })

def execHalSelftestDone (fail : Option (Fin 256)) (entropy : Bool) (s : State) :=
  s.onDev fun d => (d.selftestDone (fail.map Fin.val) entropy).tongsResume

def execTongsMessageRx (lane : Fin 192) (m : TongsMsg) (tag : TagCheck) (s : State) := s.onDev fun d => d.tongsRx lane.val m tag none

def execTongsRelay (lane : Fin 192) (m : TongsMsg) (s : State) :=
  s.onDev fun d => if m.dstPos = d.position then d else d.tongsRx lane.val m .newest none

/-- The message that a head and a body make. -/
def msgOf (h : TongsHead) (b : TongsBody) : TongsMsg :=
  ⟨(match b with
    | .ack => true
    | _ => false), h.resync, h.retx, h.srcPos.val, h.srcUnit.val, h.dstPos.val, h.epoch, h.seq, h.ack, b⟩

/-- A message of a known type arrives. -/
def State.tongs (s : State) (lane : Fin 192) (h : TongsHead) (tag : TagCheck) (b : TongsBody) : Host.Outcome State Fault Refusal :=
  s.onDev fun d => d.tongsRx lane.val (msgOf h b) tag none

def execAckRx (lane : Fin 192) (h : TongsHead) (tag : TagCheck) (s : State) := s.tongs lane h tag .ack

def execNakRoleRx (lane : Fin 192) (h : TongsHead) (tag : TagCheck) (pos role epoch manager : Nat) (s : State) :=
  s.tongs lane h tag (.nakRole pos role epoch manager)

def execRoleQueryRx (lane : Fin 192) (h : TongsHead) (tag : TagCheck) (s : State) := s.tongs lane h tag .roleQuery

def execRoleSetRx (lane : Fin 192) (h : TongsHead) (tag : TagCheck) (t : RoleTable) (s : State) := s.tongs lane h tag (.roleSet t)

def execTakeMsgRx (lane : Fin 192) (h : TongsHead) (tag : TagCheck) (l : List TakeEntry) (s : State) := s.tongs lane h tag (.take l)

def execTakeResultRx (lane : Fin 192) (h : TongsHead) (tag : TagCheck) (l : List ResultEntry) (s : State) := s.tongs lane h tag (.takeResult l)

def execSalvoPrepRx (lane : Fin 192) (h : TongsHead) (tag : TagCheck) (p : SalvoHead) (l : List TakeEntry) (s : State) :=
  s.tongs lane h tag (.salvoPrep p l)

def execSalvoReadyRx (lane : Fin 192) (h : TongsHead) (tag : TagCheck) (p : SalvoHead) (ready : Bool) (reason idx got : Nat) (s : State) :=
  s.tongs lane h tag (.salvoReady p ready reason idx got)

def execSalvoCommitRx (lane : Fin 192) (h : TongsHead) (tag : TagCheck) (p : SalvoHead) (s : State) := s.tongs lane h tag (.salvoCommit p)

def execSalvoAbortRx (lane : Fin 192) (h : TongsHead) (tag : TagCheck) (p : SalvoHead) (reason : Nat) (s : State) :=
  s.tongs lane h tag (.salvoAbort p reason)

def execPlaceRx (lane : Fin 192) (h : TongsHead) (tag : TagCheck) (decision : Nat) (last : Bool) (items : List PlaceItem) (s : State) :=
  s.tongs lane h tag (.place decision last items)

def execHealthRx (lane : Fin 192) (h : TongsHead) (tag : TagCheck) (x : Health) (s : State) := s.tongs lane h tag (.health x)

def execEventRx (lane : Fin 192) (h : TongsHead) (tag : TagCheck) (e : EventMsg) (s : State) := s.tongs lane h tag (.event e)

def execRouteQueryRx (lane : Fin 192) (h : TongsHead) (tag : TagCheck) (first count : Nat) (s : State) :=
  s.tongs lane h tag (.routeQuery first count)

def execRouteReportRx (lane : Fin 192) (h : TongsHead) (tag : TagCheck) (part parts : Nat) (l : List RouteEntry) (s : State) :=
  s.tongs lane h tag (.routeReport part parts l)

def execResyncRx (lane : Fin 192) (h : TongsHead) (tag : TagCheck) (f : Nat) (tp : Fin 8) (l : List RouteEntry) (s : State) :=
  s.tongs lane h tag (.resync f tp l)

def execBulkRx (lane : Fin 192) (h : TongsHead) (tag : TagCheck) (object chunk ofs total : Nat) (data : List Byte) (man : Option Manifest)
    (s : State) :=
  s.onDev fun d => d.tongsRx lane.val (msgOf h (.bulk object chunk ofs total data)) tag man

def execChartCommitRx (lane : Fin 192) (h : TongsHead) (tag : TagCheck) (seq hash f : Nat) (tp : Fin 8) (l smp : Nat) (s : State) :=
  s.tongs lane h tag (.chartCommit seq hash f tp l smp)

def execUpdStageMsg (lane : Fin 192) (h : TongsHead) (tag : TagCheck) (u : UpdateMsg) (s : State) :=
  s.tongs lane h tag (.update { u with op := 1 })

def execUpdReadyMsg (lane : Fin 192) (h : TongsHead) (tag : TagCheck) (u : UpdateMsg) (s : State) :=
  s.tongs lane h tag (.update { u with op := 2 })

def execUpdStageFailedMsg (lane : Fin 192) (h : TongsHead) (tag : TagCheck) (u : UpdateMsg) (s : State) :=
  s.tongs lane h tag (.update { u with op := 3 })

def execUpdCommitMsg (lane : Fin 192) (h : TongsHead) (tag : TagCheck) (u : UpdateMsg) (s : State) :=
  s.tongs lane h tag (.update { u with op := 4 })

def execUpdArmedMsg (lane : Fin 192) (h : TongsHead) (tag : TagCheck) (u : UpdateMsg) (s : State) :=
  s.tongs lane h tag (.update { u with op := 5 })

def execUpdCancelMsg (lane : Fin 192) (h : TongsHead) (tag : TagCheck) (u : UpdateMsg) (s : State) :=
  s.tongs lane h tag (.update { u with op := 6 })

def execUpdFailMsg (lane : Fin 192) (h : TongsHead) (tag : TagCheck) (u : UpdateMsg) (s : State) :=
  s.tongs lane h tag (.update { u with op := 7 })

def execUpdRollbackMsg (lane : Fin 192) (h : TongsHead) (tag : TagCheck) (u : UpdateMsg) (s : State) :=
  s.tongs lane h tag (.update { u with op := 8 })

def execUpdFinaliseMsg (lane : Fin 192) (h : TongsHead) (tag : TagCheck) (u : UpdateMsg) (s : State) :=
  s.tongs lane h tag (.update { u with op := 9 })

def execUpdVersionMsg (lane : Fin 192) (h : TongsHead) (tag : TagCheck) (u : UpdateMsg) (s : State) :=
  s.tongs lane h tag (.update { u with op := 10 })

def execUpdDecisionReqMsg (lane : Fin 192) (h : TongsHead) (tag : TagCheck) (u : UpdateMsg) (s : State) :=
  s.tongs lane h tag (.update { u with op := 11 })

/-! ### Retransmission and acknowledgement (R422, R423) -/

/-- A message is sent again; at the eighth time its peer is unreachable. -/
def Dev.retransmitOne (d : Dev) (p seq : Nat) : Dev :=
  match (d.peer p).unacked.find? fun u => u.msg.seq == seq && u.sent with
  | none => d
  | some u =>
    if !d.maySend u.msg.body then d
    else
      let x := d.peer p
      let n := min 8 (u.tries + 1)
      let d1 := d.setPeer p { x with
        unacked := x.unacked.map fun y => if y.msg.seq = seq then { y with tries := n } else y
        unreachable := x.unreachable || n == 8 }
      let d2 := (d1.send (.tongs (d1.laneFor p) { u.msg with retx := true })).bump Reg.HIE_CNT_RETX 31 0
      if n = 8 ∧ x.unreachable = false then (d2.raiseLog Reg.pageHIE 4 p).buildCheck else d2

def execTongsRetransmit (peer : Fin 128) (seq : Nat) (s : State) := s.onDev fun d => d.retransmitOne peer.val seq

/-- An acknowledgement that is due goes out on its own. -/
def Dev.ackSend (d : Dev) (p : Nat) : Dev := if (d.peer p).ackDue then d.tongsSend p .ack else d

def execAckSend (peer : Fin 128) (s : State) := s.onDev fun d => d.ackSend peer.val

/-! ### Role commands (R411, R412, R415) -/

/-- Does a position carry a crossing or a raw circuit? -/
def Dev.posUsed (d : Dev) (p : Nat) : Bool :=
  d.hie.crossings.any (fun c => c.srcPos == p || c.dstPos == p || c.items.any fun x => x.1 == p) ||
    (d.hie.globals.any fun g => g.pos == p && decide (2048 ≤ g.key) && g.src.isSome) ||
    (p == d.position && d.anvil.dsts.any fun x => decide (2048 ≤ x.1) && x.2.src.isSome)

/-- A command of HIE_ROLE_CMD ends. -/
def Dev.roleEnd (d : Dev) (result : Nat) : Dev := (d.wrNat Reg.HIE_ROLE_RESULT result).setFlag Reg.HIE_ROLE_CMD 31 false

/-- A write of HIE_ROLE_CMD. While no state change is accepted nothing is issued (R602). -/
def Dev.roleCmd (d : Dev) (w : Writer) (v : Nat) (f : Dev → Dev) : Dev :=
  d.gated Reg.pageHIE 0x048 w fun d =>
    if d.flag Reg.HIE_ROLE_CMD 31 then d
    else if d.sealing then (d.wrNat Reg.HIE_ROLE_CMD v).roleEnd 0
    else f (d.wrNat Reg.HIE_ROLE_CMD v)

/-- Give a ROLE_SET to every other position. -/
def Dev.roleSetAll (d : Dev) : Dev := d.otherPositions.foldl (fun a p => a.tongsSend p (.roleSet a.hie.table)) d

/-- SET_ROLE on the manager. -/
def Dev.roleSet (d : Dev) (p role : Nat) : Dev :=
  if !d.isManager then d.roleEnd 4
  else if role = 0 ∨ p = d.position ∨ d.posUsed p = true then d.roleEnd 2
  else
    let t : RoleTable := ⟨d.position, d.epoch + 1, (List.range 128).map fun i => if i = p then role else d.roleOf i⟩
    ((d.adopt t).roleSetAll).roleEnd 1

def execSetRole (position : Fin 128) (role : Fin 4) (w : Writer) (s : State) :=
  s.onDev fun d => d.roleCmd w (position.val * 16 + role.val * 4096) fun d => d.roleSet position.val role.val

/-- ASSUME on a device that is not the manager. -/
def Dev.assume (d : Dev) : Dev :=
  let e := (d.rd Reg.HIE_ROLE_EPOCH).toNat
  if d.isManager then d.roleEnd 2
  else if e ≤ d.epoch then d.roleEnd 3
  else
    let old := d.managerPos
    let t : RoleTable := ⟨d.position, e, (List.range 128).map fun i => if i = d.position then 0 else if i = old then 3 else d.roleOf i⟩
    (((d.adopt t).roleSetAll).buildStart).roleEnd 1

def execAssume (w : Writer) (s : State) := s.onDev fun d => d.roleCmd w 1 Dev.assume

/-- An unconfirmed device asks the manager it knows; when it is that manager itself, every position on its fabric lanes. -/
def Dev.roleQuerySend (d : Dev) : Dev :=
  if d.roleConfirmed then d
  else if !d.isManager then d.tongsSend d.managerPos .roleQuery
  else
    let near := (List.range 192).filter fun n => d.isFabric n && d.fabSvc n
    let d1 := near.foldl (fun a n => if (a.peer (a.farPos n)).lane.isSome then a else a.updPeer (a.farPos n) fun x => { x with lane := some n }) d
    ((near.map d.farPos).eraseDups).foldl (fun a p => a.tongsSend p .roleQuery) d1

def execRoleQuerySend (s : State) := s.onDev Dev.roleQuerySend

def execRoleConfirm (s : State) := s.onDev Dev.confirm

def execHealthSend (s : State) := s.onDev Dev.healthSend

/-! ### Loss (R438, R439) -/

/-- A worker is lost: crossings through it leave service, and a device named by an update in probation fails it (R721). -/
def Dev.workerLost (d : Dev) (p : Nat) : Dev :=
  if !d.isManager || !d.otherPositions.contains p || (d.peer p).lost then d
  else
    let d1 := (d.updPeer p fun x => { x with lost := true }).raiseLog Reg.pageHIE 5 p
    let through := fun (c : Crossing) => c.srcPos == p || c.dstPos == p || c.items.any fun x => x.1 == p
    let d2 := d1.onHie fun h => { h with
      crossings := h.crossings.map fun c => if through c then { c with placed := false, items := [] } else c }
    let prob := (d2.upd.img.state = 6 ∨ (d2.upd.img.state = 5 ∧ d2.upd.restart = 1)) ∧ (d2.upd.devs.any fun x => x.pos == p && x.named) = true
    (if prob then (d2.raise Reg.pageUPD 2 0).orderRollback else d2).buildCheck.placeShow

def execWorkerLost (peer : Fin 128) (s : State) := s.onDev fun d => d.workerLost peer.val

/-- The manager is lost: everything runs on. -/
def Dev.mgrLost (d : Dev) : Dev :=
  if d.isManager then d else (d.updPeer d.managerPos fun x => { x with lost := true }).raise Reg.pageHIE 6 0

def execMgrLost (s : State) := s.onDev Dev.mgrLost

/-- Pages that MANAGER owns. -/
def Dev.managerPages (d : Dev) : List Nat :=
  (d.regs.filter fun p => p.1 % 0x1000 == Reg.PG_OWNER 0 % 0x1000 && bits p.2 1 0 == 1).map fun p => p.1 / 0x1000

/-- RECLAIM while the manager is lost: its pages are the host's. -/
def Dev.reclaim (d : Dev) : Dev :=
  if d.isManager || !(d.peer d.managerPos).lost then d
  else
    let l := d.managerPages
    (l.foldl (fun a p => a.setFld (Reg.PG_OWNER p) 1 0 0) d).onHie fun h => { h with reclaimed := (h.reclaimed ++ l).eraseDups }

def execReclaim (w : Writer) (s : State) := s.onDev fun d => d.gated Reg.pageHIE 0x05C w Dev.reclaim

/-! ### Time (R437, R439 to R443) -/

/-- An event as it is forwarded. -/
def Event.msg (e : Event) : EventMsg := ⟨e.code, e.page, e.time, e.frame, e.line, e.plane, e.sample, e.uncertain, e.arg⟩

/-- A worker forwards the events since the last it forwarded, as HIE_EVT_FWD says, and a refused Chart always; the manager cancels
a Chart that it has refused itself at the others. -/
def Dev.forwardEvents (d : Dev) : Dev :=
  let wr := (d.rd Reg.SYS_EVT_WR).toNat
  if d.hie.fwdSeq = wr then d
  else
    let new := d.evlog.entries.filter fun e => decide (0 ≤ diff32 e.seq d.hie.fwdSeq) && !e.forwarded
    let d1 := d.onHie fun h => { h with fwdSeq := wr }
    if d.isManager then
      (if new.any fun e => e.code == chartRefusedCode then d1.chartCancelAll d.position else d1)
    else if !d.roleConfirmed || d.standalone then d1
    else
      let mode := d.live Reg.HIE_EVT_FWD 1 0
      let pass := fun (e : Event) => e.code == chartRefusedCode || mode == 2 || (mode == 1 && decide (e.code % 256 < 0x20))
      (new.filter pass).foldl (fun a e => a.tongsSend a.managerPos (.event e.msg)) d1

/-- What time brings to the hierarchy. -/
def Dev.hieTick (d : Dev) : Dev :=
  let d1 := (d.forwardEvents.ownerReturn).peerShow
  if d1.isManager && !d1.isStandby then d1.salvoClean else d1

end Sys2Proof.Machine
end

