-- ==== Sys2Proof/Machine/Shown.lean ====
section
/-!
DEFINITION. What a read of BAR0 answers: registers that are computed when read, pages of absent instances, the event window,
and the frozen image of a page under snapshot (spec/04_register_pages_and_host.md, R133, R135, R155, R156, R164, R790;
spec/22_register_directory.md, R757, R759, R762; spec/00_scope.md, R3, R4, R6; spec/07_ethernet_mac.md, R250).
-/

namespace Sys2Proof.Machine

open Sys2Proof

/-! ### Present on this part -/

/-- Lane or compositor pages that the FDX-192-H does not have (R2 to R4). -/
def absentOnH (page : Nat) : Bool :=
  match pageType page with
  | 0x17 => decide (0x48 ≤ page)
  | 0x1A => decide (0x160 ≤ page) && decide (page < 0x1C0)
  | 0x1B => decide (0x260 ≤ page)
  | 0x1C => decide (0x360 ≤ page) && decide (page < 0x3C0)
  | 0x1D => decide (0x4C0 ≤ page) && decide (page < 0x580)
  | _ => false

/-- PG_CAP of a page on the part fitted (R759). -/
def Dev.capWord (d : Dev) (page : Nat) : Word :=
  let w := d.rd (Reg.PG_CAP page)
  if !d.partH then w
  else if page = 1 then setBits w 17 16 2
  else if absentOnH page then setBits w 0 0 0
  else w

/-- Does a page belong to a MAC that is not active? Its block-specific offsets read 0 and ignore writes (R250). -/
def Dev.macIdle (d : Dev) (page : Nat) : Bool :=
  match pageType page with
  | 0x1C => !d.macActive (page - 0x300)
  | 0x1D => !d.macActive ((page - 0x400) / 2)
  | _ => false

/-! ### The event window (R163, R164) -/

/-- The eight words of an event entry. -/
def Event.word (e : Event) (i : Nat) : Word :=
  BitVec.ofNat 32 (match i with
    | 0 => e.code % 65536 + e.page % 65536 * 65536
    | 1 => e.seq
    | 2 => e.time
    | 3 => e.time / 2 ^ 32
    | 4 => e.frame
    | 5 => e.frame / 2 ^ 32 % 65536 + (e.line % 8192 + e.plane % 8 * 8192) * 65536
    | 6 => e.sample % 16384 + (b2n e.uncertain + b2n e.forwarded * 256 + e.position % 128 * 512) * 65536
    | _ => e.arg)

/-- How far SYS_EVT_RD lies behind SYS_EVT_WR, modulo 2³². -/
def Dev.evtBack (d : Dev) : Nat := (d.rd Reg.SYS_EVT_WR - d.rd Reg.SYS_EVT_RD).toNat

/-- The entry that SYS_EVT_RD names has been overwritten. -/
def Dev.evtOver (d : Dev) : Bool :=
  decide (d.evlog.entries.length = 65536) && decide (65536 < d.evtBack) && decide (d.evtBack < 2 ^ 31)

/-- The entry that SYS_EVT_RD selects, while it is held. -/
def Dev.evtSelected (d : Dev) : Option Event :=
  let h := d.evlog.entries.length
  if 1 ≤ d.evtBack ∧ d.evtBack ≤ h then d.evlog.entries[h - d.evtBack]? else none

/-! ### Reading -/

/-- LN_RAW_STAT: the receive lane that feeds a RAW transmitter, whether it is carried, and the interpolator's offset. -/
def Dev.rawStat (d : Dev) (n : Nat) : Word :=
  match (if d.laneRole n = 6 then d.rawFeed n else none) with
  | some r =>
    let ok := d.flag (Reg.LN_STAT n) 4 && d.rxState r == rxLocked
    BitVec.ofNat 32 (r % 256 + b2n ok * 32768 + (if ok then Config.rawInterp n d.time % 65536 * 65536 else 0))
  | none => 0

/-- LN_STEER: the frequency correction on a steered quad, with the reference clock's offset removed (R91). -/
def Dev.steerWord (d : Dev) (n : Nat) : Word :=
  if d.flag (Reg.LN_QUAD_STAT n) 2 then
    BitVec.ofNat 32 (ofSigned 32 (toSigned 32 (d.rd Reg.REF_FREQ_NOW).toNat -
      toSigned 16 (d.fld (Reg.LN_QUAD_STAT n) 31 16) * 10000))
  else 0

/-- LN_STAT: an SDI transmitter whose output is off, has no destination bound or stands still sends electrical idle, unless it
sends PRBS (R206, R246, R665). -/
def Dev.lnStatWord (d : Dev) (n : Nat) : Word :=
  let w := d.rd (Reg.LN_STAT n)
  if n < 192 ∧ d.laneRole n = 1 ∧ d.flag (Reg.LN_STAT n) 12 = false ∧
      (d.sdiTxOn n && d.dstEnabled (d.sdiTxDst n) && d.dataRuns) = false then setBits w 4 4 0
  else w

/-- REF_STATE with the seconds left of the hold-off that it shows (R66). -/
def Dev.holdoffWord (d : Dev) : Word :=
  let w := d.rd Reg.REF_STATE
  if d.flag Reg.REF_STATE 10 then
    setBits w 31 16 (ceilDiv ((d.cand (d.fld Reg.REF_STATE 14 12)).holdoffFrom + d.live Reg.REF_HOLDOFF 9 0 * 1000000000 - d.nowNs)
      1000000000)
  else w

/-- What a word of a page in use reads outside a snapshot. -/
def Dev.shown (d : Dev) (a : Nat) : Word :=
  let page := a / 0x1000
  let off := a % 0x1000
  if off = 0x008 then d.capWord page
  else if off = 0x014 then d.stickyWord page
  else if 0x040 ≤ off ∧ d.macIdle page = true then 0
  else match pageType page with
    | 0x01 =>
      if a = Reg.SYS_EVT_STAT then BitVec.ofNat 32 (b2n d.evtSelected.isSome)
      else if 0x0A0 ≤ off ∧ off < 0x0C0 then (match d.evtSelected with
        | some e => e.word ((off - 0x0A0) / 4)
        | none => 0)
      else d.rd a
    | 0x02 =>
      if 0x108 ≤ off ∧ off < 0x180 ∧ off % 16 = 8 then BitVec.ofNat 32 (d.coordNow ((off - 0x100) / 16)).f
      else if 0x108 ≤ off ∧ off < 0x180 ∧ off % 16 = 12 then BitVec.ofNat 32 ((d.coordNow ((off - 0x100) / 16)).f / 2 ^ 32 % 65536)
      else if a = Reg.REF_STATE then d.holdoffWord
      else d.rd a
    | 0x03 => if a = Reg.PTP_TIME_LO then BitVec.ofNat 32 d.nowNs else d.rd a
    | 0x08 => if a = Reg.HIE_PEER_STAT then d.peerShow.rd a else d.rd a
    | 0x0C => if a = Reg.DDR_PEAK then BitVec.ofNat 32 (ddrPeak (d.rd (Reg.DDR_CFG + 0x800))) else d.rd a
    | 0x1A =>
      if a = Reg.LN_RAW_STAT (page - 0x100) then d.rawStat (page - 0x100)
      else if a = Reg.LN_STEER (page - 0x100) then d.steerWord (page - 0x100)
      else if a = Reg.LN_STAT (page - 0x100) then d.lnStatWord (page - 0x100)
      else d.rd a
    | _ => d.rd a

/-- What a word reads in an image: as `shown`, and the three PTP_TIME registers from one instant (R97). -/
def Dev.imaged (d : Dev) (a : Nat) : Word :=
  if a = Reg.PTP_TIME_HI then BitVec.ofNat 32 (d.nowNs / 2 ^ 32)
  else if a = Reg.PTP_TIME_FRAC then BitVec.ofNat 32 (d.time % 65536)
  else d.shown a

/-- Byte addresses of the 1,024 words of a page. -/
def pageWords (page : Nat) : List Nat := (List.range 1024).map fun i => page * 0x1000 + 4 * i

/-- The pages in use, in page order (R756). -/
def pagesInUse : List Nat := pageMap.flatMap fun r => (List.range r.count).map fun i => r.first + i

/-- The image of a page: its words that differ from reset. -/
def Dev.pageImage (d : Dev) (page : Nat) : List (Nat × Word) :=
  (pageWords page).filterMap fun a => if d.imaged a = resetWord a then none else some (a, d.imaged a)

/-- The image of every page in use. -/
def Dev.image (d : Dev) : List (Nat × Word) := pagesInUse.flatMap d.pageImage

/-- The frozen image under which a page reads: its own freeze, or that of SYS_SNAPSHOT. -/
def Dev.frozenImage (d : Dev) (page : Nat) : Option (List (Nat × Word)) :=
  match d.hostif.frozen.find? fun f => f.page == page with
  | some f => some f.image
  | none => d.hostif.sysFrozen

/-- Bits of a word that a freeze does not touch: those that writes set or clear (R155). -/
def writtenMask (page off : Nat) : Word :=
  if 0x800 ≤ off then 0
  else match regRow page off with
    | some r => BitVec.ofNat 32 (r.rw ||| r.rs ||| r.sh ||| r.tr)
    | none => 0

/-- What a 32-bit read of a BAR0 word answers (R133, R135, R155, R762). FROZEN is of the moment. -/
def Dev.readWord (d : Dev) (a : Nat) : Word :=
  let page := a / 0x1000
  let off := a % 0x1000
  if !pageInUse page then 0
  else if off = 0x028 ∨ a = Reg.SYS_SNAPSHOT then d.shown a
  else match d.frozenImage page with
    | some img => merge (writtenMask page off) (Sparse.get resetWord img a) (d.shown a)
    | none => d.shown a

end Sys2Proof.Machine
end

