-- ==== Sys2Proof/Machine/Pages.lean ====
section
/-!
DEFINITION. Register pages: sticky bits and MSI-X, snapshots, census, the event window, soft reset, coordinate slots, writes of
registers that have no row of their own, and the services that write registers (spec/04_register_pages_and_host.md, R130 to
R179, R789 to R791; spec/21_startup.md, R750).
-/

namespace Sys2Proof.Machine

open Sys2Proof

/-! ### Accesses that are not aligned words (R131) -/

def execBar0BadAccess (addr size : Nat) (write : Bool) (s : State) :=
  guarded (badAccess addr size) (s.onDev fun d => d.raiseLog Reg.pageSYS 6 (addr / 4 + b2n write * 2 ^ 24))

/-! ### Sticky bits (R137, R161, R165, R790) -/

/-- Does the condition of sticky bit n of SDI lane m's page hold (R216, R219, R226, R229, R231, R238)? -/
def Dev.sdiHolds (d : Dev) (m n : Nat) : Bool :=
  let x := d.sdi m
  match n with
  | 4 => (x.pid.map PayloadId.raster).any fun r => x.fmt != some r
  | 5 => d.sdiState m == sdiWrongRate
  | 6 => d.sdiState m == sdiUnsupported
  | 7 => !x.unsup.isEmpty
  | 8 => d.sdiLeads m && (d.sdiMembersOf m).any fun i => (d.sdi i).skewBad
  | 9 => d.sdiLeads m && (d.sdiMembersOf m).any fun i => (d.sdi i).orderBad
  | _ => false

/-- Does the condition of bit n of a page's PG_STICKY hold now (R137)? The bits whose rule names a relation that lasts; every
other bit reports an occurrence, which is over when it is reported (notes/assumptions/75.md). -/
def Dev.pageHolds (d : Dev) (page n : Nat) : Bool :=
  match pageType page, n with
  | 0x01, 2 => d.evtOver
  | 0x02, 4 => d.belState == belHoldover && d.bellows.longHold
  | 0x0E, 7 => decide (d.fld Reg.TMP_SPARE 16 0 < 6554)
  | 0x0F, 3 => decide (d.fld Reg.CRU_FORECAST 15 0 < d.live Reg.CRU_WARN 15 0)
  | 0x11, 4 => decide (d.fld Reg.PWR_AGE 15 0 < d.live Reg.PWR_AGE_THR 15 0)
  | 0x14, 3 => d.flag (Reg.DDR_CH_STAT (page - 0x14)) 8
  | 0x16, 1 =>
    let k := d.live (Reg.SWG_BIND (page - 0x20)) 10 0
    if d.liveFlag (Reg.SWG_BIND (page - 0x20)) 11 then
      d.layers.any fun p => d.layerDst p.1 p.2 == k && d.layerMismatch p.1 p.2 == some (page - 0x20)
    else d.swageMismatch k == some (page - 0x20)
  | 0x17, 2 => (List.range 8).any fun l => d.layerOn (page - 0x40) l && d.layerMix (page - 0x40) l
  | 0x17, 4 => (List.range 8).any fun l => d.layerOn (page - 0x40) l && d.layerNoEngine (page - 0x40) l
  | 0x1A, 5 => d.rawIdle (page - 0x100)
  | 0x1B, n => d.sdiHolds (page - 0x200) n
  | _, _ => false

/-- Does the condition of bit n of the sticky register of entry e hold now (R459, R475, R516, R526)? -/
def Dev.entryHolds (d : Dev) (page e n : Nat) : Bool :=
  match pageType page, n with
  | 0x1F, 6 =>
    let k := (page - 0x680) * 16 + e
    d.dstEnabled k && (d.store k).any Store.filling
  | 0x1F, 7 =>
    let k := (page - 0x680) * 16 + e
    d.dstEnabled k && (d.dstSrc k).any (d.noEngine k)
  | 0x22, 3 =>
    let o := (page - 0xA00) * 16 + e
    d.audOn o && d.followNone o
  | 0x22, 4 =>
    let o := (page - 0xA00) * 16 + e
    d.audOn o && (d.nonpcmIn o || (d.pairLead (o + 1) == some o && d.nonpcmIn (o + 1)))
  | _, _ => false

/-- The bits of a mask whose condition holds. -/
def heldMask (m : Word) (p : Nat → Bool) : Word :=
  BitVec.ofNat 32 ((List.range 32).foldl (fun a n => if bit m n && p n then a + 2 ^ n else a) 0)

/-- A write of PG_STICKY clears the bits written as 1 that are RS there; one whose condition still holds is set again, with no event
(R137, R165). A write of PG_IRQ_EN stores it. Either may owe one more message. -/
def Dev.stickyWrite (d : Dev) (page : Nat) (irqEn : Bool) (v : Word) (w : Writer) : Dev :=
  d.gated page (if irqEn then 0x018 else 0x014) w fun d =>
    let a := Reg.PG_STICKY page
    let clear := v &&& BitVec.ofNat 32 (((regRow page 0x014).map RegRow.rs).getD 0)
    let again := heldMask (d.rd a &&& clear) (d.pageHolds page)
    ((if irqEn then d.wr (Reg.PG_IRQ_EN page) v else d.wr a (d.rd a &&& ~~~ clear ||| again))).irqUpdate page true

def execStickyWrite (page : Nat) (irqEn : Bool) (v : Word) (w : Writer) (s : State) :=
  s.onDev fun d => d.stickyWrite page irqEn v w

/-- FLAP of TAKE_DSTe_STICKY releases the flap latch (R356). -/
def Dev.flapRelease (d : Dev) (k : Nat) : Dev :=
  if (d.dst k).latched then
    (d.updDst k fun x => { x with latched := false }).setFlag (Reg.TAKE_DST_FLAPCNT k) 8 false
  else d

/-- A write of the sticky register of entry e of an entry page. -/
def Dev.entryWrite (d : Dev) (page e : Nat) (v : Word) (w : Writer) : Dev :=
  match entryStickyAddr page e with
  | none => d
  | some a => d.gated page (a % 0x1000) w fun d =>
    let clear := v &&& BitVec.ofNat 32 (((regRow page (a % 0x1000)).map RegRow.rs).getD 0)
    let d1 := d.wr a (d.rd a &&& ~~~ clear ||| heldMask (d.rd a &&& clear) (d.entryHolds page e))
    let d2 := if pageType page = 0x1E ∧ bit v 3 = true then d1.flapRelease ((page - 0x600) * 16 + e) else d1
    d2.irqUpdate page true

/-- Page and entry of an entry sticky register. -/
def entryOf : EntrySticky → Nat × Nat
  | .takeDst k => (0x600 + k.val / 16, k.val % 16)
  | .fsDst k => (0x680 + k.val / 16, k.val % 16)
  | .flwRx k => (0x800 + k.val / 16, k.val % 16)
  | .flwTx k => (0x900 + k.val / 16, k.val % 16)
  | .audOut k => (0xA00 + k.val / 16, k.val % 16)

def execEntryStickyWrite (reg : EntrySticky) (v : Word) (w : Writer) (s : State) :=
  s.onDev fun d => d.entryWrite (entryOf reg).1 (entryOf reg).2 v w

/-! ### MSI-X and the PCI Express link (R161, R582) -/

/-- A held message goes once the vector is unmasked and messages can be sent, if the vector is still pending. -/
def Dev.msixHeld (d : Dev) (v : Nat) : Dev :=
  if v ≠ 0 ∧ d.hostif.pba.getLsbD v = true ∧ d.hostif.linkUp = true ∧ d.hostif.msgEnable = true ∧ d.vectorMasked v = false then
    (if d.vectorPending v then (d.setPba v false).send (.msix v) else d.setPba v false)
  else d

def execMsixDeferredSend (vector : Fin 64) (s : State) :=
  s.onDev fun d => if d.hostif.linkUp then
      ({ d with hostif := { d.hostif with msgEnable := true } } : Dev).msixHeld vector.val
    else d

/-- A host write of a word of the MSI-X table; of Vector Control only the mask bit is written. -/
def Dev.msixTableWrite (d : Dev) (i : Nat) (v : Word) : Dev :=
  let w := if i % 4 = 3 then v &&& 1 else v
  ({ d with hostif := { d.hostif with msixTable := Sparse.set msixReset d.hostif.msixTable i w } } : Dev).msixHeld (i / 4)

def execMsixTableWrite (index : Fin 256) (v : Word) (s : State) :=
  s.onDev fun d => if d.hostif.linkUp then d.msixTableWrite index.val v else d

def execPcieLinkUp (enabled : Bool) (s : State) :=
  s.onDev fun d => { d with hostif := { d.hostif with linkUp := true, msgEnable := enabled } }

def execPcieLinkDown (s : State) :=
  s.onDev fun d => ({ d with hostif := { d.hostif with linkUp := false } } : Dev).masterReset 0

/-! ### Snapshots (R155, R156) -/

/-- Pages that a freeze of one page freezes. -/
def freezeSet (page : Nat) : List Nat :=
  if page = Reg.pageREF ∨ page = Reg.pagePTP then [Reg.pageREF, Reg.pagePTP] else [page]

/-- Is a page frozen by PG_SNAPSHOT? -/
def Dev.pageFrozen (d : Dev) (page : Nat) : Bool := d.hostif.frozen.any fun f => f.page == page

/-- FREEZE of a page. -/
def Dev.pageFreeze (d : Dev) (page : Nat) : Dev :=
  if d.pageFrozen page then d
  else
    let new := (freezeSet page).map fun p => (⟨p, d.pageImage p⟩ : Frozen)
    let d1 : Dev := { d with hostif := { d.hostif with frozen := d.hostif.frozen ++ new } }
    (freezeSet page).foldl (fun a p => a.setFlag (Reg.PG_SNAPSHOT p) 31 true) d1

/-- RELEASE of a page, or the end of its 100 ms: the pages frozen with it read on. -/
def Dev.pageRelease (d : Dev) (page : Nat) : Dev :=
  let d1 : Dev := { d with hostif := { d.hostif with frozen := d.hostif.frozen.filter fun f => !(freezeSet page).contains f.page } }
  (freezeSet page).foldl (fun a p => a.setFlag (Reg.PG_SNAPSHOT p) 31 false) d1

/-- A write of PG_SNAPSHOT. -/
def Dev.snapshotWrite (d : Dev) (page v : Nat) (w : Writer) : Dev :=
  d.gated page 0x028 w fun d =>
    let d1 := d.wrParams (Reg.PG_SNAPSHOT page) 3 v
    if v / 2 % 2 = 1 then d1.pageRelease page else if v % 2 = 1 then d1.pageFreeze page else d1

def execSnapshotFreeze (page : Nat) (w : Writer) (s : State) := s.onDev fun d => d.snapshotWrite page 1 w

def execSnapshotRelease (page : Nat) (w : Writer) (s : State) := s.onDev fun d => d.snapshotWrite page 2 w

/-- RELEASE of SYS_SNAPSHOT. -/
def Dev.sysRelease (d : Dev) : Dev :=
  ({ d with hostif := { d.hostif with sysFrozen := none } } : Dev).setFlag Reg.SYS_SNAPSHOT 31 false

/-- A write of SYS_SNAPSHOT. -/
def Dev.sysSnapshotWrite (d : Dev) (v : Nat) (w : Writer) : Dev :=
  d.gated Reg.pageSYS 0x058 w fun d =>
    let d1 := d.wrParams Reg.SYS_SNAPSHOT 3 v
    if v / 2 % 2 = 1 then d1.sysRelease
    else if v % 2 = 1 ∧ d1.hostif.sysFrozen.isNone = true then
      ({ d1 with hostif := { d1.hostif with sysFrozen := some d1.image } } : Dev).setFlag Reg.SYS_SNAPSHOT 31 true
    else d1

def execSysSnapshotFreeze (w : Writer) (s : State) := s.onDev fun d => d.sysSnapshotWrite 1 w

def execSysSnapshotRelease (w : Writer) (s : State) := s.onDev fun d => d.sysSnapshotWrite 2 w

def execSnapshotTimeout (page : Nat) (s : State) :=
  s.onDev fun d =>
    if page = 1 ∧ d.hostif.sysFrozen.isSome = true then d.sysRelease
    else if d.pageFrozen page then d.pageRelease page
    else d

/-! ### Census (R157 to R159, R789) -/

/-- Bytes of a census image (R158). -/
def censusSize : Nat := 64 + pagesInUse.length * 4104

/-- SYS_CENSUS_STAT, and BUSY gone. -/
def Dev.censusEnd (d : Dev) (stat : Nat) : Dev :=
  (({ d with hostif := { d.hostif with census := none } } : Dev).wrNat Reg.SYS_CENSUS_STAT stat).setFlag Reg.SYS_CENSUS_CTRL 31 false

/-- A census starts: its image is of this instant. -/
def Dev.censusStart (d : Dev) (c : Census) : Dev :=
  { d with hostif := { d.hostif with census := some { c with started := true, image := d.image, time := d.nowNs } } }

/-- SYS_CENSUS_CTRL GO: now, or on a slot. -/
def Dev.censusGo (d : Dev) (slot : Option Nat) (toDram : Bool) : Dev :=
  if d.flag Reg.SYS_CENSUS_CTRL 31 then d
  else
    let d1 := d.wrNat Reg.SYS_CENSUS_CTRL (0x80000001 + (match slot with
      | some k => 2 + k * 16
      | none => 0) + b2n toDram * 256)
    match slot with
    | none => (d1.wrNat Reg.SYS_CENSUS_STAT 1).censusStart ⟨none, toDram, false, [], 0, 0, 0⟩
    | some k =>
      if !d.planeOn (d.cslotTp k) then d1.censusEnd 0x33
      else
        let c : Census := ⟨some k, toDram, false, [], 0, d.cslotTp k, d.cslotF k⟩
        let d2 := d1.wrNat Reg.SYS_CENSUS_STAT 1
        if d.cslotInstant k ≤ d.time then d2.censusStart c
        else { d2 with hostif := { d2.hostif with census := some c } }

def execCensusGo (at_ : Option (Fin 16)) (toDram : Bool) (w : Writer) (s : State) :=
  s.onDev fun d => d.gated Reg.pageSYS 0x060 w fun d => d.censusGo (at_.map Fin.val) toDram

/-- The coordinate of a slot is reached: a census armed on it starts, after every commit due there. -/
def Dev.censusSlot (d : Dev) (k : Nat) : Dev :=
  match d.hostif.census with
  | some c => if c.slot = some k ∧ c.started = false then d.censusStart c else d
  | none => d

/-- One page record: page number, PG_ID, length, and the page with its shadow and live halves. -/
def censusRecord (img : List (Nat × Word)) (page : Nat) : List Byte :=
  bytesLE 2 page ++ bytesLE 4 (Sparse.get resetWord img (Reg.PG_ID page)).toNat ++ bytesLE 2 4096 ++
    (pageWords page).flatMap fun a => bytesLE 4 (Sparse.get resetWord img a).toNat

/-- The census image (R158). -/
def Dev.censusBytes (d : Dev) (c : Census) : List Byte :=
  let head := bytesLE 4 0x434E5353 ++ bytesLE 4 (1 + pagesInUse.length * 65536) ++ bytesLE 8 c.time ++
    bytesLE 8 (match c.slot with
      | some _ => c.plane % 8 + c.frame * 65536
      | none => 0) ++ bytesLE 8 (d.rd64 Reg.SYS_CHART_HASH_LO Reg.SYS_CHART_HASH_HI) ++ List.replicate 28 0
  let recs := pagesInUse.flatMap (censusRecord c.image)
  head ++ bytesLE 4 (Config.crc32 (head ++ recs)) ++ recs

/-- The census ends: too large, a bus error (banks A and B lie outside what its master reaches, R714), or written. -/
def Dev.censusComplete (d : Dev) (m : Mem) (busErr : Bool) : Dev × Mem :=
  match d.hostif.census with
  | none => (d, m)
  | some c =>
    let a := d.rd64 Reg.SYS_CENSUS_ADDR_LO Reg.SYS_CENSUS_ADDR_HI
    if !c.started then (d, m)
    else if (d.rd Reg.SYS_CENSUS_LIMIT).toNat < censusSize then
      (((d.censusEnd 0x13).wrNat Reg.SYS_CENSUS_LEN censusSize).raise Reg.pageSYS 5 0, m)
    else if busErr || (c.toDram && !d.bankOpen 7 (busDramBase + a) censusSize) then ((d.censusEnd 0x23).raise Reg.pageSYS 5 0, m)
    else (((d.censusEnd 2).wrNat Reg.SYS_CENSUS_LEN censusSize).raise Reg.pageSYS 4 0, m.setBytes c.toDram a (d.censusBytes c))

def execCensusComplete (busErr : Bool) (s : State) := s.onBoth fun d m => d.censusComplete m busErr

/-! ### Coordinate slots (R140, R157, R176) -/

/-- The coordinate of a slot is reached: commits, then a census, then a Chart load armed on it. -/
def execSlotCoordinate (slot : Fin 16) (s : State) :=
  s.onDevHost [] fun m d => ((d.slotCommits slot.val).censusSlot slot.val).chartSlot m slot.val

/-! ### The event window (R164) -/

/-- A write of SYS_EVT_RD: an entry that has been overwritten sets EVT_OVERRUN. -/
def Dev.evtRead (d : Dev) (seq : Word) : Dev :=
  let d1 := d.wr Reg.SYS_EVT_RD seq
  if d1.evtOver then d1.raise Reg.pageSYS 2 0 else d1

def execEvtRead (seq : Word) (w : Writer) (s : State) :=
  s.onDev fun d => d.gated Reg.pageSYS 0x084 w fun d => d.evtRead seq

/-! ### Soft reset (R582, R750) -/

/-- Bus-matrix masters of a page's block (R577). -/
def softMasters (page : Nat) : List Nat :=
  match pageType page with
  | 0x01 => [7, 11]
  | 0x07 => [10]
  | 0x08 => [3]
  | 0x0E => [5]
  | 0x0F => [6]
  | 0x10 => [4, 13]
  | 0x11 => [9]
  | 0x12 => [2]
  | 0x19 => [8]
  | _ => []

/-- A register of a page that is reset: written bits and live copies return to their reset values, except those a Chart sets at boot
alone and coordinate slots that are busy (R143). -/
def Dev.softWord (d : Dev) (page off : Nat) : Dev :=
  let a := page * 0x1000 + off
  match regRow page off with
  | none => d
  | some r =>
    if page = 1 ∧ 0x100 ≤ off ∧ off < 0x200 ∧ d.slotArmed ((off - 0x100) / 16) ≠ 0 then d
    else
      let m := BitVec.ofNat 32 (r.rw ||| r.rs ||| r.sh)
      let l := shMask page off &&& ~~~ bootOnly a
      let d1 := d.wr a (merge m (d.rd a) (resetWord a))
      if l = 0 then d1 else d1.wr (a + 0x800) (merge l (d1.rd (a + 0x800)) (resetWord (a + 0x800)))

/-- The registers of a page at reset, and the Chart's PAGE_INIT for it (R174). -/
def Dev.softRegs (d : Dev) (page : Nat) : Dev :=
  let d1 := ((List.range 496).map fun i => 0x040 + 4 * i).foldl (fun a o => a.softWord page o) d
  match d.hostif.chart with
  | none => d1
  | some c => d1.chartEdit false { c with
      twinPresent := c.twinPresent && page == Reg.pageTWN, pageInit := c.pageInit.filter fun p => p.1 / 0x1000 == page }

/-- The entries of a page, by their numbers in the device. -/
def entriesAt (page first : Nat) : List Nat := entries16.map fun e => (page - first) * 16 + e

/-- What a block of a media type keeps beyond its registers starts again. -/
def Dev.blockRestart (d : Dev) (page : Nat) : Dev :=
  match pageType page with
  | 0x01 => ({ d with hostif := { d.hostif with census := none } } : Dev).wrNat Reg.SYS_CENSUS_STAT 0
  | 0x18 =>
    let p := page - 0x50
    let d1 := (d.setApt p AptX.reset).setAptState p 0
    if d1.aptEn p && d1.dataRuns then d1.aptStart p else d1
  | 0x17 => d.setFilX (page - 0x40) FilX.reset
  | 0x19 =>
    let k := page - 0x60
    ((d.setRingX k RingX.reset).wrNat (Reg.MAC_RING_RX_HEAD k) 0).wrNat (Reg.MAC_RING_TX_HEAD k) 0
  | 0x1A =>
    let n := page - 0x100
    (d.setLaneX n LaneX.reset).rxRestart n
  | 0x1B =>
    let n := page - 0x200
    let d1 := (d.setSdi n SdiIn.reset).setSdiState n sdiIdle 0
    (({ d1 with sdiOut := Sparse.set (fun _ => SdiOut.reset) d1.sdiOut n SdiOut.reset } : Dev).sdiShow n).sdiTxShow n
  | 0x1C =>
    let n := page - 0x300
    let d1 := ((d.setLink n false).setMacX n MacX.reset).setTsq n []
    ((d1.wrNat (Reg.MAC_STAT n) 0).wrNat (Reg.MAC_PAUSE_LEFT n) 0).wrNat (Reg.MAC_TSQ_TAG n) 0
  | 0x1F => (entriesAt page 0x680).foldl (fun a k => match a.store k with
      | some x => a.setStore k (some (Store.fresh x.depth))
      | none => a) d
  | 0x20 => (entriesAt page 0x800).foldl (fun a r => (a.setFlowIn r FlowIn.reset).setRxStat r 0 0) d
  | 0x21 => (entriesAt page 0x900).foldl (fun a t => a.setFlowOut t FlowOut.reset) d
  | 0x22 => (entriesAt page 0xA00).foldl (fun a o => (a.setAudOut o AudOut.reset).wrNat (Reg.AUD_O_STAT o) 0) d
  | _ => d

/-- Words of a page whose kept bits differ between two states. -/
def keptChanges (old d : Dev) (page : Nat) : List (Nat × Word) :=
  (((old.regs ++ d.regs).filterMap fun p =>
    if p.1 / 0x1000 = page ∧ (old.rd p.1 ^^^ d.rd p.1) &&& keptMask [] p.1 ≠ 0 then some p.1 else none).eraseDups).map fun a => (a, d.rd a)

/-- SOFT_RESET of the block of a page (notes/assumptions/23.md): a commit that waits goes, the registers return to reset and
the Chart's values, the block follows them as on a commit, and bursts of its master are completed. -/
def Dev.softReset (d : Dev) (page : Nat) : Dev :=
  if d.sealing && keptTypes.contains (pageType page) then d
  else
    let d1 := if (d.commitOf page).isSome then ((d.commitDrop page).wrNat (Reg.PG_COMMIT_STAT page) 0).jAppend [.commitArm page none] else d
    let d2 := d1.softRegs page
    let d3 := (pageEffect d1 d2 page entries16).blockRestart page
    let ws := keptChanges d1 d3 page
    let d4 := if ws ≠ [] then d3.jAppend [.pageWrite page ws] else d3
    (((softMasters page).foldl (fun a n => a.masterReset n) d4).surfRefresh).fsRefresh.hrtRefresh

/-- A write of PG_CTRL with SOFT_RESET 1. -/
def Dev.softWrite (d : Dev) (page : Nat) (w : Writer) : Dev :=
  d.gated page 0x00C w fun d => (d.wrParams (Reg.PG_CTRL page) 2 2).softReset page

def execSoftReset (page : Nat) (w : Writer) (s : State) := s.onDev fun d => d.softWrite page w

/-! ### Writes of registers (R137, R142, R143, R149, R161, R602, R760, R762, R791) -/

/-- RW fields with stated ranges, aligned addresses among them (R791). -/
def rwRanges : List FieldRange := [
  ⟨0x01, 0x040, 1, 0, 1, 0, 31, 0, 1, [(0, 0)]⟩,             -- SYS_BAR2_BASE_LO
  ⟨0x01, 0x044, 1, 0, 1, 0, 31, 0, 2, [(0, 0xFFFFFFFF)]⟩,    -- SYS_BAR2_BASE_HI, a multiple of 8 GB
  ⟨0x01, 0x064, 1, 0, 1, 0, 31, 0, 4096, [(0, 0xFFFFFFFF)]⟩, -- SYS_CENSUS_ADDR_LO
  ⟨0x02, 0x078, 1, 0, 1, 0, 24, 16, 1, [(1, 500)]⟩,          -- REF_PPS_OUT WIDTH
  ⟨0x05, 0x050, 1, 0, 1, 0, 3, 0, 1, [(0, 6)]⟩,              -- TAKE_REQ_OP
  ⟨0x05, 0x080, 1, 0, 1, 0, 31, 0, 8, [(0, 0xFFFFFFFF)]⟩,    -- TAKE_SALVO_ADDR_LO
  ⟨0x07, 0x04C, 1, 0, 1, 0, 7, 0, 1, [(0, 191)]⟩,            -- FAB_LN_SEL
  ⟨0x08, 0x060, 1, 0, 1, 0, 31, 0, 4096, [(0, 0xFFFFFFFF)]⟩, -- HIE_MAP_ADDR_LO
  ⟨0x08, 0x080, 1, 0, 1, 0, 3, 0, 1, [(0, 6)]⟩,              -- HIE_REQ_OP
  ⟨0x08, 0x090, 1, 0, 1, 0, 31, 0, 8, [(0, 0xFFFFFFFF)]⟩,    -- HIE_SALVO_ADDR_LO
  ⟨0x08, 0x098, 1, 0, 1, 0, 12, 0, 1, [(1, 4096)]⟩,          -- HIE_SALVO_COUNT
  ⟨0x0C, 0x054, 1, 0, 1, 0, 4, 0, 1, [(0, 23)]⟩,             -- DDR_PSEL
  ⟨0x0F, 0x058, 1, 0, 1, 0, 31, 0, 64, [(0, 0xFFFFFFFF)]⟩,   -- CRU_LIB_ADDR_LO
  ⟨0x12, 0x084, 1, 0, 1, 0, 31, 0, 64, [(0, 0xFFFFFFFF)]⟩,   -- HAL_CMD_ADDR_LO
  ⟨0x13, 0x050, 1, 0, 1, 0, 31, 0, 64, [(0, 0xFFFFFFFF)]⟩    -- UPD_CHUNK_ADDR_LO
  ]

/-- The word that an RW write leaves: a field given a value it does not name keeps the old one. -/
def rwWord (page off : Nat) (old v : Word) : Word :=
  rwRanges.foldl (fun w r =>
    if r.typ = pageType page ∧ r.off = off ∧ r.allows (bits v r.hi r.lo) = false then setBits w r.hi r.lo (bits old r.hi r.lo) else w) v

/-- Trigger bits by page type and offset; every other TR bit is a parameter. -/
def triggerMask (typ off : Nat) : Nat :=
  let l : List (Nat × Nat × Nat) := [
    (0x01, 0x058, 3), (0x01, 0x060, 1), (0x01, 0x0D0, 1), (0x01, 0x208, 4), (0x05, 0x054, 1), (0x05, 0x094, 5), (0x08, 0x05C, 1),
    (0x08, 0x068, 1), (0x08, 0x084, 1), (0x08, 0x0A4, 5), (0x0E, 0x050, 1), (0x0F, 0x048, 1), (0x10, 0x054, 1), (0x13, 0x05C, 1),
    (0x1A, 0x078, 3), (0x1C, 0x404, 1)]
  ((l.find? fun x => x.1 == typ && x.2.1 == off).map fun x => x.2.2).getD 0

/-- Is every write of this register a request? -/
def requestReg (typ off : Nat) : Bool :=
  let l : List (Nat × Nat) := [(0x08, 0x048), (0x0F, 0x050), (0x10, 0x048), (0x11, 0x040), (0x11, 0x058), (0x12, 0x080), (0x13, 0x070)]
  l.contains (typ, off)

/-- A request whose code the field's description does not name is refused in its result (R791); one that it names has a row of its
own. -/
def Dev.badRequest (d : Dev) (typ : Nat) (v : Nat) (w : Writer) : Dev :=
  match typ with
  | 0x08 => if 2 ≤ v % 4 then d.roleCmd w (v % 16384) fun d => d.roleEnd 0 else d
  | 0x0F => if 2 ≤ v % 4 then d.libGo w (v % 8) fun d _ => d.libEnd 2 0 else d
  | 0x11 => if 5 ≤ v % 8 then ((d.wrParams Reg.PWR_CMD 7 v).pwrResult 3 0).pwrAccount 0 0 (v % 8) else d
  | 0x12 => if 8 ≤ v % 16 then d.halCmd w (v % 16) fun d => d.halRefuse 0 else d
  | 0x13 => if 7 ≤ v % 16 then d.updCmd w (v % 4096) fun d => d.updRefuse 0 else d
  | _ => d

/-- What a selector or a counter shown from beside the registers does when it is written. -/
def Dev.rwEffect (d : Dev) (page off : Nat) : Dev :=
  match pageType page, off with
  | 0x04, 0x04C => d.hrtRefresh
  | 0x07, 0x04C => d.fabShow
  | 0x07, 0x07C => d.placeShow
  | 0x08, 0x0C0 => d.peerShow
  | 0x0B, 0x054 => d.audInShow
  | 0x0C, 0x054 => d.ddrShow
  | 0x13, 0x090 => d.updPosShow
  | 0x07, o =>
    if 0x050 ≤ o ∧ o < 0x060 then d.updFab (d.fld Reg.FAB_LN_SEL 7 0) fun x => { x with
      cntFrame := d.fld Reg.FAB_LN_CNT_FRAME 31 0, cntBad := d.fld Reg.FAB_LN_CNT_BAD 31 0
      cntGap := d.fld Reg.FAB_LN_CNT_GAP 31 0, cntCells := d.fld Reg.FAB_LN_CNT_CELLS 31 0 }
    else d
  | 0x1C, o =>
    let m := page - 0x300
    let x := d.macX m
    let lo := fun (i old : Nat) => old / 2 ^ 32 * 2 ^ 32 + d.fld (Reg.MAC_CNT m i) 31 0
    let hi := fun (i old : Nat) => old % 2 ^ 32 + d.fld (Reg.MAC_CNT m i) 31 0 * 2 ^ 32
    if o = 0x084 then d.setMacX m { x with rxBytes := lo 1 x.rxBytes }
    else if o = 0x088 then d.setMacX m { x with rxBytes := hi 2 x.rxBytes }
    else if o = 0x090 then d.setMacX m { x with txBytes := lo 4 x.txBytes }
    else if o = 0x094 then d.setMacX m { x with txBytes := hi 5 x.txBytes }
    else d
  | _, _ => d

/-- The RW bits of a register take effect at once; those that Temper keeps are journalled, and do not change while the journal
is closed (R602). -/
def Dev.rwStore (d : Dev) (page off : Nat) (v : Word) : Dev :=
  let a := page * 0x1000 + off
  let m := BitVec.ofNat 32 (((regRow page off).map RegRow.rw).getD 0)
  let kept := keptMask [] a &&& m != 0
  let new := merge m (d.rd a) (rwWord page off (d.rd a) v)
  if m = 0 ∨ (kept = true ∧ d.sealing = true) then d
  else
    let d1 := d.wr a new
    let d2 := if kept ∧ new ≠ d.rd a then d1.jAppend [.pageWrite page [(a, new)]] else d1
    d2.rwEffect page off

/-- Does a shadow mirror another register, so that it ignores writes: LN_QUAD_CFG of lanes other than 4q (R188), and CFG of the three
other entries of a group destination (R333)? -/
def Dev.mirrorReg (d : Dev) (page off : Nat) : Bool :=
  (pageType page == 0x1A && off == 0x080 && (page - 0x100) % 4 != 0) ||
    (pageType page == 0x1E && (off - 0x100) % 0x60 == 0 && (off - 0x100) / 0x60 % 4 != 0 &&
      d.liveFlag (Reg.TAKE_DST_CFG ((page - 0x600) * 16 + (off - 0x100) / 0x60 / 4 * 4)) 15)

/-- The SH bits of a register go to the shadow, unless the page is armed (R142). -/
def Dev.shStore (d : Dev) (page off : Nat) (v : Word) : Dev :=
  let a := page * 0x1000 + off
  let m := shMask page off
  if m = 0 ∨ d.mirrorReg page off = true then d
  else if d.armed page then d.bump Reg.SYS_ARMED_WR_CNT 15 0
  else d.wr a (merge m (d.rd a) v)

/-- A write of PG_CTRL: EN and VECTOR. EN of a compositor the part does not have cannot be set (R4). -/
def Dev.ctrlStore (d : Dev) (page : Nat) (v : Word) : Dev :=
  let a := Reg.PG_CTRL page
  let old := d.vectorOf page
  let w := if d.partH && pageType page == 0x17 && absentOnH page then setBits v 0 0 0 else v
  let d1 := (d.rwStore page 0x00C w).setFlag a 1 (bit v 1)
  let d2 : Dev := if old = 0 ∨ d1.vectorPending old = true then d1
    else { d1 with hostif := { d1.hostif with vecPend := d1.hostif.vecPend &&& ~~~ (1#64 <<< old) } }
  d2.irqUpdate page false

/-- A write that reaches a register without trigger (R137). -/
def Dev.regStore (d : Dev) (page off : Nat) (v : Word) (w : Writer) : Dev :=
  let a := page * 0x1000 + off
  let typ := pageType page
  let trig := triggerMask typ off
  if 0x040 ≤ off ∧ d.macIdle page = true then d
  else if off = 0x00C then d.ctrlStore page v
  else if off = 0x01C then (d.rwStore page off v).irqUpdate page true
  else if off = 0x020 then d.wrParams a 0xF2 v.toNat
  else if off = 0x028 then d
  else if off = 0x02C then
    (if v.toNat % 4 = 3 ∨ page = Reg.pageSYS ∨ page = Reg.pagePWR ∨ page = Reg.pageHAL then d else d.rwStore page off v)
  else if page = 1 ∧ 0x100 ≤ off ∧ off < 0x200 ∧ off % 16 ≠ 12 ∧ d.slotArmed ((off - 0x100) / 16) ≠ 0 then d.raise Reg.pageSYS 1 0
  else if a = Reg.REF_FREQ_CORR then d.freqCorrWrite v
  else if a = Reg.REF_HO_CTRL then
    (let d1 := d.rwStore page off v
    if bit v 31 then (d1.hoMemClear).setFlag Reg.REF_HO_CTRL 31 true else d1)
  else if a = Reg.SYS_EVT_RD then d.evtRead v
  else if a = Reg.UPD_MISS_NEXT then d.missNext (v.toNat % 65536)
  else if a = Reg.XBM_WAIT_SEL then (d.wrParams a 0xFF v.toNat).wrNat Reg.XBM_WAIT_MAX 0
  else if requestReg typ off then d.badRequest typ v.toNat w
  else if trig ≠ 0 then
    (if v.toNat &&& trig = 0 then d.wrParams a (((regRow page off).map RegRow.tr).getD 0) v.toNat else d)
  else if typ = 0x19 ∧ off = 0x058 then
    d.tailWrite (page - 0x60) a (Reg.MAC_RING_RX_HEAD (page - 0x60)) (Reg.MAC_RING_RX_COUNT (page - 0x60)) off v.toNat w
  else if typ = 0x19 ∧ off = 0x094 then
    d.tailWrite (page - 0x60) a (Reg.MAC_RING_TX_HEAD (page - 0x60)) (Reg.MAC_RING_TX_COUNT (page - 0x60)) off v.toNat w
  else (d.rwStore page off v).shStore page off v

/-- A 32-bit write of BAR0 (R137). A write that starts an action with a row of its own is that row's command: here it acts where the
value alone says all of it, and otherwise not at all (notes/assumptions/24.md). -/
def Dev.regWrite (d : Dev) (a : Nat) (v : Word) (w : Writer) : Dev :=
  let page := a / 0x1000
  let off := a % 0x1000
  let n := v.toNat
  match (entries16.find? fun e => entryStickyAddr page e == some a) with
  | some e => d.entryWrite page e v w
  | none =>
    if off = 0x014 then d.stickyWrite page false v w
    else if off = 0x018 then d.stickyWrite page true v w
    else if off = 0x00C ∧ bit v 1 = true then d.gated page off w fun d => (d.softReset page).ctrlStore page v
    else if off = 0x020 ∧ (bit v 0 || bit v 2) = true then
      d.commitWrite page w n fun d =>
        if bit v 2 then d.commitDisarm page else if bit v 1 then d.commitArmOn page (n / 16 % 16) else d.commitNow page
    else if off = 0x028 then d.snapshotWrite page (n % 4) w
    else if a = Reg.SYS_SNAPSHOT then d.sysSnapshotWrite (n % 4) w
    else d.gated page off w fun d => d.regStore page off v w

def execRegisterWrite (addr : Nat) (v : Word) (w : Writer) (s : State) :=
  guarded (bar0Word addr) (s.onDev fun d => d.regWrite addr v w)

/-! ### Services on the control cores (R168 to R171) -/

/-- A management command writes a register as the HOST class; one that the owner rule refuses answers NOT_OWNER (R170). -/
def Dev.mgmtWrite (d : Dev) (session a : Nat) (v : Word) : Dev :=
  let w : Writer := ⟨.host, session + 1⟩
  let refused := d.gate (a / 0x1000) (a % 0x1000) w = .violation
  (d.regWrite a v w).send (.mgmtReply session (decide refused))

def execMgmtCommand (session : Fin 9) (addr : Nat) (v : Word) (s : State) :=
  guarded (bar0Word addr) (s.onDev fun d =>
    if if session.val = 8 then d.serviceOn 1 else d.hostif.sessions.getD session.val false then d.mgmtWrite session.val addr v else d)

/-- A TLS session is opened or refused, and audited (R171, R703): it needs the service, a Hallmark that serves with its TLS key and
certificate, a session that is free, and a client certificate. -/
def Dev.tlsOpen (d : Dev) (k : Nat) (certOk : Bool) : Dev :=
  if d.serviceOn 0 && d.halServes && d.hal.tlsKey && d.hal.cert && certOk && !d.hostif.sessions.getD k false then
    ({ d with hostif := { d.hostif with sessions := d.hostif.sessions.set k true } } : Dev).audit 0x06 3 0 0xF k 0
  else (d.audit 0x06 3 1 0xF k 0).send (.tlsRefused k)

def execTlsSessionOpen (session : Fin 8) (certOk : Bool) (s : State) := s.onDev fun d => d.tlsOpen session.val certOk

/-- The shadow writes of an activation and its commit; one whose time has passed is a slip (R169). -/
def Dev.is05Commit (d : Dev) (r : Is05Req) (slip : Bool) : Dev :=
  let w : Writer := ⟨.host, 9⟩
  let d1 := r.writes.foldl (fun a x => a.regWrite (r.page * 0x1000 + x.1) x.2 w) d
  let d2 := d1.commitWrite r.page w 1 fun d => d.commitNow r.page
  if slip then d2.setCommits (d2.hostif.commits.map fun q => if q.page = r.page ∧ q.slot.isNone = true then { q with slipped := true } else q)
  else d2

/-- An IS-05 activation: at once, or kept until its time. -/
def Dev.is05 (d : Dev) (r : Is05Req) : Dev :=
  if d.gate r.page 0x020 ⟨.host, 9⟩ = .violation then (d.ownerViol r.page 0x020 ⟨.host, 9⟩).send (.mgmtReply 8 true)
  else match r.at? with
    | none => (d.is05Commit r false).send (.mgmtReply 8 false)
    | some t =>
      if t < d.nowNs then (d.is05Commit r true).send (.mgmtReply 8 false)
      else ({ d with hostif := { d.hostif with is05 := d.hostif.is05 ++ [r] } } : Dev).send (.mgmtReply 8 false)

def execIs05Activation (page : Nat) (writes : List (Nat × Word)) (plane : Fin 8) (at_ : Option Nat) (s : State) :=
  guarded (is05Ok page writes) (s.onDev fun d => if d.serviceOn 1 then d.is05 ⟨page, writes, plane.val, at_⟩ else d)

/-- The activation that is due first. -/
def Dev.is05Due (d : Dev) : Option Is05Req :=
  let due := d.hostif.is05.filter fun r => r.at?.any fun t => decide (t ≤ d.nowNs)
  due.find? fun r => due.all fun q => decide (r.at?.getD 0 ≤ q.at?.getD 0)

/-- The commit line of a scheduled activation: its commit applies at it. -/
def Dev.is05Line (d : Dev) : Dev :=
  match d.is05Due with
  | none => d
  | some r =>
    let d1 : Dev := { d with hostif := { d.hostif with is05 := d.hostif.is05.erase r } }
    (d1.is05Commit r false).commitApply [(r.page, none)]

def execIs05ScheduledDue (s : State) := s.onDev Dev.is05Line

end Sys2Proof.Machine
end

