-- ==== Sys2Proof/Machine/Dispatch.lean ====
section
/-!
DEFINITION. The dispatch: one arm per constructor of `Instr`, each a direct call of the command's meaning.
-/

namespace Sys2Proof.Machine

open Sys2Proof

/-- The effect of a command on everything but the queue. -/
def exec (i : Instr) (s : State) : Host.Outcome State Fault Refusal :=
  match i with
  | .registerWrite addr v w => Sys2Proof.Machine.execRegisterWrite addr v w s
  | .bar0BadAccess addr size write => Sys2Proof.Machine.execBar0BadAccess addr size write s
  | .stickyWrite page irqEn v w => Sys2Proof.Machine.execStickyWrite page irqEn v w s
  | .entryStickyWrite reg v w => Sys2Proof.Machine.execEntryStickyWrite reg v w s
  | .msixDeferredSend vector => Sys2Proof.Machine.execMsixDeferredSend vector s
  | .softReset page w => Sys2Proof.Machine.execSoftReset page w s
  | .commitNow page slot w => Sys2Proof.Machine.execCommitNow page slot w s
  | .commitArm page slot w => Sys2Proof.Machine.execCommitArm page slot w s
  | .commitDisarm page w => Sys2Proof.Machine.execCommitDisarm page w s
  | .slotCoordinate slot => Sys2Proof.Machine.execSlotCoordinate slot s
  | .commitApply items => Sys2Proof.Machine.execCommitApply items s
  | .snapshotFreeze page w => Sys2Proof.Machine.execSnapshotFreeze page w s
  | .snapshotRelease page w => Sys2Proof.Machine.execSnapshotRelease page w s
  | .snapshotTimeout page => Sys2Proof.Machine.execSnapshotTimeout page s
  | .sysSnapshotFreeze w => Sys2Proof.Machine.execSysSnapshotFreeze w s
  | .sysSnapshotRelease w => Sys2Proof.Machine.execSysSnapshotRelease w s
  | .censusGo at_ toDram w => Sys2Proof.Machine.execCensusGo at_ toDram w s
  | .censusComplete busErr => Sys2Proof.Machine.execCensusComplete busErr s
  | .evtRead seq w => Sys2Proof.Machine.execEvtRead seq w s
  | .chartLoad at_ w => Sys2Proof.Machine.execChartLoad at_ w s
  | .chartHoldEnd => Sys2Proof.Machine.execChartHoldEnd s
  | .chartAccepted => Sys2Proof.Machine.execChartAccepted s
  | .mgmtCommand session addr v => Sys2Proof.Machine.execMgmtCommand session addr v s
  | .tlsSessionOpen session certOk => Sys2Proof.Machine.execTlsSessionOpen session certOk s
  | .is05Activation page writes plane at_ => Sys2Proof.Machine.execIs05Activation page writes plane at_ s
  | .is05ScheduledDue => Sys2Proof.Machine.execIs05ScheduledDue s
  | .refinFrmPulse n kind phase freq => Sys2Proof.Machine.execRefinFrmPulse n kind phase freq s
  | .ppsInPulse kind phase freq => Sys2Proof.Machine.execPpsInPulse kind phase freq s
  | .refClockAbsent c => Sys2Proof.Machine.execRefClockAbsent c s
  | .candidateQualifies c phase freq => Sys2Proof.Machine.execCandidateQualifies c phase freq s
  | .holdoffEnd c => Sys2Proof.Machine.execHoldoffEnd c s
  | .slewEnd => Sys2Proof.Machine.execSlewEnd s
  | .timeStep => Sys2Proof.Machine.execTimeStep s
  | .loopUpdate phase => Sys2Proof.Machine.execLoopUpdate phase s
  | .lockAchieved => Sys2Proof.Machine.execLockAchieved s
  | .hoMemValid => Sys2Proof.Machine.execHoMemValid s
  | .hoMemClear w => Sys2Proof.Machine.execHoMemClear w s
  | .holdoverLong => Sys2Proof.Machine.execHoldoverLong s
  | .loscFail => Sys2Proof.Machine.execLoscFail s
  | .loscRecovered => Sys2Proof.Machine.execLoscRecovered s
  | .refDisagreeWindow a b => Sys2Proof.Machine.execRefDisagreeWindow a b s
  | .swPeriodEnd phase => Sys2Proof.Machine.execSwPeriodEnd phase s
  | .refFreqCorrWrite w v => Sys2Proof.Machine.execRefFreqCorrWrite w v s
  | .ppsOutEdge => Sys2Proof.Machine.execPpsOutEdge s
  | .candidateAbsent c => Sys2Proof.Machine.execCandidateAbsent c s
  | .ptpTimeRead => Sys2Proof.Machine.execPtpTimeRead s
  | .tsqPop mac w => Sys2Proof.Machine.execTsqPop mac w s
  | .ptpSyncRx port ingress origin correction logSync => Sys2Proof.Machine.execPtpSyncRx port ingress origin correction logSync s
  | .ptpDelayRespRx port t1 t2 t3 t4 => Sys2Proof.Machine.execPtpDelayRespRx port t1 t2 t3 t4 s
  | .ptpAnnounceRx port a => Sys2Proof.Machine.execPtpAnnounceRx port a s
  | .ptpAnnounceTimeout port => Sys2Proof.Machine.execPtpAnnounceTimeout port s
  | .ptpMessageSend port kind => Sys2Proof.Machine.execPtpMessageSend port kind s
  | .ttReqSend => Sys2Proof.Machine.execTtReqSend s
  | .timeXferRx lane x ingress => Sys2Proof.Machine.execTimeXferRx lane x ingress s
  | .ttLaneReturn => Sys2Proof.Machine.execTtLaneReturn s
  | .aonCalibrate ratio => Sys2Proof.Machine.execAonCalibrate ratio s
  | .refclkLost k => Sys2Proof.Machine.execRefclkLost k s
  | .refclkRestored k => Sys2Proof.Machine.execRefclkRestored k s
  | .quadPllLocked q => Sys2Proof.Machine.execQuadPllLocked q s
  | .cdrLock n frac => Sys2Proof.Machine.execCdrLock n frac s
  | .cdrHuntTimeout n => Sys2Proof.Machine.execCdrHuntTimeout n s
  | .blockLock n => Sys2Proof.Machine.execBlockLock n s
  | .trsAlign n => Sys2Proof.Machine.execTrsAlign n s
  | .rawLock n ofs => Sys2Proof.Machine.execRawLock n ofs s
  | .blockLockLost n => Sys2Proof.Machine.execBlockLockLost n s
  | .alignHuntTimeout n => Sys2Proof.Machine.execAlignHuntTimeout n s
  | .cdrLost n => Sys2Proof.Machine.execCdrLost n s
  | .invPolaritySeen n => Sys2Proof.Machine.execInvPolaritySeen n s
  | .prbsSync n => Sys2Proof.Machine.execPrbsSync n s
  | .prbsSyncLost n bits errs => Sys2Proof.Machine.execPrbsSyncLost n bits errs s
  | .prbsSat n bits errs => Sys2Proof.Machine.execPrbsSat n bits errs s
  | .prbsErrRead n bits errs => Sys2Proof.Machine.execPrbsErrRead n bits errs s
  | .prbsClear n w => Sys2Proof.Machine.execPrbsClear n w s
  | .prbsInject n w => Sys2Proof.Machine.execPrbsInject n w s
  | .sdiLineRx n x => Sys2Proof.Machine.execSdiLineRx n x s
  | .sdiLost n => Sys2Proof.Machine.execSdiLost n s
  | .sdiValid n => Sys2Proof.Machine.execSdiValid n s
  | .descChg n => Sys2Proof.Machine.execDescChg n s
  | .sdiTxLine n f l x => Sys2Proof.Machine.execSdiTxLine n f l x s
  | .macFrameRx m x => Sys2Proof.Machine.execMacFrameRx m x s
  | .pauseEnd m => Sys2Proof.Machine.execPauseEnd m s
  | .macLinkUp m order => Sys2Proof.Machine.execMacLinkUp m order s
  | .macLinkFault m localFault remoteFault => Sys2Proof.Machine.execMacLinkFault m localFault remoteFault s
  | .rxTailWrite k v cells w => Sys2Proof.Machine.execRxTailWrite k v cells w s
  | .rxIrqModTimer k => Sys2Proof.Machine.execRxIrqModTimer k s
  | .ringDisableDone k => Sys2Proof.Machine.execRingDisableDone k s
  | .txTailWrite k v cells w => Sys2Proof.Machine.execTxTailWrite k v cells w s
  | .macFrameTx m core => Sys2Proof.Machine.execMacFrameTx m core s
  | .lpiEnter m => Sys2Proof.Machine.execLpiEnter m s
  | .lpiWakeDone m => Sys2Proof.Machine.execLpiWakeDone m s
  | .lldpRx m tw => Sys2Proof.Machine.execLldpRx m tw s
  | .lldpExpiry m => Sys2Proof.Machine.execLldpExpiry m s
  | .flowPacketRx m p => Sys2Proof.Machine.execFlowPacketRx m p s
  | .flowLineRelease r f l active first final => Sys2Proof.Machine.execFlowLineRelease r f l active first final s
  | .flowLost r => Sys2Proof.Machine.execFlowLost r s
  | .flowAudioRestore r => Sys2Proof.Machine.execFlowAudioRestore r s
  | .flowPacketTx t f k l last => Sys2Proof.Machine.execFlowPacketTx t f k l last s
  | .igmpReportRepeat r => Sys2Proof.Machine.execIgmpReportRepeat r s
  | .igmpQueryRx m q => Sys2Proof.Machine.execIgmpQueryRx m q s
  | .hearthRead k f l active => Sys2Proof.Machine.execHearthRead k f l active s
  | .take w => Sys2Proof.Machine.execTake w s
  | .takeCancel w => Sys2Proof.Machine.execTakeCancel w s
  | .lock w => Sys2Proof.Machine.execLock w s
  | .unlock w => Sys2Proof.Machine.execUnlock w s
  | .protect w => Sys2Proof.Machine.execProtect w s
  | .unprotect w => Sys2Proof.Machine.execUnprotect w s
  | .forceRelease w => Sys2Proof.Machine.execForceRelease w s
  | .holdDeferredApply r => Sys2Proof.Machine.execHoldDeferredApply r s
  | .leadLimit r f => Sys2Proof.Machine.execLeadLimit r f s
  | .switchLine r f => Sys2Proof.Machine.execSwitchLine r f s
  | .salvoRequest dram cells w => Sys2Proof.Machine.execSalvoRequest dram cells w s
  | .salvoCancel w => Sys2Proof.Machine.execSalvoCancel w s
  | .frameLock n => Sys2Proof.Machine.execFrameLock n s
  | .frameLockLost n => Sys2Proof.Machine.execFrameLockLost n s
  | .fabricCellRx n x => Sys2Proof.Machine.execFabricCellRx n x s
  | .laneIdRx n x => Sys2Proof.Machine.execLaneIdRx n x s
  | .laneInService n => Sys2Proof.Machine.execLaneInService n s
  | .rawCtlRx n x => Sys2Proof.Machine.execRawCtlRx n x s
  | .placementDecide us view unfit choices extra stopped => Sys2Proof.Machine.execPlacementDecide us view unfit choices extra stopped s
  | .placeItemApply item => Sys2Proof.Machine.execPlaceItemApply item s
  | .moveSplice crossing => Sys2Proof.Machine.execMoveSplice crossing s
  | .moveAbort crossing => Sys2Proof.Machine.execMoveAbort crossing s
  | .tongsMessageRx lane m tag => Sys2Proof.Machine.execTongsMessageRx lane m tag s
  | .tongsRelay lane m => Sys2Proof.Machine.execTongsRelay lane m s
  | .ackRx lane h tag => Sys2Proof.Machine.execAckRx lane h tag s
  | .nakRoleRx lane h tag pos role epoch manager => Sys2Proof.Machine.execNakRoleRx lane h tag pos role epoch manager s
  | .roleQueryRx lane h tag => Sys2Proof.Machine.execRoleQueryRx lane h tag s
  | .roleSetRx lane h tag t => Sys2Proof.Machine.execRoleSetRx lane h tag t s
  | .takeMsgRx lane h tag l => Sys2Proof.Machine.execTakeMsgRx lane h tag l s
  | .takeResultRx lane h tag l => Sys2Proof.Machine.execTakeResultRx lane h tag l s
  | .salvoPrepRx lane h tag p l => Sys2Proof.Machine.execSalvoPrepRx lane h tag p l s
  | .salvoReadyRx lane h tag p ready reason idx got => Sys2Proof.Machine.execSalvoReadyRx lane h tag p ready reason idx got s
  | .salvoCommitRx lane h tag p => Sys2Proof.Machine.execSalvoCommitRx lane h tag p s
  | .salvoAbortRx lane h tag p reason => Sys2Proof.Machine.execSalvoAbortRx lane h tag p reason s
  | .salvoReadyDeadline ticket => Sys2Proof.Machine.execSalvoReadyDeadline ticket s
  | .salvoCommitDeadline ticket pos => Sys2Proof.Machine.execSalvoCommitDeadline ticket pos s
  | .placeRx lane h tag decision last items => Sys2Proof.Machine.execPlaceRx lane h tag decision last items s
  | .healthRx lane h tag x => Sys2Proof.Machine.execHealthRx lane h tag x s
  | .eventRx lane h tag e => Sys2Proof.Machine.execEventRx lane h tag e s
  | .routeQueryRx lane h tag first count => Sys2Proof.Machine.execRouteQueryRx lane h tag first count s
  | .routeReportRx lane h tag part parts l => Sys2Proof.Machine.execRouteReportRx lane h tag part parts l s
  | .resyncRx lane h tag f tp l => Sys2Proof.Machine.execResyncRx lane h tag f tp l s
  | .bulkRx lane h tag object chunk ofs total data man => Sys2Proof.Machine.execBulkRx lane h tag object chunk ofs total data man s
  | .chartCommitRx lane h tag seq hash f tp l smp => Sys2Proof.Machine.execChartCommitRx lane h tag seq hash f tp l smp s
  | .updStageMsg lane h tag u => Sys2Proof.Machine.execUpdStageMsg lane h tag u s
  | .updReadyMsg lane h tag u => Sys2Proof.Machine.execUpdReadyMsg lane h tag u s
  | .updStageFailedMsg lane h tag u => Sys2Proof.Machine.execUpdStageFailedMsg lane h tag u s
  | .updCommitMsg lane h tag u => Sys2Proof.Machine.execUpdCommitMsg lane h tag u s
  | .updArmedMsg lane h tag u => Sys2Proof.Machine.execUpdArmedMsg lane h tag u s
  | .updCancelMsg lane h tag u => Sys2Proof.Machine.execUpdCancelMsg lane h tag u s
  | .updFailMsg lane h tag u => Sys2Proof.Machine.execUpdFailMsg lane h tag u s
  | .updRollbackMsg lane h tag u => Sys2Proof.Machine.execUpdRollbackMsg lane h tag u s
  | .updFinaliseMsg lane h tag u => Sys2Proof.Machine.execUpdFinaliseMsg lane h tag u s
  | .updVersionMsg lane h tag u => Sys2Proof.Machine.execUpdVersionMsg lane h tag u s
  | .updDecisionReqMsg lane h tag u => Sys2Proof.Machine.execUpdDecisionReqMsg lane h tag u s
  | .tongsRetransmit peer seq => Sys2Proof.Machine.execTongsRetransmit peer seq s
  | .ackSend peer => Sys2Proof.Machine.execAckSend peer s
  | .setRole position role w => Sys2Proof.Machine.execSetRole position role w s
  | .assume w => Sys2Proof.Machine.execAssume w s
  | .roleQuerySend => Sys2Proof.Machine.execRoleQuerySend s
  | .roleConfirm => Sys2Proof.Machine.execRoleConfirm s
  | .healthSend => Sys2Proof.Machine.execHealthSend s
  | .workerLost peer => Sys2Proof.Machine.execWorkerLost peer s
  | .mgrLost => Sys2Proof.Machine.execMgrLost s
  | .reclaim w => Sys2Proof.Machine.execReclaim w s
  | .mapLoad dram cells w => Sys2Proof.Machine.execMapLoad dram cells w s
  | .hieReqTake w => Sys2Proof.Machine.execHieReqTake w s
  | .hieReqCancel w => Sys2Proof.Machine.execHieReqCancel w s
  | .hieReqLock w => Sys2Proof.Machine.execHieReqLock w s
  | .hieReqUnlock w => Sys2Proof.Machine.execHieReqUnlock w s
  | .hieReqProtect w => Sys2Proof.Machine.execHieReqProtect w s
  | .hieReqUnprotect w => Sys2Proof.Machine.execHieReqUnprotect w s
  | .hieReqForceRelease w => Sys2Proof.Machine.execHieReqForceRelease w s
  | .hieSalvoGo dram cells w => Sys2Proof.Machine.execHieSalvoGo dram cells w s
  | .hieSalvoCancel w => Sys2Proof.Machine.execHieSalvoCancel w s
  | .fsOutputFrame k f torn => Sys2Proof.Machine.execFsOutputFrame k f torn s
  | .holdExpired k => Sys2Proof.Machine.execHoldExpired k s
  | .fsFilled k => Sys2Proof.Machine.execFsFilled k s
  | .filCompose n f x => Sys2Proof.Machine.execFilCompose n f x s
  | .surfaceLoadDone num => Sys2Proof.Machine.execSurfaceLoadDone num s
  | .audioSample => Sys2Proof.Machine.execAudioSample s
  | .zcTimeout o => Sys2Proof.Machine.execZcTimeout o s
  | .rampComplete o => Sys2Proof.Machine.execRampComplete o s
  | .burstTimeout o => Sys2Proof.Machine.execBurstTimeout o s
  | .nonpcmClear i_ => Sys2Proof.Machine.execNonpcmClear i_ s
  | .silenceChange t => Sys2Proof.Machine.execSilenceChange t s
  | .aptFrame n x => Sys2Proof.Machine.execAptFrame n x s
  | .aptRateUpdate n rate => Sys2Proof.Machine.execAptRateUpdate n rate s
  | .aptClkLost n => Sys2Proof.Machine.execAptClkLost n s
  | .aptResume n => Sys2Proof.Machine.execAptResume n s
  | .aptLeadInDone n => Sys2Proof.Machine.execAptLeadInDone n s
  | .aptLeadOutDone n => Sys2Proof.Machine.execAptLeadOutDone n s
  | .dramRequest port p len data_ keepOpen => Sys2Proof.Machine.execDramRequest port p len data_ keepOpen s
  | .dramCommandIssue sc meets ecc => Sys2Proof.Machine.execDramCommandIssue sc meets ecc s
  | .refreshDue sc => Sys2Proof.Machine.execRefreshDue sc s
  | .rankPowerDown sc rank => Sys2Proof.Machine.execRankPowerDown sc rank s
  | .periodicTraining ok hot => Sys2Proof.Machine.execPeriodicTraining ok hot s
  | .dramScrubRead ch ecc => Sys2Proof.Machine.execDramScrubRead ch ecc s
  | .busTransaction master addr len data_ keepOpen => Sys2Proof.Machine.execBusTransaction master addr len data_ keepOpen s
  | .busGrant target => Sys2Proof.Machine.execBusGrant target s
  | .busTimeout target => Sys2Proof.Machine.execBusTimeout target s
  | .targetReset target => Sys2Proof.Machine.execTargetReset target s
  | .xbmWaitSelWrite v w => Sys2Proof.Machine.execXbmWaitSelWrite v w s
  | .macBytesRead m tx => Sys2Proof.Machine.execMacBytesRead m tx s
  | .journalDurable failed => Sys2Proof.Machine.execJournalDurable failed s
  | .journalWait => Sys2Proof.Machine.execJournalWait s
  | .checkpointStart => Sys2Proof.Machine.execCheckpointStart s
  | .ckptNow w => Sys2Proof.Machine.execCkptNow w s
  | .checkpointComplete => Sys2Proof.Machine.execCheckpointComplete s
  | .jseqRead => Sys2Proof.Machine.execJseqRead s
  | .pwrFailWarning cause => Sys2Proof.Machine.execPwrFailWarning cause s
  | .sealDurable => Sys2Proof.Machine.execSealDurable s
  | .warningWithdrawn => Sys2Proof.Machine.execWarningWithdrawn s
  | .temperScrub corrected uncorrectable => Sys2Proof.Machine.execTemperScrub corrected uncorrectable s
  | .mirrorTimer => Sys2Proof.Machine.execMirrorTimer s
  | .mirrorNow w => Sys2Proof.Machine.execMirrorNow w s
  | .mirrorDone ok => Sys2Proof.Machine.execMirrorDone ok s
  | .libStore dram cells busErr w => Sys2Proof.Machine.execLibStore dram cells busErr w s
  | .libDelete w => Sys2Proof.Machine.execLibDelete w s
  | .libDone => Sys2Proof.Machine.execLibDone s
  | .nandRefresh op => Sys2Proof.Machine.execNandRefresh op s
  | .heartbeatSend => Sys2Proof.Machine.execHeartbeatSend s
  | .heartbeatRx h arb tag => Sys2Proof.Machine.execHeartbeatRx h arb tag s
  | .heartbeatLost arb => Sys2Proof.Machine.execHeartbeatLost arb s
  | .twinArbHigh => Sys2Proof.Machine.execTwinArbHigh s
  | .startingTimeout arb => Sys2Proof.Machine.execStartingTimeout arb s
  | .epochCellRx n index last recs tag => Sys2Proof.Machine.execEpochCellRx n index last recs tag s
  | .epochAckTimeout => Sys2Proof.Machine.execEpochAckTimeout s
  | .claspAckRx epoch ofs tag => Sys2Proof.Machine.execClaspAckRx epoch ofs tag s
  | .copyComplete image first => Sys2Proof.Machine.execCopyComplete image first s
  | .switch slot w => Sys2Proof.Machine.execSwitch slot w s
  | .fail w => Sys2Proof.Machine.execFail w s
  | .recopy w => Sys2Proof.Machine.execRecopy w s
  | .handoverCancelCmd w => Sys2Proof.Machine.execHandoverCancelCmd w s
  | .handoverRx op f tp tag => Sys2Proof.Machine.execHandoverRx op f tp tag s
  | .handoverCoordinate => Sys2Proof.Machine.execHandoverCoordinate s
  | .takeoverInstant => Sys2Proof.Machine.execTakeoverInstant s
  | .signaturesRx theirs own tag => Sys2Proof.Machine.execSignaturesRx theirs own tag s
  | .twinHealthSend ofs => Sys2Proof.Machine.execTwinHealthSend ofs s
  | .twinHealthRx words tag => Sys2Proof.Machine.execTwinHealthRx words tag s
  | .watchdogExpiry => Sys2Proof.Machine.execWatchdogExpiry s
  | .watchdogKick w => Sys2Proof.Machine.execWatchdogKick w s
  | .selftestRun t ok errors => Sys2Proof.Machine.execSelftestRun t ok errors s
  | .revertHoldEnd => Sys2Proof.Machine.execRevertHoldEnd s
  | .updChunkCellRx index ofs data tag => Sys2Proof.Machine.execUpdChunkCellRx index ofs data tag s
  | .pwrCmdRun w => Sys2Proof.Machine.execPwrCmdRun w s
  | .pwrCmdIdle w => Sys2Proof.Machine.execPwrCmdIdle w s
  | .pwrCmdSleep wake w => Sys2Proof.Machine.execPwrCmdSleep wake w s
  | .pwrCmdDeep wake w => Sys2Proof.Machine.execPwrCmdDeep wake w s
  | .pwrCmdOff wake w => Sys2Proof.Machine.execPwrCmdOff wake w s
  | .sleepCommit => Sys2Proof.Machine.execSleepCommit s
  | .sleepQuadsOff wake => Sys2Proof.Machine.execSleepQuadsOff wake s
  | .deepCommit => Sys2Proof.Machine.execDeepCommit s
  | .deepRegulatorsOff => Sys2Proof.Machine.execDeepRegulatorsOff s
  | .deepReached => Sys2Proof.Machine.execDeepReached s
  | .transitionEnd wake => Sys2Proof.Machine.execTransitionEnd wake s
  | .wakePin ticks saved => Sys2Proof.Machine.execWakePin ticks saved s
  | .wakeTimer ticks saved => Sys2Proof.Machine.execWakeTimer ticks saved s
  | .opChange point answers w => Sys2Proof.Machine.execOpChange point answers w s
  | .opChangeConfirmed mv wake => Sys2Proof.Machine.execOpChangeConfirmed mv wake s
  | .pmbTimeout wake => Sys2Proof.Machine.execPmbTimeout wake s
  | .pmbAlert rail word vout => Sys2Proof.Machine.execPmbAlert rail word vout s
  | .halSelftest w => Sys2Proof.Machine.execHalSelftest w s
  | .halSelftestDone fail entropy => Sys2Proof.Machine.execHalSelftestDone fail entropy s
  | .hallmarkFailure kind code => Sys2Proof.Machine.execHallmarkFailure kind code s
  | .zeroize w => Sys2Proof.Machine.execZeroize w s
  | .zeroizeNAssert => Sys2Proof.Machine.execZeroizeNAssert s
  | .keystoreErased => Sys2Proof.Machine.execKeystoreErased s
  | .auditSign first last w => Sys2Proof.Machine.execAuditSign first last w s
  | .slotProgram slot hash signer w => Sys2Proof.Machine.execSlotProgram slot hash signer w s
  | .slotRevoke slot signer w => Sys2Proof.Machine.execSlotRevoke slot signer w s
  | .testAccess signer identOk w => Sys2Proof.Machine.execTestAccess signer identOk w s
  | .genTls csr zeroLow w => Sys2Proof.Machine.execGenTls csr zeroLow w s
  | .certSet ok cells w => Sys2Proof.Machine.execCertSet ok cells w s
  | .keyInstall twin session slot zeroLow => Sys2Proof.Machine.execKeyInstall twin session slot zeroLow s
  | .keyInstallDelayed => Sys2Proof.Machine.execKeyInstallDelayed s
  | .auditWrRead => Sys2Proof.Machine.execAuditWrRead s
  | .updChunkGo man cells w => Sys2Proof.Machine.execUpdChunkGo man cells w s
  | .updMissNextWrite idx w => Sys2Proof.Machine.execUpdMissNextWrite idx w s
  | .updStage w => Sys2Proof.Machine.execUpdStage w s
  | .updVerifyDone failed => Sys2Proof.Machine.execUpdVerifyDone failed s
  | .updCommit slot w => Sys2Proof.Machine.execUpdCommit slot w s
  | .updCancel w => Sys2Proof.Machine.execUpdCancel w s
  | .updFail w => Sys2Proof.Machine.execUpdFail w s
  | .updFinalise w => Sys2Proof.Machine.execUpdFinalise w s
  | .updRollback w => Sys2Proof.Machine.execUpdRollback w s
  | .updAbort w => Sys2Proof.Machine.execUpdAbort w s
  | .updAckDeadline => Sys2Proof.Machine.execUpdAckDeadline s
  | .updCommitCoordinate => Sys2Proof.Machine.execUpdCommitCoordinate s
  | .updRestartDone => Sys2Proof.Machine.execUpdRestartDone s
  | .updVersionDeadline => Sys2Proof.Machine.execUpdVersionDeadline s
  | .rollbackCoordinate => Sys2Proof.Machine.execRollbackCoordinate s
  | .localRollback => Sys2Proof.Machine.execLocalRollback s
  | .probationEnd => Sys2Proof.Machine.execProbationEnd s
  | .undecided => Sys2Proof.Machine.execUndecided s
  | .pwrGoodRise => Sys2Proof.Machine.execPwrGoodRise s
  | .pwrGoodLoss => Sys2Proof.Machine.execPwrGoodLoss s
  | .resetNAssert => Sys2Proof.Machine.execResetNAssert s
  | .resetNRelease straps find => Sys2Proof.Machine.execResetNRelease straps find s
  | .chartChoose ticks silent => Sys2Proof.Machine.execChartChoose ticks silent s
  | .restoreComplete failed ms => Sys2Proof.Machine.execRestoreComplete failed ms s
  | .sysResetWarm find w => Sys2Proof.Machine.execSysResetWarm find w s
  | .sysResetCores w => Sys2Proof.Machine.execSysResetCores w s
  | .coreRestartDone => Sys2Proof.Machine.execCoreRestartDone s
  | .endpointReset => Sys2Proof.Machine.execEndpointReset s
  | .pcieLinkUp enabled => Sys2Proof.Machine.execPcieLinkUp enabled s
  | .quadPllUnlock q => Sys2Proof.Machine.execQuadPllUnlock q s
  | .refclkOot k ofs => Sys2Proof.Machine.execRefclkOot k ofs s
  | .candidateFreqOot c => Sys2Proof.Machine.execCandidateFreqOot c s
  | .pcieLinkDown => Sys2Proof.Machine.execPcieLinkDown s
  | .msixTableWrite index v => Sys2Proof.Machine.execMsixTableWrite index v s
  | .therm => Sys2Proof.Machine.execTherm s
  | .ageMargin margin => Sys2Proof.Machine.execAgeMargin margin s
  | .lldpTransmit => Sys2Proof.Machine.execLldpTransmit s

end Sys2Proof.Machine
end

