-- ==== Sys2Proof/Machine/Tick.lean ====
section
/-!
DEFINITION. What time alone brings: 1 ns of the local oscillator on an empty queue (notes/assumptions/25.md;
spec/03_network_time.md, R96).
-/

namespace Sys2Proof.Machine

open Sys2Proof

/-- Device time advances by 1 ns of the oscillator at the rate of the frequency correction in force (R96). -/
def Dev.advance (d : Dev) : Dev :=
  let acc := d.timeRem + 65536 * (1000000000000 + toSigned 32 (d.rd Reg.REF_FREQ_NOW).toNat).toNat
  { d with time := d.time + acc / 1000000000000, timeRem := acc % 1000000000000 }

/-- Power-on and hot time (R600). -/
def Dev.runTime (d : Dev) : Dev :=
  { d with temper := { d.temper with
    onNs := d.temper.onNs + 1, hotNs := d.temper.hotNs + b2n (decide (760 < d.fld Reg.PWR_TJ 15 0)) } }

/-- What a second that begins changes: the probation that is left, the hours since the last mirror, the bandwidth of each
channel. -/
def Dev.secondTick (d : Dev) : Dev :=
  let d1 := if d.upd.img.state = 6 then d.setFld Reg.UPD_PROB_REMAIN 15 0 (d.fld Reg.UPD_PROB_REMAIN 15 0 - 1) else d
  let d2 := if d1.temper.mirrors = [] then d1
    else d1.setFld Reg.CRU_MIRROR_STAT 31 16 (min 65535 ((d1.nowNs - d1.temper.mirrorAt) / 3600000000000))
  (List.range 8).foldl (fun a c => a.utilShow c) d2

/-- 1 ns passes; EVT_OVERRUN is set where the entry that SYS_EVT_RD names has been overwritten since (R164). -/
def Dev.tick (d : Dev) : Dev :=
  let d0 := ((d.advance).runTime.epochTick).hieTick
  let d1 := if d0.evtOver then d0.raise Reg.pageSYS 2 0 else d0
  if d1.nowNs / 1000000000 = d.nowNs / 1000000000 then d1 else d1.secondTick

end Sys2Proof.Machine
end

