-- ==== Sys2Proof/WellFormed.lean ====
section
/-!
DEFINITION. Well-formed commands: those whose operands the block's buses and services can carry (Machine/Operands.lean). An operand
with a width has that width in its type; what is left to check stands here.
-/

namespace Sys2Proof

open Sys2Proof.Machine

/-- Does the hardware have this command? -/
def wellFormed (i : Instr) : Bool :=
  match i with
  | .registerWrite addr _ _ => bar0Word addr
  | .bar0BadAccess addr size _ => badAccess addr size
  | .stickyWrite _ _ _ _ => true
  | .entryStickyWrite _ _ _ => true
  | .msixDeferredSend _ => true
  | .softReset _ _ => true
  | .commitNow _ _ _ => true
  | .commitArm _ _ _ => true
  | .commitDisarm _ _ => true
  | .slotCoordinate _ => true
  | .commitApply _ => true
  | .snapshotFreeze _ _ => true
  | .snapshotRelease _ _ => true
  | .snapshotTimeout _ => true
  | .sysSnapshotFreeze _ => true
  | .sysSnapshotRelease _ => true
  | .censusGo _ _ _ => true
  | .censusComplete _ => true
  | .evtRead _ _ => true
  | .chartLoad _ _ => true
  | .chartHoldEnd => true
  | .chartAccepted => true
  | .mgmtCommand _ addr _ => bar0Word addr
  | .tlsSessionOpen _ _ => true
  | .is05Activation page writes _ _ => is05Ok page writes
  | .is05ScheduledDue => true
  | .refinFrmPulse _ _ _ _ => true
  | .ppsInPulse _ _ _ => true
  | .refClockAbsent _ => true
  | .candidateQualifies _ _ _ => true
  | .holdoffEnd _ => true
  | .slewEnd => true
  | .timeStep => true
  | .loopUpdate _ => true
  | .lockAchieved => true
  | .hoMemValid => true
  | .hoMemClear _ => true
  | .holdoverLong => true
  | .loscFail => true
  | .loscRecovered => true
  | .refDisagreeWindow _ _ => true
  | .swPeriodEnd _ => true
  | .refFreqCorrWrite _ _ => true
  | .ppsOutEdge => true
  | .candidateAbsent _ => true
  | .ptpTimeRead => true
  | .tsqPop _ _ => true
  | .ptpSyncRx _ _ _ _ _ => true
  | .ptpDelayRespRx _ _ _ _ _ => true
  | .ptpAnnounceRx _ _ => true
  | .ptpAnnounceTimeout _ => true
  | .ptpMessageSend _ _ => true
  | .ttReqSend => true
  | .timeXferRx _ _ _ => true
  | .ttLaneReturn => true
  | .aonCalibrate _ => true
  | .refclkLost _ => true
  | .refclkRestored _ => true
  | .quadPllLocked _ => true
  | .cdrLock _ _ => true
  | .cdrHuntTimeout _ => true
  | .blockLock _ => true
  | .trsAlign _ => true
  | .rawLock _ _ => true
  | .blockLockLost _ => true
  | .alignHuntTimeout _ => true
  | .cdrLost _ => true
  | .invPolaritySeen _ => true
  | .prbsSync _ => true
  | .prbsSyncLost _ _ _ => true
  | .prbsSat _ _ _ => true
  | .prbsErrRead _ _ _ => true
  | .prbsClear _ _ => true
  | .prbsInject _ _ => true
  | .sdiLineRx _ _ => true
  | .sdiLost _ => true
  | .sdiValid _ => true
  | .descChg _ => true
  | .sdiTxLine _ _ _ _ => true
  | .macFrameRx _ _ => true
  | .pauseEnd _ => true
  | .macLinkUp _ _ => true
  | .macLinkFault _ _ _ => true
  | .rxTailWrite _ _ _ _ => true
  | .rxIrqModTimer _ => true
  | .ringDisableDone _ => true
  | .txTailWrite _ _ _ _ => true
  | .macFrameTx _ _ => true
  | .lpiEnter _ => true
  | .lpiWakeDone _ => true
  | .lldpRx _ _ => true
  | .lldpExpiry _ => true
  | .flowPacketRx _ _ => true
  | .flowLineRelease _ _ _ _ _ _ => true
  | .flowLost _ => true
  | .flowAudioRestore _ => true
  | .flowPacketTx _ _ _ _ _ => true
  | .igmpReportRepeat _ => true
  | .igmpQueryRx _ _ => true
  | .hearthRead _ _ _ _ => true
  | .take _ => true
  | .takeCancel _ => true
  | .lock _ => true
  | .unlock _ => true
  | .protect _ => true
  | .unprotect _ => true
  | .forceRelease _ => true
  | .holdDeferredApply _ => true
  | .leadLimit _ _ => true
  | .switchLine _ _ => true
  | .salvoRequest _ _ _ => true
  | .salvoCancel _ => true
  | .frameLock _ => true
  | .frameLockLost _ => true
  | .fabricCellRx _ _ => true
  | .laneIdRx _ _ => true
  | .laneInService _ => true
  | .rawCtlRx _ _ => true
  | .placementDecide _ _ _ _ _ _ => true
  | .placeItemApply _ => true
  | .moveSplice _ => true
  | .moveAbort _ => true
  | .tongsMessageRx _ _ _ => true
  | .tongsRelay _ _ => true
  | .ackRx _ _ _ => true
  | .nakRoleRx _ _ _ _ _ _ _ => true
  | .roleQueryRx _ _ _ => true
  | .roleSetRx _ _ _ _ => true
  | .takeMsgRx _ _ _ _ => true
  | .takeResultRx _ _ _ _ => true
  | .salvoPrepRx _ _ _ _ _ => true
  | .salvoReadyRx _ _ _ _ _ _ _ _ => true
  | .salvoCommitRx _ _ _ _ => true
  | .salvoAbortRx _ _ _ _ _ => true
  | .salvoReadyDeadline _ => true
  | .salvoCommitDeadline _ _ => true
  | .placeRx _ _ _ _ _ _ => true
  | .healthRx _ _ _ _ => true
  | .eventRx _ _ _ _ => true
  | .routeQueryRx _ _ _ _ _ => true
  | .routeReportRx _ _ _ _ _ _ => true
  | .resyncRx _ _ _ _ _ _ => true
  | .bulkRx _ _ _ _ _ _ _ _ _ => true
  | .chartCommitRx _ _ _ _ _ _ _ _ _ => true
  | .updStageMsg _ _ _ _ => true
  | .updReadyMsg _ _ _ _ => true
  | .updStageFailedMsg _ _ _ _ => true
  | .updCommitMsg _ _ _ _ => true
  | .updArmedMsg _ _ _ _ => true
  | .updCancelMsg _ _ _ _ => true
  | .updFailMsg _ _ _ _ => true
  | .updRollbackMsg _ _ _ _ => true
  | .updFinaliseMsg _ _ _ _ => true
  | .updVersionMsg _ _ _ _ => true
  | .updDecisionReqMsg _ _ _ _ => true
  | .tongsRetransmit _ _ => true
  | .ackSend _ => true
  | .setRole _ _ _ => true
  | .assume _ => true
  | .roleQuerySend => true
  | .roleConfirm => true
  | .healthSend => true
  | .workerLost _ => true
  | .mgrLost => true
  | .reclaim _ => true
  | .mapLoad _ _ _ => true
  | .hieReqTake _ => true
  | .hieReqCancel _ => true
  | .hieReqLock _ => true
  | .hieReqUnlock _ => true
  | .hieReqProtect _ => true
  | .hieReqUnprotect _ => true
  | .hieReqForceRelease _ => true
  | .hieSalvoGo _ _ _ => true
  | .hieSalvoCancel _ => true
  | .fsOutputFrame _ _ _ => true
  | .holdExpired _ => true
  | .fsFilled _ => true
  | .filCompose _ _ _ => true
  | .surfaceLoadDone _ => true
  | .audioSample => true
  | .zcTimeout _ => true
  | .rampComplete _ => true
  | .burstTimeout _ => true
  | .nonpcmClear _ => true
  | .silenceChange _ => true
  | .aptFrame _ _ => true
  | .aptRateUpdate _ _ => true
  | .aptClkLost _ => true
  | .aptResume _ => true
  | .aptLeadInDone _ => true
  | .aptLeadOutDone _ => true
  | .dramRequest _ p len data? _ => burstOk p len data?
  | .dramCommandIssue _ _ ecc => eccOk ecc
  | .refreshDue _ => true
  | .rankPowerDown _ _ => true
  | .periodicTraining _ _ => true
  | .dramScrubRead _ ecc => eccOk ecc
  | .busTransaction _ addr len data? _ => busOk addr len data?
  | .busGrant _ => true
  | .busTimeout _ => true
  | .targetReset _ => true
  | .xbmWaitSelWrite _ _ => true
  | .macBytesRead _ _ => true
  | .journalDurable _ => true
  | .journalWait => true
  | .checkpointStart => true
  | .ckptNow _ => true
  | .checkpointComplete => true
  | .jseqRead => true
  | .pwrFailWarning _ => true
  | .sealDurable => true
  | .warningWithdrawn => true
  | .temperScrub _ _ => true
  | .mirrorTimer => true
  | .mirrorNow _ => true
  | .mirrorDone _ => true
  | .libStore _ _ _ _ => true
  | .libDelete _ => true
  | .libDone => true
  | .nandRefresh _ => true
  | .heartbeatSend => true
  | .heartbeatRx _ _ _ => true
  | .heartbeatLost _ => true
  | .twinArbHigh => true
  | .startingTimeout _ => true
  | .epochCellRx _ _ _ _ _ => true
  | .epochAckTimeout => true
  | .claspAckRx _ _ _ => true
  | .copyComplete _ _ => true
  | .switch _ _ => true
  | .fail _ => true
  | .recopy _ => true
  | .handoverCancelCmd _ => true
  | .handoverRx _ _ _ _ => true
  | .handoverCoordinate => true
  | .takeoverInstant => true
  | .signaturesRx _ _ _ => true
  | .twinHealthSend _ => true
  | .twinHealthRx _ _ => true
  | .watchdogExpiry => true
  | .watchdogKick _ => true
  | .selftestRun _ _ _ => true
  | .revertHoldEnd => true
  | .updChunkCellRx _ _ _ _ => true
  | .pwrCmdRun _ => true
  | .pwrCmdIdle _ => true
  | .pwrCmdSleep _ _ => true
  | .pwrCmdDeep _ _ => true
  | .pwrCmdOff _ _ => true
  | .sleepCommit => true
  | .sleepQuadsOff _ => true
  | .deepCommit => true
  | .deepRegulatorsOff => true
  | .deepReached => true
  | .transitionEnd _ => true
  | .wakePin _ _ => true
  | .wakeTimer _ _ => true
  | .opChange _ _ _ => true
  | .opChangeConfirmed _ _ => true
  | .pmbTimeout _ => true
  | .pmbAlert _ _ _ => true
  | .halSelftest _ => true
  | .halSelftestDone _ _ => true
  | .hallmarkFailure _ _ => true
  | .zeroize _ => true
  | .zeroizeNAssert => true
  | .keystoreErased => true
  | .auditSign _ _ _ => true
  | .slotProgram _ _ _ _ => true
  | .slotRevoke _ _ _ => true
  | .testAccess _ _ _ => true
  | .genTls _ _ _ => true
  | .certSet _ _ _ => true
  | .keyInstall _ _ _ _ => true
  | .keyInstallDelayed => true
  | .auditWrRead => true
  | .updChunkGo _ _ _ => true
  | .updMissNextWrite _ _ => true
  | .updStage _ => true
  | .updVerifyDone _ => true
  | .updCommit _ _ => true
  | .updCancel _ => true
  | .updFail _ => true
  | .updFinalise _ => true
  | .updRollback _ => true
  | .updAbort _ => true
  | .updAckDeadline => true
  | .updCommitCoordinate => true
  | .updRestartDone => true
  | .updVersionDeadline => true
  | .rollbackCoordinate => true
  | .localRollback => true
  | .probationEnd => true
  | .undecided => true
  | .pwrGoodRise => true
  | .pwrGoodLoss => true
  | .resetNAssert => true
  | .resetNRelease _ _ => true
  | .chartChoose _ _ => true
  | .restoreComplete _ _ => true
  | .sysResetWarm _ _ => true
  | .sysResetCores _ => true
  | .coreRestartDone => true
  | .endpointReset => true
  | .pcieLinkUp _ => true
  | .quadPllUnlock _ => true
  | .refclkOot _ _ => true
  | .candidateFreqOot _ => true
  | .pcieLinkDown => true
  | .msixTableWrite _ _ => true
  | .therm => true
  | .ageMargin _ => true
  | .lldpTransmit => true

end Sys2Proof
end

