-- ==== Sys2Proof/Safety.lean ====
section
/-!
DEFINITION. The terms that claims use: a device that answers to commands, a write that reaches its register, what a step leaves
alone, and the canonical form of a state.
-/

namespace Sys2Proof.Machine

open Sys2Proof

/-- The device runs: it answers to every command (R660, R734, R739). -/
abbrev State.Up (s : State) : Prop := s.dev.power.run = .up

/-- A write of `w` at an offset of a page reaches its register: the page is in use, its writer owns it, and the unit is no
standby that ignores it (R153, R640). -/
abbrev State.Opens (s : State) (page off : Nat) (w : Writer) : Prop := s.Up ∧ s.dev.gate page off w = .open_

/-- The parts of the device that are no registers. -/
inductive Part where
  | time | outbox | hostif | evlog | bellows | ptp | lanes | fabLanes | anvil | audioIn | engines | journal | hie | sdiIn
  | sdiOut | audioOut | audioCount | media | fil | audio | apts | dram | hal | temper | upd | twin | power | freeCount
  deriving DecidableEq, Repr

/-- A part is the same in two devices. -/
def Part.same (d e : Dev) : Part → Prop
  | .time => e.time = d.time ∧ e.timeRem = d.timeRem
  | .outbox => e.outbox = d.outbox
  | .hostif => e.hostif = d.hostif
  | .evlog => e.evlog = d.evlog
  | .bellows => e.bellows = d.bellows
  | .ptp => e.ptp = d.ptp
  | .lanes => e.lanes = d.lanes
  | .fabLanes => e.fabLanes = d.fabLanes
  | .anvil => e.anvil = d.anvil
  | .audioIn => e.audioIn = d.audioIn
  | .engines => e.engines = d.engines
  | .journal => e.journal = d.journal
  | .hie => e.hie = d.hie
  | .sdiIn => e.sdiIn = d.sdiIn
  | .sdiOut => e.sdiOut = d.sdiOut
  | .audioOut => e.audioOut = d.audioOut
  | .audioCount => e.audioCount = d.audioCount
  | .media => e.media = d.media
  | .fil => e.fil = d.fil
  | .audio => e.audio = d.audio
  | .apts => e.apts = d.apts
  | .dram => e.dram = d.dram
  | .hal => e.hal = d.hal
  | .temper => e.temper = d.temper
  | .upd => e.upd = d.upd
  | .twin => e.twin = d.twin
  | .power => e.power = d.power
  | .freeCount => e.freeCount = d.freeCount

/-- What an event brings with it beside the registers of the event log: the log, the interrupt state and what is sent. -/
def eventParts : List Part := [.evlog, .hostif, .outbox]

/-- The registers an event on these pages may change: their PG_STICKY, EVT_NEW, the write position and the drop count. -/
def eventRegs (pages : List Nat) : List Nat :=
  pages.map Reg.PG_STICKY ++ [Reg.PG_STICKY Reg.pageSYS, Reg.SYS_EVT_WR, Reg.TMP_EVT_DROP]

/-- The registers that a selection of the Bellows may change beside those of its events (R65, R71). -/
def bellowsRegs : List Nat := (List.range 8).map Reg.REF_CAND_STAT ++ [Reg.REF_STATE, Reg.REF_FREQ_NOW, Reg.PTP_STATE]

/-- The registers that show the journal (R592). -/
def journalRegs : List Nat := [Reg.TMP_JSEQ_LO, Reg.TMP_RATE]

/-- A step changes none but these parts and registers: the queue, both memories, every other part and every other register
are as before. -/
def Leaves (parts : List Part) (regs : List Nat) (s t : State) : Prop :=
  t.pending = s.pending ∧ t.mem = s.mem ∧ t.dev.partH = s.dev.partH ∧
  (∀ p : Part, p ∉ parts → p.same s.dev t.dev) ∧ ∀ a : Nat, a ∉ regs → t.dev.rd a = s.dev.rd a

/-- A step stays within these parts and pages: the queue, both memories, every other part and every register of every other page
are as before. -/
def Within (parts : List Part) (pages : List Nat) (s t : State) : Prop :=
  t.pending = s.pending ∧ t.mem = s.mem ∧ t.dev.partH = s.dev.partH ∧
  (∀ p : Part, p ∉ parts → p.same s.dev t.dev) ∧ ∀ a : Nat, a / 0x1000 ∉ pages → t.dev.rd a = s.dev.rd a

/-- The pages that an event of these pages may change: their own, SYS and TMP (R163, R610). -/
def eventPages (pages : List Nat) : List Nat := pages ++ [Reg.pageSYS, Reg.pageTMP]

/-- The parts that a receiver which leaves LOCKED may change (R118, R386, R405, R626). -/
def lockParts : List Part := [.bellows, .ptp, .fabLanes, .twin, .hie, .anvil, .journal] ++ eventParts

/-- The SDI pages. -/
def sdiPages : List Nat := (List.range 256).map sdiPage

/-- The pages that a receiver which reaches LOCKED may change: its own, the MAC's, those of its stream group and the lanes that
carry time transfer (R118, R248, R255). -/
def lockPages (n : Nat) : List Nat :=
  eventPages [lanePage n, 0x300 + n, 0x300 + (n - n % 4), Reg.pagePTP, Reg.pageFAB] ++ sdiPages

/-- The pages that a receiver which leaves LOCKED may change. -/
def lossPages (n : Nat) : List Nat := [Reg.pageREF, Reg.pageTWN] ++ lockPages n

/-- The pages of the audio matrix and of the audio ports. -/
def audioPages : List Nat :=
  [Reg.pageAUDENG] ++ (List.range 4).map Reg.pageAUDSIL ++ (List.range 16).map Reg.pageAPT ++
    (List.range 512).map fun i => Reg.pageAUDOUT (16 * i)

/-- The parts that an update may change beside the events it reports: the update, the journal that keeps it, the audit log and the
messages to other devices (R704, R710, R716). -/
def updParts : List Part := [.upd, .hal, .journal, .hie] ++ eventParts

/-- The pages that an update may change. -/
def updPages : List Nat := eventPages [Reg.pageUPD, Reg.pageHAL]

/-- What R270 writes back for a good untagged frame of `n` bytes in one descriptor: DONE, SOF and EOF, the MAC, the filter entry,
no tag, the length and the time. -/
def rxBack (m entry n ns : Nat) : List Byte :=
  bytesLE 2 n ++ bytesLE 2 7 ++ bytesLE 2 m ++ bytesLE 2 entry ++ bytesLE 2 0 ++ bytesLE 2 n ++ bytesLE 4 0 ++ bytesLE 8 ns

/-- The device while it serves a request of the TAKE_CMD page: GO is written and BUSY shows (R365). -/
def Dev.takeBusy (d : Dev) : Dev := (d.setFlag Reg.TAKE_REQ_GO 0 true).setFlag Reg.TAKE_REQ_GO 31 true

/-- The device while it serves a salvo request written with the value `v` (R367). -/
def Dev.salvoBusy (d : Dev) (v : Nat) : Dev := (d.wrNat Reg.TAKE_SALVO_GO v).setFlag Reg.TAKE_SALVO_GO 31 true

/-- A Tongs message with this head is one that the device takes in its turn (R417, R418, R421, R640): it is for this device, its TAG is
good, the Hallmark and the twin unit let it in, and its SEQ is the next of a peer that is heard and has nothing outstanding. -/
abbrev State.Takes (s : State) (h : TongsHead) (tag : TagCheck) : Prop :=
  s.Up ∧ s.dev.halState = 1 ∧ (s.dev.twnState = 0 ∨ s.dev.twnState = 4) ∧ h.dstPos.val = s.dev.position ∧ tag = .newest ∧
  s.dev.hal.hierKeys ≠ 0 ∧ diff32 h.seq (s.dev.peer h.srcPos).acted = 1 ∧ (s.dev.peer h.srcPos).heard = true ∧
  (s.dev.peer h.srcPos).lost = false ∧ (s.dev.peer h.srcPos).unreachable = false ∧ (s.dev.peer h.srcPos).unacked = [] ∧
  (s.dev.peer h.srcPos).ahead = []

/-- The message comes to a worker from its manager, under the epoch held (R424, R426). -/
abbrev State.FromManager (s : State) (h : TongsHead) : Prop :=
  s.dev.isManager = false ∧ h.srcPos.val = s.dev.managerPos ∧ h.epoch = s.dev.epoch

/-- The message comes to the manager, under the epoch held. -/
abbrev State.AtManager (s : State) (h : TongsHead) : Prop := s.dev.isManager = true ∧ h.epoch = s.dev.epoch

/-- The device once a message has been taken in its turn, before it acts on it (R421, R422). -/
def Dev.taken (d : Dev) (lane : Nat) (m : TongsMsg) : Dev :=
  let e := d.heard m.srcPos lane
  (e.setPeer m.srcPos { e.peer m.srcPos with acted := m.seq, ackDue := true }).jAppend [.tongsSeq m.srcPos (e.peer m.srcPos).sent m.seq]

/-- The device while it serves a request on HIE_REQ (R444). -/
def Dev.hieBusy (d : Dev) : Dev := d.wrNat Reg.HIE_REQ_GO 0x80000001

/-- The device while it serves a hierarchy salvo request written with the value `v`. -/
def Dev.hieSalvoBusy (d : Dev) (v : Nat) : Dev := (d.wrNat Reg.HIE_SALVO_GO v).setFlag Reg.HIE_SALVO_GO 31 true

/-- The pixels that a frame of a compositor brings for a layer. -/
def filGiven (x : FilFrame) (l : Nat) : List (List Px) := ((x.layers.find? fun p => p.1.val == l).map Prod.snd).getD []

/-- The line payloads of a compositor's frame (R235, R487 to R489): each active line packed from its pixels, the layers shown blended on
the background. -/
def Dev.filLines (d : Dev) (n : Nat) (x : FilFrame) : List (Nat × List (List Byte)) :=
  x.lines.zipIdx.map fun p => (p.1, packLine (d.filSampling n)
    (filWords (d.filSampling n) ((List.range (rasterWidth (d.filRaster n))).map fun u => d.filPx n (d.layerShown n (filGiven x)) (filGiven x) u p.2))
    (cellsPerLine (rasterWidth (d.filRaster n)) (d.filSampling n)))

/-- Offsets of a page header whose writes do more than store (R134). -/
def headerActs : List Nat := [0x00C, 0x014, 0x018, 0x01C, 0x020, 0x028, 0x02C]

/-- A register whose writes start an action, are requests, or are commands with a row of their own. -/
def actsOnWrite (a : Nat) : Bool :=
  let page := a / 0x1000
  let off := a % 0x1000
  (entries16.find? fun e => entryStickyAddr page e == some a).isSome || headerActs.contains off ||
    (page == 1 && decide (0x100 ≤ off) && decide (off < 0x200)) ||
    [Reg.SYS_SNAPSHOT, Reg.REF_FREQ_CORR, Reg.REF_HO_CTRL, Reg.SYS_EVT_RD, Reg.UPD_MISS_NEXT, Reg.XBM_WAIT_SEL].contains a ||
    requestReg (pageType page) off || triggerMask (pageType page) off != 0 ||
    (pageType page == 0x19 && (off == 0x058 || off == 0x094))

/-- The write-1-to-clear bits of PG_STICKY of a page, and of an entry sticky register (R137). -/
def rsMask (page off : Nat) : Word := BitVec.ofNat 32 (((regRow page off).map RegRow.rs).getD 0)

/-- Page types whose commits have no effect beyond the live values (R138). -/
def plainCommit (page : Nat) : Bool :=
  !([0x02, 0x03, 0x07, 0x0A, 0x15, 0x16, 0x17, 0x18, 0x19, 0x1A, 0x1B, 0x1E, 0x1F, 0x20, 0x21, 0x22].contains (pageType page))

/-- The state is in canonical form: both memories list strictly rising addresses and nothing that reads as unwritten. -/
abbrev State.Canonical (s : State) : Prop := s.mem.wf = true

/-! ### Commands as a whole -/

/-- The page, the offset and the writer of a command that is a write of a register (R137, R151). -/
def regTarget : Instr → Option (Nat × Nat × Writer)
  | .registerWrite a _ w => if bar0Word a then some (a / 0x1000, a % 0x1000, w) else none
  | .stickyWrite page irqEn _ w => some (page, if irqEn then 0x018 else 0x014, w)
  | .entryStickyWrite reg _ w => (entryStickyAddr (entryOf reg).1 (entryOf reg).2).map fun a => ((entryOf reg).1, a % 0x1000, w)
  | .softReset page w => some (page, 0x00C, w)
  | .commitNow page _ w | .commitArm page _ w | .commitDisarm page w => some (page, 0x020, w)
  | .snapshotFreeze page w | .snapshotRelease page w => some (page, 0x028, w)
  | .sysSnapshotFreeze w | .sysSnapshotRelease w => some (Reg.pageSYS, 0x058, w)
  | .censusGo _ _ w => some (Reg.pageSYS, 0x060, w)
  | .evtRead _ w => some (Reg.pageSYS, 0x084, w)
  | .chartLoad _ w => some (Reg.pageSYS, 0x0D0, w)
  | .sysResetWarm _ w | .sysResetCores w => some (Reg.pageSYS, 0x208, w)
  | .hoMemClear w => some (Reg.pageREF, 0x068, w)
  | .refFreqCorrWrite w _ => some (Reg.pageREF, 0x05C, w)
  | .tsqPop mac w => some (0x300 + mac.val, 0x404, w)
  | .prbsClear n w | .prbsInject n w => some (lanePage n.val, 0x078, w)
  | .rxTailWrite k _ _ w => some (0x60 + k.val, 0x058, w)
  | .txTailWrite k _ _ w => some (0x60 + k.val, 0x094, w)
  | .take w | .takeCancel w | .lock w | .unlock w | .protect w | .unprotect w | .forceRelease w => some (Reg.pageTAKECMD, 0x054, w)
  | .salvoRequest _ _ w | .salvoCancel w => some (Reg.pageTAKECMD, 0x094, w)
  | .setRole _ _ w | .assume w => some (Reg.pageHIE, 0x048, w)
  | .reclaim w => some (Reg.pageHIE, 0x05C, w)
  | .mapLoad _ _ w => some (Reg.pageHIE, 0x068, w)
  | .hieReqTake w | .hieReqCancel w | .hieReqLock w | .hieReqUnlock w | .hieReqProtect w | .hieReqUnprotect w
  | .hieReqForceRelease w => some (Reg.pageHIE, 0x084, w)
  | .hieSalvoGo _ _ w | .hieSalvoCancel w => some (Reg.pageHIE, 0x0A4, w)
  | .xbmWaitSelWrite _ w => some (Reg.pageXBM, 0x064, w)
  | .ckptNow w => some (Reg.pageTMP, 0x050, w)
  | .mirrorNow w => some (Reg.pageCRU, 0x048, w)
  | .libStore _ _ _ w | .libDelete w => some (Reg.pageCRU, 0x050, w)
  | .switch _ w | .fail w | .recopy w | .handoverCancelCmd w => some (Reg.pageTWN, 0x048, w)
  | .watchdogKick w => some (Reg.pageTWN, 0x054, w)
  | .pwrCmdRun w | .pwrCmdIdle w | .pwrCmdSleep _ w | .pwrCmdDeep _ w | .pwrCmdOff _ w => some (Reg.pagePWR, 0x040, w)
  | .opChange _ _ w => some (Reg.pagePWR, 0x058, w)
  | .halSelftest w | .zeroize w | .auditSign _ _ w | .slotProgram _ _ _ w | .slotRevoke _ _ w | .testAccess _ _ w | .genTls _ _ w
  | .certSet _ _ w => some (Reg.pageHAL, 0x080, w)
  | .updChunkGo _ _ w => some (Reg.pageUPD, 0x05C, w)
  | .updMissNextWrite _ w => some (Reg.pageUPD, 0x06C, w)
  | .updStage w | .updCommit _ w | .updCancel w | .updFail w | .updFinalise w | .updRollback w | .updAbort w =>
    some (Reg.pageUPD, 0x070, w)
  | _ => none

/-- Commands that act in every power state: the pins of R732 to R735, the wakes of R669 and a warm reset out of the halt of R739. -/
def actsAlways : Instr → Bool
  | .pwrGoodRise | .pwrGoodLoss | .resetNAssert | .resetNRelease _ _ | .wakePin _ _ | .wakeTimer _ _ | .sysResetWarm _ _ => true
  | _ => false

/-- What host software has put into host memory when a command arrives (notes/assumptions/5.md). -/
def hostCells : Instr → List Host.Cell
  | .rxTailWrite _ _ cells _ | .txTailWrite _ _ cells _ | .salvoRequest _ cells _ | .mapLoad _ cells _ | .hieSalvoGo _ cells _
  | .libStore _ cells _ _ | .certSet _ cells _ | .updChunkGo _ cells _ => cells
  | _ => []

/-- Commands by which the device itself writes DRAM or host memory, or loses what DRAM holds. -/
def storesMemory : Instr → Bool
  | .censusComplete _ | .macFrameRx _ _ | .macFrameTx _ _ | .dramCommandIssue _ _ _ | .aptFrame _ _ | .auditSign _ _ _ | .genTls _ _ _
  | .pwrGoodRise => true
  | _ => false

end Sys2Proof.Machine
end

