-- ==== Sys2Proof/Certificates/Slice0/Obligations.lean ====
section
/-!
DEFINITION. The statements for the provers. A docstring opens with the rules of the spec that the statement rests on: a statement of
basis 'stated' in OBLIGATIONS.json says the whole of the rule it cites, every other one says the part of its rules that its text tells.
A clause of the form `∃ t, exec c s = .next t ∧ …` says that the command completes and what it leaves.
-/

open Sys2Proof Sys2Proof.Machine

/-- The block takes its commands first in, first out: a step is the command at the front of the queue, with the queue's rest. On an
empty queue a device that runs lets 1 ns pass (the model's choice, notes/assumptions/25.md), and one that does not run stays as it is. -/
def Obligations.AStepRunsTheFrontCommand : Prop :=
  (∀ (c : Instr) (s : State), step { s with pending := c :: s.pending } = exec c s) ∧
  (∀ (c : Instr) (l : List Instr) (s : State), s.pending = c :: l → step s = exec c { s with pending := l }) ∧
  (∀ (s : State), s.pending = [] → s.Up → step s = .next { s with dev := s.dev.tick }) ∧
  (∀ (s : State), s.pending = [] → ¬ s.Up → step s = .next s)

/-- R137, R186, R762: right after reset every register that the directory lists reads its reset value, and the live copy of its
shadowed fields the same; the twin lanes read role CLASP and class FABRIC. No command waits, and both memories list nothing, so that
every byte reads as unwritten (the model's choice, notes/assumptions/4.md). -/
def Obligations.ResetLeavesTheDirectoryValues : Prop :=
  (∀ (page off : Nat) (r : RegRow), 0 < page → (page < 0x1C0 ∨ 0x1C3 < page) → 0x00C ≤ off → off < 0x800 → regRow page off = some r →
    (State.reset.dev.rd (page * 0x1000 + off)).toNat = r.reset % 2 ^ 32 ∧
      (State.reset.dev.rd (page * 0x1000 + off + 0x800)).toNat = (r.reset &&& r.sh) % 2 ^ 32) ∧
  (∀ (n : Nat), 192 ≤ n → n < 196 → State.reset.dev.live (Reg.LN_CFG n) 2 0 = 7 ∧ (State.reset.dev.rd (Reg.LN_QUAD_CFG n)).toNat = 5) ∧
  State.reset.pending = [] ∧ State.reset.Canonical ∧ (∀ (dram : Bool) (a : Nat), State.reset.mem.byte dram a = memReset a)

/-- Every step keeps both memories in their canonical form: addresses strictly rising, and no entry that reads as unwritten. -/
def Obligations.EveryStepKeepsMemoryCanonical : Prop :=
  ∀ (s t : State), s.Canonical → step s = .next t → t.Canonical

/-- R153: a write from a non-owner is ignored. It sets OWNER_VIOL on the page, increments SYS_OWNER_VIOL_CNT, records page, offset and
class in SYS_OWNER_VIOL_LAST and logs an event, unless Temper takes no entry (R602, R610). It holds of every command that is a write
of a register. The directory page 0 holds no sticky bit. -/
def Obligations.WritesOfNonOwnersAreIgnored : Prop :=
  ∀ (s : State) (c : Instr) (page off : Nat) (w : Writer), regTarget c = some (page, off, w) → s.Up →
    s.dev.gate page off w = .violation →
    ∃ t, exec c s = .next t ∧ (page ≠ 0 → t.dev.flag (Reg.PG_STICKY page) 31 = true) ∧
      t.dev.fld Reg.SYS_OWNER_VIOL_CNT 15 0 = min (s.dev.fld Reg.SYS_OWNER_VIOL_CNT 15 0 + 1) 65535 ∧
      t.dev.rd Reg.SYS_OWNER_VIOL_LAST = BitVec.ofNat 32 (page + off / 4 * 0x10000 + w.cls.code * 0x10000000) ∧
      (s.dev.fld Reg.TMP_STAT 1 0 ≠ 3 → (s.dev.nowNs / 1000000000 = s.dev.evlog.second → s.dev.evlog.inSecond < 16384) →
        (t.dev.evlog.entries.getLast?.map fun e => (e.code, e.page, e.arg)) =
          some (pageType page * 256 + 31, page, off / 4 + w.cls.code * 0x1000)) ∧
      t.mem = s.mem.hostWrote (hostCells c) ∧
      Leaves eventParts ([Reg.SYS_OWNER_VIOL_CNT, Reg.SYS_OWNER_VIOL_LAST] ++ eventRegs [page]) { s with mem := t.mem } t

/-- R133, R640, R660, R734, R739: what a device does not answer to. A write of a page that is not in use is ignored; one that a standby
does not accept is counted and reported; and one that does not run leaves everything of the device alone, but for the pins, the wakes
and a warm reset. -/
def Obligations.CommandsThatFindNoAnswer : Prop :=
  (∀ (s : State) (c : Instr) (page off : Nat) (w : Writer), regTarget c = some (page, off, w) → s.Up → pageInUse page = false →
    ∃ t, exec c s = .next t ∧ t.mem = s.mem.hostWrote (hostCells c) ∧ Leaves [] [] { s with mem := t.mem } t) ∧
  (∀ (s : State) (c : Instr) (page off : Nat) (w : Writer), regTarget c = some (page, off, w) → s.Up →
    s.dev.gate page off w = .standby →
    ∃ t, exec c s = .next t ∧ t.dev.fld Reg.TWN_STBY_WR 31 0 = min (s.dev.fld Reg.TWN_STBY_WR 31 0 + 1) (2 ^ 32 - 1) ∧
      t.dev.flag (Reg.PG_STICKY Reg.pageTWN) 9 = true ∧ t.mem = s.mem.hostWrote (hostCells c) ∧ t.pending = s.pending) ∧
  (∀ (s t : State) (c : Instr), ¬ s.Up → actsAlways c = false → exec c s = .next t →
    t.dev = s.dev ∧ t.pending = s.pending ∧ t.mem = s.mem.hostWrote (hostCells c))

/-- Every command whose operands the block's buses and services can carry completes, but a DRAM request beyond the DRAM fitted (R560,
R562); any other operand is a fault, and nothing is refused. A command leaves the queue alone, and all but those that store leave memory
as host software has written it. -/
def Obligations.EveryCommandCompletes : Prop :=
  (∀ (s : State) (c : Instr), wellFormed c = true →
    (∀ (port : Fin 24) (p len : Nat) (data : Option (List Byte)) (keep : Bool), c = .dramRequest port p len data keep →
      p < s.dev.dramGeo.bytes) → ∃ t, exec c s = .next t) ∧
  (∀ (s : State) (port : Fin 24) (p len : Nat) (data : Option (List Byte)) (keep : Bool),
    wellFormed (.dramRequest port p len data keep) = true → s.dev.dramGeo.bytes ≤ p →
    exec (.dramRequest port p len data keep) s = .fault .noDram) ∧
  (∀ (s : State) (c : Instr), wellFormed c = false → exec c s = .fault .badOperand) ∧
  (∀ (s : State) (c : Instr) (r : Refusal), exec c s ≠ .refused r) ∧
  (∀ (s t : State) (c : Instr), exec c s = .next t → t.pending = s.pending) ∧
  (∀ (s t : State) (c : Instr), storesMemory c = false → exec c s = .next t → t.mem = s.mem.hostWrote (hostCells c))

/-- R58, R59, R61, R64, R787: a pulse in its place is measured into the candidate's POFS and FOFS; a pulse that fails a criterion,
a clock that stops or leaves its limits, disqualifies a qualified candidate with the reason of R61, counted in FAULTS; 10 s of
absence are reported as a Chart mismatch. -/
def Obligations.CandidatesAreMeasuredAndDisqualified : Prop :=
  (∀ (s : State) (n : Fin 4) (phase freq : Int), s.Up →
    ∃ t, exec (.refinFrmPulse n .inPlace phase freq) s = .next t ∧
      t.dev.rd (Reg.REF_CAND_POFS n) = BitVec.ofNat 32 (ofSigned 32 (satSigned 32 phase)) ∧
      t.dev.rd (Reg.REF_CAND_FOFS n) = BitVec.ofNat 32 (ofSigned 32 (satSigned 32 freq)) ∧
      Leaves [.bellows] [Reg.REF_CAND_POFS n, Reg.REF_CAND_FOFS n, Reg.REF_CAND_STAT n] s t) ∧
  (∀ (s : State) (n : Fin 4) (kind : PulseKind) (phase freq : Int), s.Up → kind ≠ .inPlace → s.dev.rankOf n ≠ 15 →
    s.dev.qualified n = true →
    ∃ t, exec (.refinFrmPulse n kind phase freq) s = .next t ∧ t.dev.qualified n = false ∧
      t.dev.fld (Reg.REF_CAND_STAT n) 3 0 = (if kind = .wrongPeriod then 6 else 5) ∧
      t.dev.fld (Reg.REF_CAND_STAT n) 31 16 = min (s.dev.fld (Reg.REF_CAND_STAT n) 31 16 + 1) 65535 ∧
      Leaves (.bellows :: eventParts) (bellowsRegs ++ eventRegs [Reg.pageREF]) s t) ∧
  (∀ (s : State) (phase freq : Int), s.Up →
    ∃ t, exec (.ppsInPulse .inPlace phase freq) s = .next t ∧
      t.dev.rd (Reg.REF_CAND_POFS 5) = BitVec.ofNat 32 (ofSigned 32 (satSigned 32 phase)) ∧
      t.dev.rd (Reg.REF_CAND_FOFS 5) = BitVec.ofNat 32 (ofSigned 32 (satSigned 32 freq)) ∧
      Leaves [.bellows] [Reg.REF_CAND_POFS 5, Reg.REF_CAND_FOFS 5, Reg.REF_CAND_STAT 5] s t) ∧
  (∀ (s : State) (c : RefClock), s.Up → s.dev.rankOf c.cand ≠ 15 → s.dev.qualified c.cand = true →
    ∃ t, exec (.refClockAbsent c) s = .next t ∧ t.dev.qualified c.cand = false ∧ t.dev.fld (Reg.REF_CAND_STAT c.cand) 3 0 = 2 ∧
      Leaves (.bellows :: eventParts) (bellowsRegs ++ eventRegs [Reg.pageREF]) s t) ∧
  (∀ (s : State) (c : RefClock), s.Up → s.dev.rankOf c.cand ≠ 15 → s.dev.qualified c.cand = true →
    ∃ t, exec (.candidateFreqOot c) s = .next t ∧ t.dev.qualified c.cand = false ∧ t.dev.fld (Reg.REF_CAND_STAT c.cand) 3 0 = 4 ∧
      Leaves (.bellows :: eventParts) (bellowsRegs ++ eventRegs [Reg.pageREF]) s t) ∧
  (∀ (s : State) (c : Fin 8), s.Up → s.dev.rankOf c ≠ 15 → s.dev.qualified c = false →
    ∃ t, exec (.candidateAbsent c) s = .next t ∧ t.dev.fld (Reg.REF_CAND_STAT c) 3 0 = 2 ∧
      t.dev.flag (Reg.PG_STICKY Reg.pageSYS) 3 = true ∧
      Leaves eventParts (Reg.REF_CAND_STAT c :: eventRegs [Reg.pageSYS]) s t)

/-- R61, R65, R66, R69, R71, R72, R76 to R82: a candidate that qualifies starts its hold-off; a hold-off and a slew end; a step moves
device time by E and every candidate's phase with it, and sets COORD_STEP. Each loop update shows the phase error and puts the filter's
correction, within ±50 ppm, in force; a phase error of a LOCKED Bellows beyond its limit loses lock; LOCKED is reached with no move
pending; the holdover memory becomes valid and is cleared. The filter itself is open (notes/assumptions/8.md): the statement holds for
every one. -/
def Obligations.TheBellowsFollowsItsReference : Prop :=
  (∀ (s : State) (c : Fin 8) (phase freq : Int), s.Up → s.dev.candAllowed c = true → s.dev.qualified c = false →
    s.dev.bellows.slew = none → s.dev.bellows.cands.length = 8 → -50000000 ≤ s.dev.corrNow + freq → s.dev.corrNow + freq ≤ 50000000 →
    ∃ t, exec (.candidateQualifies c phase freq) s = .next t ∧ t.dev.qualified c = true ∧
      t.dev.fld (Reg.REF_CAND_STAT c) 3 0 = 0 ∧ (t.dev.cand c).holdoffRun = true ∧
      Leaves (.bellows :: eventParts) (Reg.REF_CAND_POFS c :: Reg.REF_CAND_FOFS c :: bellowsRegs ++ eventRegs [Reg.pageREF]) s t) ∧
  (∀ (s : State) (c : Fin 8), s.Up → (s.dev.cand c).holdoffRun = true →
    ∃ t, exec (.holdoffEnd c) s = .next t ∧ (t.dev.cand c).holdoffRun = false ∧ (t.dev.cand c).holdoffDone = true ∧
      Leaves (.bellows :: eventParts) (bellowsRegs ++ eventRegs [Reg.pageREF]) s t) ∧
  (∀ (s : State) (e : Int) (a : Nat), s.Up → s.dev.bellows.slew = some e → s.dev.activeCand = some a → s.dev.qualified a = true →
    s.dev.rankOf a ≠ 15 → s.dev.liveFlag Reg.REF_CTRL 0 = false →
    ∃ t, exec .slewEnd s = .next t ∧ t.dev.bellows.slew = none ∧ t.dev.flag Reg.REF_STATE 8 = false ∧
      t.dev.corrNow = clampCorr (s.dev.cand a).freq ∧ t.dev.activeCand = some a ∧
      Leaves [.bellows] bellowsRegs s t) ∧
  (∀ (s : State) (e : Int), s.Up → s.dev.bellows.stepDue = some e → 0 ≤ (s.dev.time : Int) + e * 16384 →
    ∃ t, exec .timeStep s = .next t ∧ (t.dev.time : Int) = s.dev.time + e * 16384 ∧ t.dev.timeRem = s.dev.timeRem ∧
      t.dev.bellows.stepDue = none ∧ t.dev.flag (Reg.PG_STICKY Reg.pageREF) 6 = true ∧
      Leaves (.time :: .bellows :: eventParts) (Reg.REF_STEP_LAST :: Reg.PTP_STATE :: eventRegs [Reg.pageREF]) s t) ∧
  (∀ (s : State) (a : Nat) (phase : Int), s.Up → s.dev.activeCand = some a → s.dev.belState ≠ belLost →
    s.dev.liveFlag Reg.REF_CTRL 1 = false → s.dev.bellows.slew = none → (a = 4 → s.dev.flag Reg.PTP_STATE 0 = false) →
    ∃ t, exec (.loopUpdate phase) s = .next t ∧
      t.dev.corrNow = clampCorr (Config.piFilter (s.dev.live (Reg.REF_CAND_CTRL a) 13 12) phase s.dev.corrNow) ∧
      t.dev.rd Reg.REF_PHERR = BitVec.ofNat 32 (ofSigned 32 (satSigned 32 phase)) ∧
      (s.dev.belState = belLocked → s.dev.live Reg.REF_LOCK_THR 31 16 * 4 < phase.natAbs → s.dev.qualified a = true →
        t.dev.belState = belAcquiring ∧ t.dev.flag (Reg.PG_STICKY Reg.pageREF) 2 = true) ∧
      Leaves (.bellows :: .journal :: eventParts) ([Reg.REF_CAND_POFS a, Reg.REF_PHERR, Reg.REF_HO_MEM] ++ bellowsRegs ++ journalRegs ++
        eventRegs [Reg.pageREF]) s t) ∧
  (∀ (s : State) (a : Nat), s.Up → s.dev.activeCand = some a → s.dev.belState = belAcquiring → s.dev.bellows.slew = none →
    s.dev.bellows.stepDue = none →
    ∃ t, exec .lockAchieved s = .next t ∧ t.dev.belState = belLocked ∧ t.dev.activeCand = some a ∧
      Leaves [.hostif, .outbox] [Reg.REF_STATE, Reg.PG_STAT Reg.pagePTP, Reg.PTP_UNC, Reg.PG_IRQ_FORCE Reg.pagePTP] s t) ∧
  (∀ (s : State), s.Up → s.dev.bellows.hoAvg.isSome = true →
    ∃ t, exec .hoMemValid s = .next t ∧ t.dev.hoValid = true ∧
      Leaves [.bellows, .journal] (Reg.REF_STATE :: journalRegs) s t) ∧
  (∀ (s : State) (w : Writer), s.Opens Reg.pageREF 0x068 w →
    ∃ t, exec (.hoMemClear w) s = .next t ∧ t.dev.hoValid = false ∧ t.dev.rd Reg.REF_HO_MEM = 0 ∧ t.dev.bellows.hoAvg = none ∧
      Leaves [.bellows, .journal] ([Reg.REF_STATE, Reg.REF_HO_MEM, Reg.REF_HO_CTRL] ++ journalRegs) s t)

/-- R70, R72, R73, R75, R84, R93: HOLDOVER too long, a failed and a recovered oscillator, two candidates that disagree, software
control with its period, and PPS_OUT. -/
def Obligations.OscillatorSoftwareAndPpsOut : Prop :=
  (∀ (s : State), s.Up → s.dev.belState = belHoldover → s.dev.fld Reg.REF_HO_CTRL 15 0 ≠ 0 →
    ∃ t, exec .holdoverLong s = .next t ∧ t.dev.flag (Reg.PG_STICKY Reg.pageREF) 4 = true ∧
      t.dev.bellows = { s.dev.bellows with longHold := true } ∧ Leaves (.bellows :: eventParts) (eventRegs [Reg.pageREF]) s t) ∧
  (∀ (s : State), s.Up →
    ∃ t, exec .loscFail s = .next t ∧ t.dev.belState = belLost ∧ t.dev.activeCand = none ∧
      t.dev.flag (Reg.PG_STICKY Reg.pageREF) 0 = true ∧ t.dev.bellows.slew = none ∧ t.dev.bellows.stepDue = none ∧
      Leaves (.bellows :: .twin :: eventParts) (Reg.TWN_STAT :: Reg.PG_IRQ_FORCE Reg.pageTWN :: bellowsRegs ++ eventRegs [Reg.pageREF]) s t) ∧
  (∀ (s : State), s.Up → s.dev.belState = belLost →
    ∃ t, exec .loscRecovered s = .next t ∧
      (s.dev.bestCand = none → s.dev.hoValid = true → t.dev.belState = belHoldover ∧ t.dev.corrNow = clampCorr s.dev.slewBase) ∧
      (s.dev.bestCand = none → s.dev.hoValid = false → t.dev.belState = belFreeRun) ∧
      (∀ c, s.dev.bestCand = some c → t.dev.belState = belAcquiring ∧ t.dev.activeCand = some c) ∧
      Leaves (.bellows :: eventParts) (bellowsRegs ++ eventRegs [Reg.pageREF]) s t) ∧
  (∀ (s : State) (a b : Fin 8), s.Up → s.dev.qualified a = true → s.dev.qualified b = true → s.dev.rankOf a = s.dev.rankOf b → a ≠ b →
    s.dev.fld Reg.REF_DISAGREE 15 0 * 1000 < ((s.dev.cand a).freq - (s.dev.cand b).freq).natAbs →
    ∃ t, exec (.refDisagreeWindow a b) s = .next t ∧ t.dev.flag (Reg.PG_STICKY Reg.pageREF) 1 = true ∧
      t.dev.fld Reg.REF_DISAGREE 18 16 = min a.val b.val ∧ t.dev.fld Reg.REF_DISAGREE 22 20 = max a.val b.val ∧
      t.dev.fld Reg.REF_DISAGREE 15 0 = s.dev.fld Reg.REF_DISAGREE 15 0 ∧
      Leaves eventParts (Reg.REF_DISAGREE :: eventRegs [Reg.pageREF]) s t) ∧
  (∀ (s : State) (phase : Int), s.Up → s.dev.liveFlag Reg.REF_CTRL 1 = true →
    ∃ t, exec (.swPeriodEnd phase) s = .next t ∧ t.dev.rd Reg.REF_PHERR = BitVec.ofNat 32 (ofSigned 32 (satSigned 32 phase)) ∧
      t.dev.flag (Reg.PG_STAT Reg.pageREF) 0 = true ∧
      (s.dev.bellows.swWritten = true → t.dev.corrNow = clampCorr (toSigned 32 (s.dev.rd Reg.REF_FREQ_CORR).toNat)) ∧
      (s.dev.bellows.swWritten = false → t.dev.corrNow = s.dev.corrNow ∧ t.dev.flag (Reg.PG_STICKY Reg.pageREF) 7 = true) ∧
      Leaves (.bellows :: eventParts) ([Reg.REF_PHERR, Reg.PG_STAT Reg.pageREF, Reg.PG_IRQ_FORCE Reg.pageREF, Reg.REF_FREQ_NOW] ++
        eventRegs [Reg.pageREF]) s t) ∧
  (∀ (s : State) (w : Writer) (v : Word), s.Opens Reg.pageREF 0x05C w →
    ∃ t, exec (.refFreqCorrWrite w v) s = .next t ∧
      toSigned 32 (t.dev.rd Reg.REF_FREQ_CORR).toNat = clampCorr (toSigned 32 v.toNat) ∧
      t.dev.flag (Reg.PG_STAT Reg.pageREF) 0 = false ∧ t.dev.bellows.swWritten = true ∧
      Leaves [.bellows] [Reg.REF_FREQ_CORR, Reg.PG_STAT Reg.pageREF] s t) ∧
  (∀ (s : State), s.Up → s.dev.flag Reg.REF_PPS_OUT 31 = true → s.dev.bellows.ppsLast = none →
    ∃ t, exec .ppsOutEdge s = .next t ∧ t.dev.outbox = s.dev.outbox ++ [.ppsOut] ∧
      t.dev.bellows.ppsLast = some s.dev.nowNs ∧ Leaves [.bellows, .outbox] [] s t)

/-- R97, R105 to R112, R117, R118, R121, R432, R433: PTP_TIME latches, offsets, delays and
announcements are kept, a message is sent as the port's state calls for, and the always-on ratio is stored; a worker sends its egress
time each millisecond, a time parent answers, the answer gives offset and delay, and time transfer returns to the first listed lane. -/
def Obligations.PtpServiceKeepsTime : Prop :=
  (∀ (s : State), s.Up → s.dev.hostif.sysFrozen = none → (s.dev.hostif.frozen.any fun f => f.page == Reg.pagePTP) = false →
    ∃ t, exec .ptpTimeRead s = .next t ∧ t.dev.rd Reg.PTP_TIME_LO = BitVec.ofNat 32 s.dev.nowNs ∧
      t.dev.rd Reg.PTP_TIME_HI = BitVec.ofNat 32 (s.dev.nowNs / 2 ^ 32) ∧
      t.dev.rd Reg.PTP_TIME_FRAC = BitVec.ofNat 32 (s.dev.time % 65536) ∧
      Leaves [] [Reg.PTP_TIME_LO, Reg.PTP_TIME_HI, Reg.PTP_TIME_FRAC] s t) ∧
  (∀ (s : State) (p : Fin 16) (ingress origin correction logSync : Int), s.Up → s.dev.flag Reg.PTP_STATE 8 = true →
    s.dev.fld Reg.PTP_STATE 7 4 = p.val → s.dev.ptpPortOn p = true →
    ∃ t, exec (.ptpSyncRx p ingress origin correction logSync) s = .next t ∧
      t.dev.rd Reg.PTP_OFS_LAST = BitVec.ofNat 32 (ofSigned 32 (satSigned 32 (ingress - origin - correction - meanInt s.dev.ptp.delays -
        toSigned 32 (s.dev.rd (Reg.PTP_PORT_ASYM p + 0x800)).toNat))) ∧
      t.dev.fld Reg.PTP_STATE 0 0 = s.dev.servoWanted logSync ∧ t.pending = s.pending ∧ t.mem = s.mem) ∧
  (∀ (s : State) (p : Fin 16) (t1 t2 t3 t4 : Int), s.Up → s.dev.flag Reg.PTP_STATE 8 = true → s.dev.fld Reg.PTP_STATE 7 4 = p.val →
    s.dev.ptpPortOn p = true →
    ∃ t, exec (.ptpDelayRespRx p t1 t2 t3 t4) s = .next t ∧
      t.dev.ptp.delays = (((t2 - t1) + (t4 - t3)) / 2 :: s.dev.ptp.delays).take 16 ∧
      t.dev.rd Reg.PTP_MPD = BitVec.ofNat 32 (ofSigned 32 (satSigned 32 (meanInt t.dev.ptp.delays))) ∧
      Leaves [.ptp] [Reg.PTP_MPD] s t) ∧
  (∀ (s : State) (p : Fin 16) (a : Announce), s.Up → s.dev.ptpPortOn p = true → a.domain = s.dev.live Reg.PTP_DS 7 0 →
    p.val < s.dev.ptp.announce.length → s.dev.ptp.announce.getD p none = none →
    ∃ t, exec (.ptpAnnounceRx p a) s = .next t ∧ t.dev.ptp.announce.getD p none = some a ∧ t.pending = s.pending ∧ t.mem = s.mem) ∧
  (∀ (s : State) (p : Fin 16), s.Up → s.dev.ptpPortOn p = true →
    ∃ t, exec (.ptpAnnounceTimeout p) s = .next t ∧ t.dev.ptp.announce.getD p none = none ∧
      t.dev.fld (Reg.PTP_PORT_CNT p) 15 0 = min (s.dev.fld (Reg.PTP_PORT_CNT p) 15 0 + 1) 65535 ∧
      t.pending = s.pending ∧ t.mem = s.mem) ∧
  (∀ (s : State) (p : Fin 16), s.Up → s.dev.ptpPortOn p = true → s.dev.fld (Reg.PTP_PORT_STAT p) 3 0 = 6 →
    ∃ t, exec (.ptpMessageSend p .announce) s = .next t ∧
      t.dev.outbox = s.dev.outbox ++ [.ptpSend p .announce s.dev.announcedClass] ∧ Leaves [.outbox] [] s t) ∧
  (∀ (s : State) (p : Fin 16), s.Up → s.dev.ptpPortOn p = true → s.dev.fld (Reg.PTP_PORT_STAT p) 3 0 = 9 →
    ∃ t, exec (.ptpMessageSend p .delayReq) s = .next t ∧ t.dev.outbox = s.dev.outbox ++ [.ptpSend p .delayReq 0] ∧
      Leaves [.outbox, .ptp] [] s t) ∧
  (∀ (s : State) (v : Word), s.Up → s.dev.belState = belLocked → s.dev.fld Reg.PWR_STATE 2 0 ≤ 2 →
    ∃ t, exec (.aonCalibrate v) s = .next t ∧ t.dev.rd Reg.PTP_AON_RATIO = v ∧
      Leaves [.journal] (Reg.PTP_AON_RATIO :: journalRegs) s t) ∧
  (∀ (s : State), s.Up → s.dev.isWorker = true → s.dev.flag Reg.PTP_TT_STAT 12 = true → s.dev.ptp.ttT1 = none →
    ∃ t, exec .ttReqSend s = .next t ∧ t.dev.ptp.ttT1 = some s.dev.fabricEgress ∧
      t.dev.outbox = s.dev.outbox ++ [.timeXfer (s.dev.fld Reg.PTP_TT_STAT 7 0) (.req s.dev.fabricEgress)] ∧
      Leaves [.ptp, .outbox] [] s t) ∧
  (∀ (s : State) (lane : Fin 192) (t1 ingress : Int), s.Up → s.dev.isTimeParent = true →
    ∃ t, exec (.timeXferRx lane (.req t1) ingress) s = .next t ∧
      .timeXfer lane (.resp t1 ingress s.dev.fabricEgress) ∈ t.dev.outbox ∧ t.pending = s.pending ∧ t.mem = s.mem) ∧
  (∀ (s : State) (lane : Nat) (a : Int) (rest : List (Nat × Int)), s.Up → s.dev.ptp.ttLanes = (lane, a) :: rest → lane < 192 →
    s.dev.rxState lane = rxLocked →
    ∃ t, exec .ttLaneReturn s = .next t ∧ t.dev.fld Reg.PTP_TT_STAT 7 0 = lane ∧ t.dev.flag Reg.PTP_TT_STAT 12 = true ∧
      t.pending = s.pending ∧ t.mem = s.mem)

/-- R108: a write of 1 to MAC_TSQ_POP moves the head entry into MAC_TSQ_TAG, MAC_TSQ_NS_LO and MAC_TSQ_NS_HI. When the queue is empty,
MAC_TSQ_TAG.VALID reads 0 and the other two registers keep their previous values. -/
def Obligations.TransmitTimestampsArePopped : Prop :=
  (∀ (s : State) (m : Fin 193) (w : Writer) (e : TsqEntry) (rest : List TsqEntry), s.Opens (0x300 + m.val) 0x404 w →
    s.dev.macActive m = true → s.dev.tsqOf m = e :: rest →
    ∃ t, exec (.tsqPop m w) s = .next t ∧ t.dev.tsqOf m = rest ∧ t.dev.fld (Reg.MAC_TSQ_TAG m) 15 0 = e.tag % 65536 ∧
      t.dev.flag (Reg.MAC_TSQ_TAG m) 16 = true ∧ t.dev.rd64 (Reg.MAC_TSQ_NS_LO m) (Reg.MAC_TSQ_NS_HI m) = e.ns % 2 ^ 64 ∧
      Leaves [.ptp] [Reg.MAC_TSQ_STAT m, Reg.MAC_TSQ_TAG m, Reg.MAC_TSQ_NS_LO m, Reg.MAC_TSQ_NS_HI m, Reg.MAC_TSQ_POP m] s t) ∧
  (∀ (s : State) (m : Fin 193) (w : Writer), s.Opens (0x300 + m.val) 0x404 w → s.dev.macActive m = true → s.dev.tsqOf m = [] →
    ∃ t, exec (.tsqPop m w) s = .next t ∧ t.dev.flag (Reg.MAC_TSQ_TAG m) 16 = false ∧
      t.dev.rd (Reg.MAC_TSQ_NS_LO m) = s.dev.rd (Reg.MAC_TSQ_NS_LO m) ∧ t.dev.rd (Reg.MAC_TSQ_NS_HI m) = s.dev.rd (Reg.MAC_TSQ_NS_HI m) ∧
      Leaves [] [Reg.MAC_TSQ_TAG m, Reg.MAC_TSQ_POP m] s t)

/-- R137, R138, R142: a write of a register with no action of its own. A shadowed field takes the value written and the live copy
does not change; a plain RW register reads back what was written; a write of a shadowed field of an armed page is dropped and counted
in SYS_ARMED_WR_CNT. -/
def Obligations.RegisterWriteStores : Prop :=
  (∀ (s : State) (a : Nat) (v : Word) (w : Writer) (r : RegRow),
    bar0Word a = true → s.Opens (a / 0x1000) (a % 0x1000) w → actsOnWrite a = false → s.dev.macIdle (a / 0x1000) = false →
    regRow (a / 0x1000) (a % 0x1000) = some r → r.rw = 0 → s.dev.mirrorReg (a / 0x1000) (a % 0x1000) = false →
    s.dev.armed (a / 0x1000) = false →
    ∃ t, exec (.registerWrite a v w) s = .next t ∧
      t.dev.rd a = merge (shMask (a / 0x1000) (a % 0x1000)) (s.dev.rd a) v ∧ Leaves [] [a] s t) ∧
  (∀ (s : State) (a : Nat) (v : Word) (w : Writer),
    a ∈ [Reg.SYS_BAR2_BASE_HI, Reg.SYS_CENSUS_ADDR_HI, Reg.SYS_CENSUS_LIMIT, Reg.SYS_CHART_ADDR_LO, Reg.SYS_CHART_ADDR_HI,
      Reg.SYS_IRQN_MASK_LO, Reg.SYS_IRQN_MASK_HI, Reg.CRU_LIB_ADDR_HI, Reg.UPD_CHUNK_ADDR_HI] →
    (a = Reg.SYS_BAR2_BASE_HI → v.toNat % 2 = 0) → s.Opens (a / 0x1000) (a % 0x1000) w →
    ∃ t, exec (.registerWrite a v w) s = .next t ∧ t.dev.rd a = v ∧ Leaves [] [a] s t) ∧
  (∀ (s : State) (a : Nat) (v : Word) (w : Writer) (r : RegRow),
    bar0Word a = true → s.Opens (a / 0x1000) (a % 0x1000) w → actsOnWrite a = false → s.dev.macIdle (a / 0x1000) = false →
    regRow (a / 0x1000) (a % 0x1000) = some r → r.rw = 0 → r.sh % 2 ^ 32 ≠ 0 →
    s.dev.mirrorReg (a / 0x1000) (a % 0x1000) = false → s.dev.armed (a / 0x1000) = true →
    ∃ t, exec (.registerWrite a v w) s = .next t ∧
      t.dev.fld Reg.SYS_ARMED_WR_CNT 15 0 = min (s.dev.fld Reg.SYS_ARMED_WR_CNT 15 0 + 1) 65535 ∧
      Leaves [] [Reg.SYS_ARMED_WR_CNT] s t)

/-- R137, R160, R790: a 1 written to an RS bit clears it unless its condition still holds, a 0 has no effect; PG_IRQ_EN takes the word written; FLAP of a
destination's sticky register releases its flap latch (R356). -/
def Obligations.StickyWritesClearOnes : Prop :=
  (∀ (s : State) (page : Nat) (v : Word) (w : Writer), s.Opens page 0x014 w →
    ∃ t, exec (.stickyWrite page false v w) s = .next t ∧
      t.dev.rd (Reg.PG_STICKY page) = s.dev.rd (Reg.PG_STICKY page) &&& ~~~ (v &&& rsMask page 0x014) |||
        heldMask (s.dev.rd (Reg.PG_STICKY page) &&& (v &&& rsMask page 0x014)) (s.dev.pageHolds page) ∧
      Leaves [.hostif, .outbox] [Reg.PG_STICKY page] s t) ∧
  (∀ (s : State) (page : Nat) (v : Word) (w : Writer), s.Opens page 0x018 w →
    ∃ t, exec (.stickyWrite page true v w) s = .next t ∧ t.dev.rd (Reg.PG_IRQ_EN page) = v ∧
      Leaves [.hostif, .outbox] [Reg.PG_IRQ_EN page] s t) ∧
  (∀ (s : State) (k : Fin 2048) (v : Word) (w : Writer),
    s.Opens (0x600 + k.val / 16) (0x140 + k.val % 16 * 0x60) w →
    ∃ t, exec (.entryStickyWrite (.takeDst k) v w) s = .next t ∧
      t.dev.rd (Reg.TAKE_DST_STICKY k) = s.dev.rd (Reg.TAKE_DST_STICKY k) &&&
        ~~~ (v &&& rsMask (0x600 + k.val / 16) (0x140 + k.val % 16 * 0x60)) ∧
      (bit v 3 = true → (t.dev.dst k).latched = false) ∧
      Leaves [.hostif, .outbox, .anvil] [Reg.TAKE_DST_STICKY k, Reg.TAKE_DST_FLAPCNT k] s t) ∧
  (∀ (s : State) (r : Fin 4096) (v : Word) (w : Writer), s.Opens (0x800 + r.val / 16) (0x154 + r.val % 16 * 0x60) w →
    ∃ t, exec (.entryStickyWrite (.flwRx r) v w) s = .next t ∧
      t.dev.rd (Reg.FLW_RX_STICKY r) = s.dev.rd (Reg.FLW_RX_STICKY r) &&&
        ~~~ (v &&& rsMask (0x800 + r.val / 16) (0x154 + r.val % 16 * 0x60)) ∧
      Leaves [.hostif, .outbox] [Reg.FLW_RX_STICKY r] s t)

/-- R161, R740: the link, the MSI-X table, and a message held while its vector was masked. -/
def Obligations.MsixMessagesAreHeldAndSent : Prop :=
  (∀ (s : State) (en : Bool), s.Up → ∃ t, exec (.pcieLinkUp en) s = .next t ∧ t.dev.hostif.linkUp = true ∧
    t.dev.hostif.msgEnable = en ∧ Leaves [.hostif] [] s t) ∧
  (∀ (s : State), s.Up → ∃ t, exec .pcieLinkDown s = .next t ∧ t.dev.hostif.linkUp = false ∧
    t.pending = s.pending ∧ t.mem = s.mem) ∧
  (∀ (s : State) (i : Fin 256) (v : Word), s.Up → s.dev.hostif.linkUp = true →
    ∃ t, exec (.msixTableWrite i v) s = .next t ∧
      Sparse.get msixReset t.dev.hostif.msixTable i.val = (if i.val % 4 = 3 then v &&& 1 else v) ∧
      (∀ j, j ≠ i.val → Sparse.get msixReset t.dev.hostif.msixTable j = Sparse.get msixReset s.dev.hostif.msixTable j) ∧
      Leaves [.hostif, .outbox] [] s t) ∧
  (∀ (s : State) (n : Fin 64), s.Up → n.val ≠ 0 → s.dev.hostif.linkUp = true → s.dev.hostif.pba.getLsbD n.val = true →
    s.dev.vectorMasked n.val = false → s.dev.vectorPending n.val = true →
    ∃ t, exec (.msixDeferredSend n) s = .next t ∧ t.dev.outbox = s.dev.outbox ++ [.msix n.val] ∧
      t.dev.hostif.pba.getLsbD n.val = false ∧ Leaves [.hostif, .outbox] [] s t)

/-- R138 to R143, R146: GO makes the page's shadows wait for their line, AT arms them on a slot, DISARM returns the page to idle and
keeps its shadow. At its safe point, or when its slot's coordinate is reached, a page whose values pass the checks puts every shadowed
field in force: stated of the pages whose blocks take up a new value without a change of state of their own. -/
def Obligations.CommitsWaitDisarmAndApply : Prop :=
  (∀ (s : State) (page : Nat) (slot : Fin 16) (w : Writer), s.Opens page 0x020 w → s.dev.goRefused page = none →
    s.dev.commitOf page = none →
    ∃ t, exec (.commitNow page slot w) s = .next t ∧
      t.dev.commitOf page = some ⟨page, none, false, false, entriesOf page, []⟩ ∧ t.dev.flag (Reg.PG_COMMIT page) 31 = true ∧
      t.pending = s.pending ∧ t.mem = s.mem ∧ (∀ o, 0x040 ≤ o → o < 0x1000 → page ≠ 1 →
        t.dev.rd (page * 0x1000 + o) = s.dev.rd (page * 0x1000 + o))) ∧
  (∀ (s : State) (page : Nat) (slot : Fin 16) (w : Writer), s.Opens page 0x020 w → s.dev.goRefused page = none →
    s.dev.commitOf page = none → s.dev.planeOn (s.dev.cslotTp slot) = true →
    s.dev.tooFar (s.dev.cslotTp slot) (s.dev.cslotF slot) = false →
    ∃ t, exec (.commitArm page slot w) s = .next t ∧ (t.dev.commitOf page).bind CommitReq.slot = some slot.val ∧
      t.dev.armed page = true ∧ t.pending = s.pending ∧ t.mem = s.mem) ∧
  (∀ (s : State) (page : Nat) (w : Writer), s.Opens page 0x020 w → s.dev.armed page = true →
    ∃ t, exec (.commitDisarm page w) s = .next t ∧ t.dev.commitOf page = none ∧ t.dev.armed page = false ∧
      t.pending = s.pending ∧ t.mem = s.mem) ∧
  (∀ (s : State) (page o : Nat), s.Up → page < 0x4000 → plainCommit page = true → o < 0x800 → 0x040 ≤ o → o % 4 = 0 →
    s.dev.hostif.commits = [⟨page, none, false, false, [], []⟩] →
    s.dev.commitHeld ⟨page, none, false, false, [], []⟩ = false →
    commitCheck s.dev [] [page] (s.dev.withCommits [page]) page = none →
    ∃ t, exec (.commitApply [(page, none)]) s = .next t ∧ t.dev.hostif.commits = [] ∧
      t.dev.rd (page * 0x1000 + o + 0x800) &&& shMask page o = s.dev.rd (page * 0x1000 + o) &&& shMask page o) ∧
  (∀ (s : State) (page o : Nat) (k : Fin 16), s.Up → page < 0x4000 → plainCommit page = true → o < 0x800 → 0x040 ≤ o → o % 4 = 0 →
    s.dev.hostif.commits = [⟨page, some k.val, false, false, [], []⟩] → s.dev.hostif.census = none →
    s.dev.hostif.chartLoad = none → s.dev.commitHeld ⟨page, some k.val, false, false, [], []⟩ = false →
    commitCheck s.dev [] [page] (s.dev.withCommits [page]) page = none →
    ∃ t, exec (.slotCoordinate k) s = .next t ∧ t.dev.hostif.commits = [] ∧
      t.dev.rd (page * 0x1000 + o + 0x800) &&& shMask page o = s.dev.rd (page * 0x1000 + o) &&& shMask page o)

/-- R155, R156: a freeze keeps what every word of the page reads; RELEASE, or 100 ms, ends it. A word that writes set or clear
reads on. -/
def Obligations.SnapshotsHoldWhatAPageReads : Prop :=
  (∀ (s : State) (page : Nat) (w : Writer), s.Opens page 0x028 w → s.dev.pageFrozen page = false →
    ∃ t, exec (.snapshotFreeze page w) s = .next t ∧ t.dev.pageFrozen page = true ∧
      t.dev.flag (Reg.PG_SNAPSHOT page) 31 = true ∧
      (∀ (a : Nat) (later : Dev), a / 0x1000 = page → a % 4 = 0 → a % 0x1000 ≠ 0x028 → a ≠ Reg.SYS_SNAPSHOT →
        writtenMask page (a % 0x1000) = 0 → a ≠ Reg.HIE_PEER_STAT → later.hostif = t.dev.hostif → later.readWord a = s.dev.imaged a) ∧
      Leaves [.hostif] ((freezeSet page).map Reg.PG_SNAPSHOT) s t) ∧
  (∀ (s : State) (page : Nat) (w : Writer), s.Opens page 0x028 w →
    ∃ t, exec (.snapshotRelease page w) s = .next t ∧ t.dev.pageFrozen page = false ∧
      t.dev.flag (Reg.PG_SNAPSHOT page) 31 = false ∧ Leaves [.hostif] ((freezeSet page).map Reg.PG_SNAPSHOT) s t) ∧
  (∀ (s : State) (page : Nat), s.Up → page ≠ 1 → s.dev.pageFrozen page = true →
    ∃ t, exec (.snapshotTimeout page) s = .next t ∧ t.dev.pageFrozen page = false ∧
      t.dev.flag (Reg.PG_SNAPSHOT page) 31 = false ∧ Leaves [.hostif] ((freezeSet page).map Reg.PG_SNAPSHOT) s t) ∧
  (∀ (s : State) (w : Writer), s.Opens Reg.pageSYS 0x058 w → s.dev.hostif.sysFrozen = none →
    ∃ t, exec (.sysSnapshotFreeze w) s = .next t ∧ t.dev.hostif.sysFrozen.isSome = true ∧
      t.dev.flag Reg.SYS_SNAPSHOT 31 = true ∧ Leaves [.hostif] [Reg.SYS_SNAPSHOT] s t) ∧
  (∀ (s : State) (w : Writer), s.Opens Reg.pageSYS 0x058 w →
    ∃ t, exec (.sysSnapshotRelease w) s = .next t ∧ t.dev.hostif.sysFrozen = none ∧
      t.dev.flag Reg.SYS_SNAPSHOT 31 = false ∧ Leaves [.hostif] [Reg.SYS_SNAPSHOT] s t)

/-- R131, R157 to R159, R164: an access that is no aligned word sets ACCESS_ERR; a census starts, and one that fits is written
where SYS_CENSUS_ADDR says; a write of SYS_EVT_RD selects an entry. -/
def Obligations.CensusAndEventWindow : Prop :=
  (∀ (s : State) (a n : Nat) (wr : Bool), s.Up → badAccess a n = true →
    ∃ t, exec (.bar0BadAccess a n wr) s = .next t ∧ t.dev.flag (Reg.PG_STICKY Reg.pageSYS) 6 = true ∧
      Leaves eventParts (eventRegs [Reg.pageSYS]) s t) ∧
  (∀ (s : State) (toDram : Bool) (w : Writer), s.Opens Reg.pageSYS 0x060 w → s.dev.flag Reg.SYS_CENSUS_CTRL 31 = false →
    ∃ t, exec (.censusGo none toDram w) s = .next t ∧ t.dev.fld Reg.SYS_CENSUS_STAT 1 0 = 1 ∧
      t.dev.flag Reg.SYS_CENSUS_CTRL 31 = true ∧ (t.dev.hostif.census.map Census.started) = some true ∧
      Leaves [.hostif] [Reg.SYS_CENSUS_CTRL, Reg.SYS_CENSUS_STAT] s t) ∧
  (∀ (s : State) (c : Census), s.Up → s.dev.hostif.census = some c → c.started = true →
    censusSize ≤ (s.dev.rd Reg.SYS_CENSUS_LIMIT).toNat →
    (c.toDram = true → s.dev.bankOpen 7 (busDramBase + s.dev.rd64 Reg.SYS_CENSUS_ADDR_LO Reg.SYS_CENSUS_ADDR_HI) censusSize = true) →
    ∃ t, exec (.censusComplete false) s = .next t ∧ t.dev.fld Reg.SYS_CENSUS_STAT 1 0 = 2 ∧
      (t.dev.rd Reg.SYS_CENSUS_LEN).toNat = censusSize ∧ t.dev.hostif.census = none ∧
      t.mem = s.mem.setBytes c.toDram (s.dev.rd64 Reg.SYS_CENSUS_ADDR_LO Reg.SYS_CENSUS_ADDR_HI) (s.dev.censusBytes c) ∧
      (s.dev.censusBytes c).length = censusSize) ∧
  (∀ (s : State) (q : Word) (w : Writer), s.Opens Reg.pageSYS 0x084 w →
    ∃ t, exec (.evtRead q w) s = .next t ∧ t.dev.rd Reg.SYS_EVT_RD = q ∧
      Leaves eventParts (Reg.SYS_EVT_RD :: eventRegs [Reg.pageSYS]) s t)

/-- R172, R175, R176, R750: a Chart load asked for is shown busy and reads its image, an accepted Chart comes into force, the 2 s
hold ends; SOFT_RESET keeps the page's owner. -/
def Obligations.ChartLoadsAndSoftReset : Prop :=
  (∀ (s : State) (w : Writer), s.Opens Reg.pageSYS 0x0D0 w → s.dev.flag Reg.SYS_CHART_CTRL 31 = false → s.dev.sealing = false →
    s.dev.chartWaits = true →
    ∃ t, exec (.chartLoad none w) s = .next t ∧ t.dev.fld Reg.SYS_CHART_STAT 1 0 = 1 ∧
      t.dev.flag Reg.SYS_CHART_CTRL 31 = true ∧ (t.dev.hostif.chartLoad.map ChartLoad.held) = some true ∧
      Leaves [.hostif] [Reg.SYS_CHART_CTRL, Reg.SYS_CHART_STAT] s t) ∧
  (∀ (s : State), s.Up → s.dev.hostif.chartLoad = none →
    ∃ t, exec .chartHoldEnd s = .next t ∧ t.dev.hostif.chartHold = false ∧ Leaves [.hostif] [] s t) ∧
  (∀ (s : State) (c : Chart) (late : Bool), s.Up → s.dev.hostif.chartNew = some (c, late) →
    ∃ t, exec .chartAccepted s = .next t ∧ t.dev.fld Reg.SYS_CHART_STAT 1 0 = 2 ∧ t.dev.flag Reg.SYS_CHART_CTRL 31 = false ∧
      (t.dev.rd Reg.SYS_CHART_SEQ).toNat = c.seq % 2 ^ 32 ∧
      t.dev.rd64 Reg.SYS_CHART_HASH_LO Reg.SYS_CHART_HASH_HI = c.hash % 2 ^ 64 ∧
      (c.pageInit = [] → c.twinPresent = false → t.dev.hostif.chart = some c ∧ t.dev.hostif.chartPrev = s.dev.hostif.chart ∧
        t.dev.hostif.chartHold = true) ∧ t.pending = s.pending ∧ t.mem = s.mem) ∧
  (∀ (s : State) (page : Nat) (w : Writer), s.Opens page 0x00C w → pageType page = 0x14 → s.dev.sealing = false →
    s.dev.hostif.chart = none → s.dev.commitOf page = none → page < 0x4000 →
    ∃ t, exec (.softReset page w) s = .next t ∧ t.dev.rd (Reg.PG_OWNER page) = s.dev.rd (Reg.PG_OWNER page) ∧
      (∀ (o : Nat) (r : RegRow), regRow page o = some r → 0x040 ≤ o → o < 0x800 → o % 4 = 0 →
        t.dev.rd (page * 0x1000 + o) &&& BitVec.ofNat 32 (r.rw ||| r.rs ||| r.sh) =
          resetWord (page * 0x1000 + o) &&& BitVec.ofNat 32 (r.rw ||| r.rs ||| r.sh)) ∧
      t.pending = s.pending ∧ t.mem = s.mem)

/-- R168 to R171: a management command writes its register as the HOST class and is answered, a TLS session opens, an IS-05
activation without a time commits at once and one with a time is kept until its line. -/
def Obligations.ServicesWriteAsHost : Prop :=
  (∀ (s : State) (k : Fin 9) (v : Word), s.Up → k.val < 8 → s.dev.hostif.sessions.getD k.val false = true → s.dev.ownerOf Reg.pageCRU = 0 →
    s.dev.isStandby = false →
    ∃ t, exec (.mgmtCommand k Reg.CRU_LIB_ADDR_HI v) s = .next t ∧ t.dev.rd Reg.CRU_LIB_ADDR_HI = v ∧
      t.dev.outbox = s.dev.outbox ++ [.mgmtReply k.val false] ∧ Leaves [.outbox] [Reg.CRU_LIB_ADDR_HI] s t) ∧
  (∀ (s : State) (k : Fin 8), s.Up → s.dev.serviceOn 0 = true → s.dev.halServes = true → s.dev.hal.tlsKey = true →
    s.dev.hal.cert = true → k.val < s.dev.hostif.sessions.length → s.dev.hostif.sessions.getD k.val false = false →
    ∃ t, exec (.tlsSessionOpen k true) s = .next t ∧ t.dev.hostif.sessions.getD k.val false = true ∧
      t.dev.outbox = s.dev.outbox ∧ t.pending = s.pending ∧ t.mem = s.mem) ∧
  (∀ (s : State) (page : Nat) (writes : List (Nat × Word)) (tp : Fin 8) (at_ : Nat), s.Up → is05Ok page writes = true →
    s.dev.serviceOn 1 = true → s.dev.gate page 0x020 ⟨.host, 9⟩ ≠ .violation → s.dev.nowNs ≤ at_ →
    ∃ t, exec (.is05Activation page writes tp (some at_)) s = .next t ∧
      t.dev.hostif.is05 = s.dev.hostif.is05 ++ [⟨page, writes, tp.val, some at_⟩] ∧
      t.dev.outbox = s.dev.outbox ++ [.mgmtReply 8 false] ∧ Leaves [.hostif, .outbox] [] s t) ∧
  (∀ (s : State) (page at_ : Nat) (tp : Nat), s.Up → s.dev.hostif.is05 = [⟨page, [], tp, some at_⟩] → s.dev.shadowOffs page = [] → at_ ≤ s.dev.nowNs →
    s.dev.gate page 0x020 ⟨.host, 9⟩ = .open_ → s.dev.commitOf page = none → s.dev.goRefused page = none →
    ∃ t, exec .is05ScheduledDue s = .next t ∧ t.dev.hostif.is05 = [] ∧ t.pending = s.pending ∧ t.mem = s.mem)

/-- R145: a refused commit leaves the live values as they were and the shadow as written, sets COMMIT_REFUSED on the SYS page and records
the page in SYS_COMMIT_LAST: one refused when GO is written, or by a check at its safe point. The first also logs its event, unless
Temper takes no entry (R602, R610). -/
def Obligations.RefusedCommitsChangeNoValue : Prop :=
  (∀ (s : State) (page : Nat) (slot : Fin 16) (w : Writer) (reason detail : Nat), s.Opens page 0x020 w → s.dev.commitOf page = none →
    s.dev.goRefused page = some (reason, detail) →
    ∃ t, exec (.commitNow page slot w) s = .next t ∧ t.dev.flag (Reg.PG_STICKY Reg.pageSYS) 0 = true ∧
      (t.dev.rd Reg.SYS_COMMIT_LAST).toNat = page ∧ t.dev.fld (Reg.PG_COMMIT_STAT page) 2 0 = 3 ∧
      (s.dev.fld Reg.TMP_STAT 1 0 ≠ 3 → (s.dev.nowNs / 1000000000 = s.dev.evlog.second → s.dev.evlog.inSecond < 16384) →
        (t.dev.evlog.entries.any fun e => e.code == 0x100 && e.page == 1 && e.seq == (s.dev.rd Reg.SYS_EVT_WR).toNat &&
          e.arg == page + reason * 65536) = true) ∧
      (∀ o, o < 0x800 → t.dev.rd (page * 0x1000 + o) &&& shMask page o = s.dev.rd (page * 0x1000 + o) &&& shMask page o ∧
        t.dev.rd (page * 0x1000 + o + 0x800) &&& shMask page o = s.dev.rd (page * 0x1000 + o + 0x800) &&& shMask page o) ∧
      t.pending = s.pending ∧ t.mem = s.mem) ∧
  (∀ (s : State) (page : Nat) (e : Option (Fin 16)) (left late : List Nat) (reason detail : Nat), s.Up → page < 0x4000 → 0 < page →
    s.dev.hostif.commits = [⟨page, none, false, false, left, late⟩] → s.dev.commitHeld ⟨page, none, false, false, left, late⟩ = false →
    (s.dev.dueEntries ⟨page, none, false, false, left, late⟩ (e.map Fin.val) false).isSome = true →
    commitCheck s.dev [] [page] (s.dev.withCommits [page]) page = some (reason, detail) →
    ∃ t, exec (.commitApply [(page, e)]) s = .next t ∧ t.dev.flag (Reg.PG_STICKY Reg.pageSYS) 0 = true ∧
      (t.dev.rd Reg.SYS_COMMIT_LAST).toNat = page ∧ t.dev.fld (Reg.PG_COMMIT_STAT page) 2 0 = 3 ∧ t.dev.hostif.commits = [] ∧
      (∀ o, o < 0x800 → t.dev.rd (page * 0x1000 + o) &&& shMask page o = s.dev.rd (page * 0x1000 + o) &&& shMask page o ∧
        t.dev.rd (page * 0x1000 + o + 0x800) &&& shMask page o = s.dev.rd (page * 0x1000 + o + 0x800) &&& shMask page o) ∧
      t.pending = s.pending ∧ t.mem = s.mem)

/-- R171: in the error state of the Hallmark a new TLS session is refused; a failure of an operating Hallmark closes the open ones and
leaves the datapath as it is. -/
def Obligations.TheErrorStateClosesSessions : Prop :=
  (∀ (s : State) (k : Fin 8) (ok : Bool), s.Up → s.dev.halState = 2 →
    ∃ t, exec (.tlsSessionOpen k ok) s = .next t ∧ t.dev.outbox = s.dev.outbox ++ [.tlsRefused k] ∧
      Within [.hal, .outbox] [Reg.pageHAL, Reg.pageTMP] s t) ∧
  (∀ (s : State) (kind : HalFailure) (code : Fin 256), s.Up → s.dev.halServes = true →
    ∃ t, exec (.hallmarkFailure kind code) s = .next t ∧ t.dev.halState = 2 ∧ t.dev.hostif.sessions = List.replicate 8 false ∧
      t.dev.dataRuns = s.dev.dataRuns ∧ t.dev.fil = s.dev.fil ∧ t.dev.lanes = s.dev.lanes ∧ t.dev.engines = s.dev.engines ∧
      t.dev.sdiOut = s.dev.sdiOut ∧ t.dev.media = s.dev.media ∧ t.pending = s.pending ∧ t.mem = s.mem)

/-- R193: a reference clock lost, restored, or out of its limits, on the lanes it serves. -/
def Obligations.ReferenceClocksReachTheirLanes : Prop :=
  (∀ (s : State) (k : Fin 12) (n : Nat), s.Up → n ∈ lanesOfRefclk k →
    ∃ t, exec (.refclkLost k) s = .next t ∧ t.dev.flag (Reg.LN_QUAD_STAT n) 1 = false ∧ t.dev.flag (Reg.LN_STAT n) 4 = false ∧
      t.dev.rxState n = (if s.dev.rxState n = rxDisabled then rxDisabled else rxPllWait) ∧
      t.dev.flag (Reg.PG_STICKY (lanePage n)) 0 = true ∧ Within lockParts ((lanesOfRefclk k).flatMap lossPages) s t) ∧
  (∀ (s : State) (k : Fin 12) (n : Nat), s.Up → n ∈ lanesOfRefclk k →
    ∃ t, exec (.refclkRestored k) s = .next t ∧ t.dev.flag (Reg.LN_QUAD_STAT n) 1 = true ∧
      (s.dev.rxState n = rxPllWait → s.dev.pllLock n = true → t.dev.rxState n = rxCdrHunt) ∧
      Within [.lanes] ((lanesOfRefclk k).map lanePage) s t) ∧
  (∀ (s : State) (k : Fin 12) (ofs : Int) (n : Nat), s.Up → n ∈ lanesOfRefclk k →
    ∃ t, exec (.refclkOot k ofs) s = .next t ∧
      t.dev.fld (Reg.LN_QUAD_STAT n) 31 16 = ofSigned 16 (satSigned 16 ofs) ∧ t.dev.flag (Reg.PG_STICKY (lanePage n)) 1 = true ∧
      Leaves eventParts ((lanesOfRefclk k).map Reg.LN_QUAD_STAT ++ eventRegs ((lanesOfRefclk k).map lanePage)) s t)

/-- R181, R195, R196, R209: a quad's PLL locks and unlocks; the receiver goes from CDR_HUNT to ALIGN_HUNT with the rate found, and
hunts on at the next allowed rate. -/
def Obligations.PllAndCdrDriveTheReceiver : Prop :=
  (∀ (s : State) (q : Fin 49) (n : Nat), s.Up → n ∈ lanesOfQuad q → s.dev.quadWanted q = true →
    ∃ t, exec (.quadPllLocked q) s = .next t ∧ t.dev.pllLock n = true ∧
      t.dev.flag (Reg.LN_QUAD_STAT n) 2 = ([1, 2, 5].contains (s.dev.quadClass q)) ∧
      (s.dev.rxState n = rxPllWait → s.dev.refclkOk n = true → t.dev.rxState n = rxCdrHunt) ∧
      Within [.lanes] ((lanesOfQuad q).map lanePage) s t) ∧
  (∀ (s : State) (q : Fin 49) (n : Nat), s.Up → n ∈ lanesOfQuad q →
    ∃ t, exec (.quadPllUnlock q) s = .next t ∧ t.dev.pllLock n = false ∧ t.dev.flag (Reg.LN_STAT n) 4 = false ∧
      t.dev.rxState n = (if s.dev.rxState n = rxDisabled then rxDisabled else rxPllWait) ∧
      Within lockParts ((lanesOfQuad q).flatMap lossPages) s t) ∧
  (∀ (s : State) (n : Fin 196) (frac : Bool), s.Up → s.dev.rxState n = rxCdrHunt →
    ∃ t, exec (.cdrLock n frac) s = .next t ∧ t.dev.rxState n = rxAlignHunt ∧
      t.dev.fld (Reg.LN_STAT n) 11 8 =
        (if isHuntRole (s.dev.laneRole n) = true then rateCode (s.dev.laneX n).huntStep frac else 10) ∧
      Leaves [] [Reg.LN_STAT n] s t) ∧
  (∀ (s : State) (n : Fin 196), s.Up → s.dev.rxState n = rxCdrHunt → isHuntRole (s.dev.laneRole n) = true →
    ∃ t, exec (.cdrHuntTimeout n) s = .next t ∧
      (t.dev.laneX n).huntStep = nextHuntStep (s.dev.huntMask n) (s.dev.laneX n).huntStep ∧ Leaves [.lanes] [] s t) ∧
  (∀ (s : State) (n : Fin 196), s.Up → s.dev.rxState n = rxAlignHunt → s.dev.laneRole n = 1 →
    ∃ t, exec (.alignHuntTimeout n) s = .next t ∧ t.dev.rxState n = rxCdrHunt ∧ t.dev.fld (Reg.LN_STAT n) 11 8 = 0 ∧
      t.dev.fld (Reg.LN_LOCK_CNT n) 15 0 = min (s.dev.fld (Reg.LN_LOCK_CNT n) 15 0 + 1) 65535 ∧
      (t.dev.laneX n).huntStep = nextHuntStep (s.dev.huntMask n) (s.dev.laneX n).huntStep ∧
      Leaves [.lanes] [Reg.LN_STAT n, Reg.LN_LOCK_CNT n] s t)

/-- R184, R195, R198: ALIGN_HUNT becomes LOCKED as the lane's role says, and LOCKED is lost with its count and its sticky bit. -/
def Obligations.ReceiversLockAndLose : Prop :=
  (∀ (s : State) (n : Fin 196), s.Up → s.dev.rxState n = rxAlignHunt → isBlockRole (s.dev.laneRole n) = true →
    ∃ t, exec (.blockLock n) s = .next t ∧ t.dev.rxState n = rxLocked ∧ Within eventParts (lockPages n) s t) ∧
  (∀ (s : State) (n : Fin 196), s.Up → s.dev.rxState n = rxAlignHunt → s.dev.laneRole n = 1 →
    ∃ t, exec (.trsAlign n) s = .next t ∧ t.dev.rxState n = rxLocked ∧ Within eventParts (lockPages n) s t) ∧
  (∀ (s : State) (n : Fin 196) (ofs : Int), s.Up → s.dev.rxState n = rxAlignHunt → s.dev.laneRole n = 6 →
    ∃ t, exec (.rawLock n ofs) s = .next t ∧ t.dev.rxState n = rxLocked ∧
      ((t.dev.laneX n).rawBad = true ↔ 1100 < ofs.natAbs) ∧
      Within (.lanes :: eventParts) (lockPages n ++ (List.range 192).map lanePage) s t) ∧
  (∀ (s : State) (n : Fin 196), s.Up → s.dev.rxState n = rxLocked → isBlockRole (s.dev.laneRole n) = true →
    ∃ t, exec (.blockLockLost n) s = .next t ∧ t.dev.rxState n = rxAlignHunt ∧
      t.dev.fld (Reg.LN_LOCK_CNT n) 31 16 = min (s.dev.fld (Reg.LN_LOCK_CNT n) 31 16 + 1) 65535 ∧
      t.dev.flag (Reg.PG_STICKY (lanePage n)) 3 = true ∧ Within lockParts (lossPages n) s t) ∧
  (∀ (s : State) (n : Fin 196), s.Up → s.dev.rxState n = rxAlignHunt ∨ s.dev.rxState n = rxLocked →
    ∃ t, exec (.cdrLost n) s = .next t ∧ t.dev.rxState n = rxCdrHunt ∧ t.dev.fld (Reg.LN_STAT n) 11 8 = 0 ∧
      t.dev.fld (Reg.LN_LOCK_CNT n) 15 0 = min (s.dev.fld (Reg.LN_LOCK_CNT n) 15 0 + 1) 65535 ∧
      t.dev.flag (Reg.PG_STICKY (lanePage n)) 2 = true ∧ Within lockParts (lossPages n) s t) ∧
  (∀ (s : State) (n : Fin 196), s.Up → s.dev.rxState n = rxAlignHunt → isBlockRole (s.dev.laneRole n) = true →
    ∃ t, exec (.invPolaritySeen n) s = .next t ∧ t.dev.flag (Reg.LN_STAT n) 13 = true ∧ t.dev.rxState n = rxAlignHunt ∧
      t.dev.flag (Reg.PG_STICKY (lanePage n)) 4 = true ∧ Leaves eventParts (Reg.LN_STAT n :: eventRegs [lanePage n]) s t)

/-- R206 to R208: the PRBS checker's sync, its 48-bit counters, the latched read, CLR and INJECT. -/
def Obligations.PrbsCountsAndClears : Prop :=
  (∀ (s : State) (n : Fin 196), s.Up → s.dev.prbsChk n ≠ 0 →
    ∃ t, exec (.prbsSync n) s = .next t ∧ t.dev.flag (Reg.LN_PRBS_STAT n) 0 = true ∧ Leaves [] [Reg.LN_PRBS_STAT n] s t) ∧
  (∀ (s : State) (n : Fin 196) (bits errs : Nat), s.Up → s.dev.flag (Reg.LN_PRBS_STAT n) 0 = true →
    ∃ t, exec (.prbsSyncLost n bits errs) s = .next t ∧ t.dev.flag (Reg.LN_PRBS_STAT n) 0 = false ∧
      (t.dev.laneX n).prbsErr = min ((s.dev.laneX n).prbsErr + errs) (2 ^ 48 - 1) ∧
      (t.dev.laneX n).prbsBits = min ((s.dev.laneX n).prbsBits + bits) (2 ^ 48 - 1) ∧
      t.dev.flag (Reg.PG_STICKY (lanePage n)) 6 = true ∧
      Leaves (.lanes :: eventParts) (Reg.LN_PRBS_STAT n :: eventRegs [lanePage n]) s t) ∧
  (∀ (s : State) (n : Fin 196) (bits errs : Nat), s.Up → s.dev.flag (Reg.LN_PRBS_STAT n) 0 = true →
    2 ^ 48 - 1 ≤ (s.dev.laneX n).prbsErr + errs ∨ 2 ^ 48 - 1 ≤ (s.dev.laneX n).prbsBits + bits →
    ∃ t, exec (.prbsSat n bits errs) s = .next t ∧
      (t.dev.laneX n).prbsErr = min ((s.dev.laneX n).prbsErr + errs) (2 ^ 48 - 1) ∧
      (t.dev.laneX n).prbsBits = min ((s.dev.laneX n).prbsBits + bits) (2 ^ 48 - 1) ∧
      t.dev.flag (Reg.PG_STICKY (lanePage n)) 7 = true ∧ Leaves (.lanes :: eventParts) (eventRegs [lanePage n]) s t) ∧
  (∀ (s : State) (n : Fin 196) (bits errs : Nat), s.Up → s.dev.flag (Reg.LN_PRBS_STAT n) 0 = true →
    ∃ t, exec (.prbsErrRead n bits errs) s = .next t ∧
      t.dev.rd64 (Reg.LN_PRBS_ERR_LO n) (Reg.LN_PRBS_ERR_HI n) = min ((s.dev.laneX n).prbsErr + errs) (2 ^ 48 - 1) ∧
      t.dev.rd64 (Reg.LN_PRBS_BITS_LO n) (Reg.LN_PRBS_BITS_HI n) = min ((s.dev.laneX n).prbsBits + bits) (2 ^ 48 - 1) ∧
      Leaves (.lanes :: eventParts) ([Reg.LN_PRBS_ERR_LO n, Reg.LN_PRBS_ERR_HI n, Reg.LN_PRBS_BITS_LO n, Reg.LN_PRBS_BITS_HI n] ++
        eventRegs [lanePage n]) s t) ∧
  (∀ (s : State) (n : Fin 196) (w : Writer), s.Opens (lanePage n) 0x078 w →
    ∃ t, exec (.prbsClear n w) s = .next t ∧ (t.dev.laneX n).prbsErr = 0 ∧ (t.dev.laneX n).prbsBits = 0 ∧
      Leaves [.lanes] [Reg.LN_PRBS_CLR n] s t) ∧
  (∀ (s : State) (n : Fin 196) (w : Writer), s.Opens (lanePage n) 0x078 w → s.dev.flag (Reg.LN_PRBS_STAT n) 1 = true →
    ∃ t, exec (.prbsInject n w) s = .next t ∧ t.dev.outbox = s.dev.outbox ++ [.prbsInvert n] ∧
      Leaves [.outbox] [Reg.LN_PRBS_CLR n] s t)

/-- R214 to R227, R242 to R246: a configured input counts a line without valid TRS, is lost after three of them with its count and
its event, becomes VALID after two clean frames, takes new colour codes at a frame start; a sending output sends each line. -/
def Obligations.SdiInputsAndOutputs : Prop :=
  (∀ (s : State) (n : Fin 192) (x : SdiLine), s.Up → s.dev.sdiWanted n = true → x.trs = false → x.last = false →
    x.levelB = false → s.dev.sdiSrc n false = none →
    ∃ t, exec (.sdiLineRx n x) s = .next t ∧ (t.dev.sdi n).noTrs = (s.dev.sdi n).noTrs + 1 ∧ (t.dev.sdi n).frameOk = false ∧
      (t.dev.sdi n).line = x.line ∧ (t.dev.sdi n).frame = x.frame ∧ Leaves [.sdiIn] [] s t) ∧
  (∀ (s : State) (n : Fin 192) (x : SdiLine), s.Up → s.dev.sdiWanted n = true → x.trs = true → x.last = false → x.line ≠ 1 →
    (s.dev.sdi n).fmt = none → x.pid = none → x.crcOk = true → x.numbered = x.line → x.audio = [] → x.levelB = false →
    s.dev.sdiSrc n false = none →
    ∃ t, exec (.sdiLineRx n x) s = .next t ∧ (t.dev.sdi n).fmt = some x.raster ∧ t.dev.sdiState n = sdiSettling ∧
      (t.dev.sdi n).noTrs = 0 ∧ Within (.anvil :: .sdiIn :: eventParts) (sdiPages ++ [Reg.pageHRT]) s t) ∧
  (∀ (s : State) (n : Fin 192) (src : Source), s.Up → s.dev.sdiWanted n = true → 3 ≤ (s.dev.sdi n).noTrs →
    s.dev.sdiState n ≠ sdiLost → s.dev.sdiState n ≠ sdiIdle → (s.dev.sdiSrc n false).bind s.dev.src = some src →
    src.everValid = true →
    ∃ t, exec (.sdiLost n) s = .next t ∧ t.dev.sdiState n = sdiLost ∧ t.dev.sdiClean n = 0 ∧
      t.dev.fld (Reg.SDI_RX_EVT_CNT n) 15 0 = min (s.dev.fld (Reg.SDI_RX_EVT_CNT n) 15 0 + 1) 65535 ∧
      t.dev.flag (Reg.PG_STICKY (sdiPage n)) 0 = true ∧
      Within ([.sdiIn, .audio, .audioIn] ++ lockParts) (lossPages n ++ [Reg.pageHRT, Reg.pageAUDENG]) s t) ∧
  (∀ (s : State) (n : Fin 192), s.Up → s.dev.sdiWanted n = true → s.dev.sdiState n = sdiSettling → s.dev.sdiClean n = 2 →
    ∃ t, exec (.sdiValid n) s = .next t ∧ t.dev.sdiState n = sdiValid ∧
      Within ([.anvil, .sdiIn, .audio, .audioIn] ++ eventParts) (eventPages (sdiPages ++ [Reg.pageHRT, Reg.pageAUDENG])) s t) ∧
  (∀ (s : State) (n : Fin 192), s.Up → s.dev.sdiWanted n = true → s.dev.sdiState n = sdiValid → (s.dev.sdi n).redesc = true →
    ∃ t, exec (.descChg n) s = .next t ∧ (t.dev.sdi n).redesc = false ∧ t.dev.flag (Reg.PG_STICKY (sdiPage n)) 11 = true ∧
      Within ([.anvil, .sdiIn, .audio, .audioIn] ++ eventParts) (eventPages (sdiPages ++ [Reg.pageHRT, Reg.pageAUDENG])) s t) ∧
  (∀ (s : State) (n : Fin 192) (f l : Nat) (x : TxLine), s.Up → s.dev.sdiSends n = true → s.dev.liveFlag (Reg.SDI_TX_GROUP n) 24 = false →
    s.dev.live (Reg.SDI_TX_AUD n) 21 16 = 0 → x.lastVertical = false →
    ∃ t, exec (.sdiTxLine n f l x) s = .next t ∧ t.dev.flag (Reg.SDI_TX_STAT n) 4 = true ∧
      t.dev.outbox = s.dev.outbox ++ [.sdiLine n 0 f l ((s.dev.sdiTxShow n).outLine (s.dev.sdiTxDst n) l).1 []
        (placeAnc x (decide (s.dev.live (Reg.SDI_TX_CFG n) 21 16 ≤ l)) ((s.dev.sdiTxShow n).outLine (s.dev.sdiTxDst n) l).2.2
          (s.dev.sdiTx n).waiting).1] ∧
      Leaves [.sdiOut, .outbox] [Reg.SDI_TX_STAT n] s t)

/-- R253 to R265, R269, R270, R278, R283, R313: a MAC counts and turns away, or writes a good frame to its host ring with the
descriptor's write-back; its link, its pause and its byte counts. -/
def Obligations.MacsReceiveFrames : Prop :=
  (∀ (s : State) (m : Fin 193) (x : RxFrame), s.Up → s.dev.macActive m = true → x.corrected = 0 → x.uncorrectable = 0 →
    frameNat x.bytes 0 6 ≠ s.dev.macAddr m → frameNat x.bytes 0 1 % 2 = 0 → s.dev.liveFlag (Reg.MAC_CFG m) 1 = false →
    ∃ t, exec (.macFrameRx m x) s = .next t ∧
      t.dev.fld (Reg.MAC_CNT m 10) 31 0 = min (s.dev.fld (Reg.MAC_CNT m 10) 31 0 + 1) (2 ^ 32 - 1) ∧
      Leaves [] [Reg.MAC_CNT m 10, Reg.MAC_FEC_CORR m] s t) ∧
  (∀ (s : State) (m : Fin 193) (x : RxFrame) (k : Nat), s.Up → s.dev.macActive m = true → x.corrected = 0 → x.uncorrectable = 0 →
    frameNat x.bytes 0 6 = s.dev.macAddr m → s.dev.rxErr m x = ⟨false, false, false, false⟩ → frameTag x.bytes = none →
    frameType x.bytes ≠ some 0x8808 → frameType x.bytes ≠ some 0x88CC → x.held + x.bytes.length ≤ 20480 →
    s.dev.filtAction m x.bytes = (1, k, 0x100) → s.dev.liveFlag (Reg.MAC_RING_RX_CFG k) 0 = true →
    handedOver (s.dev.fld (Reg.MAC_RING_RX_TAIL k) 31 0) (s.dev.fld (Reg.MAC_RING_RX_HEAD k) 31 0) ≠ 0 →
    x.bytes.length ≤ s.dev.live (Reg.MAC_RING_RX_BUF k) 14 0 →
    ∃ t, exec (.macFrameRx m x) s = .next t ∧
      t.dev.fld (Reg.MAC_RING_RX_HEAD k) 31 0 = (s.dev.fld (Reg.MAC_RING_RX_HEAD k) 31 0 + 1) % 2 ^ 32 ∧
      t.dev.fld (Reg.MAC_CNT m 0) 31 0 = min (s.dev.fld (Reg.MAC_CNT m 0) 31 0 + 1) (2 ^ 32 - 1) ∧
      t.mem = (s.mem.setBytes (s.dev.liveFlag (Reg.MAC_RING_RX_CFG k) 2)
          (s.mem.nat (s.dev.liveFlag (Reg.MAC_RING_RX_CFG k) 2) (s.dev.rxDescAddr k (s.dev.fld (Reg.MAC_RING_RX_HEAD k) 31 0)) 8)
          x.bytes).setBytes (s.dev.liveFlag (Reg.MAC_RING_RX_CFG k) 2)
        (s.dev.rxDescAddr k (s.dev.fld (Reg.MAC_RING_RX_HEAD k) 31 0) + 8) (rxBack m 0x100 x.bytes.length s.dev.nowNs) ∧
      Within (.media :: eventParts) (eventPages [macPage m, ringPage k]) { s with mem := t.mem } t) ∧
  (∀ (s : State) (m : Fin 193), s.Up → s.dev.macPaused m = true → (s.dev.macX m).held = [] →
    ∃ t, exec (.pauseEnd m) s = .next t ∧ t.dev.macPaused m = false ∧ t.dev.rd (Reg.MAC_PAUSE_LEFT m) = 0 ∧
      Leaves [.media] [Reg.MAC_STAT m, Reg.MAC_PAUSE_LEFT m] s t) ∧
  (∀ (s : State) (m : Fin 193) (due : Nat) (p : FlowSend), s.Up → s.dev.macPaused m = true → (s.dev.macX m).held = [(due, p)] →
    p.flow < 4096 → s.dev.macLink m = true → s.dev.nowNs ≤ due + s.dev.live Reg.FLW_ENG_HOLD 7 0 * 1000 →
    ∃ t, exec (.pauseEnd m) s = .next t ∧ .flowPacket m p ∈ t.dev.outbox ∧ (t.dev.macX m).held = [] ∧
      t.dev.fld (Reg.FLW_TX_LATE p.flow) 31 0 = min (s.dev.fld (Reg.FLW_TX_LATE p.flow) 31 0 + 1) (2 ^ 32 - 1) ∧
      Within (.media :: eventParts) (eventPages [macPage m, 0x900 + p.flow / 16]) s t) ∧
  (∀ (s : State) (m : Fin 193) (order : Nat), s.Up → s.dev.macActive m = true → s.dev.macLocked m = true →
    s.dev.flag (Reg.MAC_STAT m) 1 = false → s.dev.flag (Reg.MAC_STAT m) 2 = false →
    ∃ t, exec (.macLinkUp m order) s = .next t ∧ t.dev.macLink m = true ∧
      t.dev.flag (Reg.MAC_STAT m) 6 = (s.dev.liveFlag (Reg.MAC_CFG m) 0 && decide (m ≠ 192)) ∧
      Leaves [.hostif, .outbox] [Reg.MAC_STAT m, Reg.PG_IRQ_FORCE (macPage m)] s t) ∧
  (∀ (s : State) (m : Fin 193) (lf rf : Bool), s.Up → s.dev.macActive m = true → lf = true ∨ rf = true →
    ∃ t, exec (.macLinkFault m lf rf) s = .next t ∧ t.dev.macLink m = false ∧
      t.dev.flag (Reg.MAC_STAT m) 1 = (lf || !s.dev.macLocked m) ∧ t.dev.flag (Reg.MAC_STAT m) 2 = rf ∧
      Leaves [.hostif, .outbox] [Reg.MAC_STAT m, Reg.PG_IRQ_FORCE (macPage m)] s t) ∧
  (∀ (s : State) (m : Fin 193), s.Up → s.dev.macActive m = true →
    ∃ t, exec (.macBytesRead m true) s = .next t ∧ t.dev.rd (Reg.MAC_CNT m 5) = BitVec.ofNat 32 ((s.dev.macX m).txBytes / 2 ^ 32) ∧
      Leaves [] [Reg.MAC_CNT m 5] s t) ∧
  (∀ (s : State) (m : Fin 193), s.Up → s.dev.macActive m = true →
    ∃ t, exec (.macBytesRead m false) s = .next t ∧ t.dev.rd (Reg.MAC_CNT m 2) = BitVec.ofNat 32 ((s.dev.macX m).rxBytes / 2 ^ 32) ∧
      Leaves [] [Reg.MAC_CNT m 2] s t)

/-- R268, R271 to R277, R280 to R282: the tails with what the host wrote before them, moderation, a ring's disable, a frame of
the cores and one of a ring, Low Power Idle and LLDP. -/
def Obligations.RingsMoveAndMacsSend : Prop :=
  (∀ (s : State) (k : Fin 64) (v : Word) (cells : List Host.Cell) (w : Writer), s.Opens (ringPage k) 0x058 w →
    handedOver v.toNat (s.dev.fld (Reg.MAC_RING_RX_HEAD k) 31 0) ≤ s.dev.live (Reg.MAC_RING_RX_COUNT k) 16 0 →
    ∃ t, exec (.rxTailWrite k v cells w) s = .next t ∧ t.dev.rd (Reg.MAC_RING_RX_TAIL k) = v ∧ t.mem = s.mem.hostWrote cells ∧
      Leaves [] [Reg.MAC_RING_RX_TAIL k] { s with mem := t.mem } t) ∧
  (∀ (s : State) (k : Fin 64) (v : Word) (cells : List Host.Cell) (w : Writer), s.Opens (ringPage k) 0x058 w →
    s.dev.live (Reg.MAC_RING_RX_COUNT k) 16 0 < handedOver v.toNat (s.dev.fld (Reg.MAC_RING_RX_HEAD k) 31 0) →
    ∃ t, exec (.rxTailWrite k v cells w) s = .next t ∧ t.dev.flag (Reg.PG_STICKY (ringPage k)) 5 = true ∧
      t.mem = s.mem.hostWrote cells ∧ Leaves eventParts (eventRegs [ringPage k]) { s with mem := t.mem } t) ∧
  (∀ (s : State) (k : Fin 64) (v : Word) (cells : List Host.Cell) (w : Writer), s.Opens (ringPage k) 0x094 w →
    handedOver v.toNat (s.dev.fld (Reg.MAC_RING_TX_HEAD k) 31 0) ≤ s.dev.live (Reg.MAC_RING_TX_COUNT k) 16 0 →
    ∃ t, exec (.txTailWrite k v cells w) s = .next t ∧ t.dev.rd (Reg.MAC_RING_TX_TAIL k) = v ∧ t.mem = s.mem.hostWrote cells ∧
      Leaves [] [Reg.MAC_RING_TX_TAIL k] { s with mem := t.mem } t) ∧
  (∀ (s : State) (k : Fin 64), s.Up → (s.dev.ringX k).since ≠ 0 →
    ∃ t, exec (.rxIrqModTimer k) s = .next t ∧ (t.dev.ringX k).since = 0 ∧ t.dev.flag (Reg.PG_STICKY (ringPage k)) 0 = true ∧
      Leaves (.media :: eventParts) (eventRegs [ringPage k]) s t) ∧
  (∀ (s : State) (k : Fin 64), s.Up → (s.dev.ringX k).rxOff = true →
    ∃ t, exec (.ringDisableDone k) s = .next t ∧ t.dev.liveFlag (Reg.MAC_RING_RX_CFG k) 0 = false ∧ (t.dev.ringX k).rxOff = false ∧
      Leaves [.media] [Reg.MAC_RING_RX_CFG k + 0x800] s t) ∧
  (∀ (s : State) (m : Fin 193) (l : List Byte), s.Up → s.dev.macActive m = true → s.dev.macPaused m = false →
    (s.dev.macX m).waking = false → s.dev.flag (Reg.MAC_STAT m) 4 = false → s.dev.macLink m = true →
    ∃ t, exec (.macFrameTx m (some l)) s = .next t ∧
      t.dev.outbox = s.dev.outbox ++ [.ethFrame m (l ++ List.replicate (60 - l.length) 0)] ∧
      t.dev.fld (Reg.MAC_CNT m 3) 31 0 = min (s.dev.fld (Reg.MAC_CNT m 3) 31 0 + 1) (2 ^ 32 - 1) ∧
      Leaves [.media, .outbox] [Reg.MAC_CNT m 3, Reg.MAC_CNT m 4] s t) ∧
  (∀ (s : State) (m : Fin 193) (k : Nat), s.Up → s.dev.macActive m = true → s.dev.macPaused m = false →
    (s.dev.macX m).waking = false → s.dev.flag (Reg.MAC_STAT m) 4 = false → s.dev.macLink m = true →
    s.dev.txNextRing s.mem m = some k → s.dev.txFrameLen s.mem k = some 1 →
    s.dev.txFlags s.mem k (s.dev.fld (Reg.MAC_RING_TX_HEAD k) 31 0) / 8 % 2 = 0 →
    s.mem.nat (s.dev.liveFlag (Reg.MAC_RING_TX_CFG k) 2) (s.dev.txDescAddr k (s.dev.fld (Reg.MAC_RING_TX_HEAD k) 31 0) + 8) 2 % 16384 + 4 ≤
      s.dev.live (Reg.MAC_MAX_FRAME m) 13 0 →
    ∃ t, exec (.macFrameTx m none) s = .next t ∧
      t.dev.fld (Reg.MAC_RING_TX_HEAD k) 31 0 = (s.dev.fld (Reg.MAC_RING_TX_HEAD k) 31 0 + 1) % 2 ^ 32 ∧
      t.mem = s.mem.setBytes (s.dev.liveFlag (Reg.MAC_RING_TX_CFG k) 2)
        (s.dev.txDescAddr k (s.dev.fld (Reg.MAC_RING_TX_HEAD k) 31 0) + 10)
        (bytesLE 2 (s.dev.txFlags s.mem k (s.dev.fld (Reg.MAC_RING_TX_HEAD k) 31 0) ||| 1)) ∧
      (t.dev.macX m).lastRing = k ∧ t.dev.flag (Reg.PG_STICKY (ringPage k)) 1 = true ∧
      Within (.media :: eventParts) (eventPages [macPage m, ringPage k]) { s with mem := t.mem } t) ∧
  (∀ (s : State) (m : Fin 193), s.Up → s.dev.macActive m = true → m ≠ 192 → s.dev.liveFlag (Reg.MAC_CFG m) 3 = true →
    s.dev.flag (Reg.MAC_LPI_STAT m) 16 = true → s.dev.macLink m = true → s.dev.macHasFlow m = false → s.dev.macPaused m = true →
    s.dev.flag (Reg.MAC_STAT m) 4 = false → (s.dev.macX m).waking = false →
    ∃ t, exec (.lpiEnter m) s = .next t ∧ t.dev.flag (Reg.MAC_STAT m) 4 = true ∧
      t.dev.fld (Reg.MAC_CNT m 18) 31 0 = min (s.dev.fld (Reg.MAC_CNT m 18) 31 0 + 1) (2 ^ 32 - 1) ∧
      Leaves [] [Reg.MAC_STAT m, Reg.MAC_CNT m 18] s t) ∧
  (∀ (s : State) (m : Fin 193), s.Up → ∃ t, exec (.lpiWakeDone m) s = .next t ∧ (t.dev.macX m).waking = false ∧
    Leaves [.media] [] s t) ∧
  (∀ (s : State) (m : Fin 193) (tw : Nat), s.Up → s.dev.serviceOn 2 = true → s.dev.macActive m = true → m ≠ 192 →
    ∃ t, exec (.lldpRx m tw) s = .next t ∧ t.dev.fld (Reg.MAC_LPI_STAT m) 15 0 = tw % 65536 ∧
      t.dev.flag (Reg.MAC_LPI_STAT m) 16 = true ∧ Leaves [] [Reg.MAC_LPI_STAT m] s t) ∧
  (∀ (s : State) (m : Fin 193), s.Up → ∃ t, exec (.lldpExpiry m) s = .next t ∧ t.dev.flag (Reg.MAC_LPI_STAT m) 16 = false ∧
    t.dev.flag (Reg.MAC_STAT m) 4 = false ∧ Leaves [] [Reg.MAC_LPI_STAT m, Reg.MAC_STAT m] s t) ∧
  (∀ (s : State) (m : Fin 193), s.Up → s.dev.serviceOn 2 = true → s.dev.macActive m = true → s.dev.macLink m = true →
    ∃ t, exec .lldpTransmit s = .next t ∧ .lldp m (s.dev.live (Reg.MAC_LPI_CFG m) 15 0) ∈ t.dev.outbox ∧
      Leaves [.outbox] ((List.range 193).map fun i => Reg.MAC_CNT i 17) s t)

/-- R289, R291, R295 to R299, R303, R305, R317: a packet is dropped and counted, or joins its line; a line's release, a lost flow, a
restored one, and membership. -/
def Obligations.FlowsReceive : Prop :=
  (∀ (s : State) (m : Fin 192) (p : FlowPacket), s.Up → p.ipOk = false →
    ∃ t, exec (.flowPacketRx m p) s = .next t ∧
      t.dev.fld (Reg.FLW_ENG_CNT 1) 31 0 = min (s.dev.fld (Reg.FLW_ENG_CNT 1) 31 0 + 1) (2 ^ 32 - 1) ∧
      t.dev.flag (Reg.PG_STICKY Reg.pageFLWENG) 1 = true ∧
      Leaves eventParts (Reg.FLW_ENG_CNT 1 :: eventRegs [Reg.pageFLWENG]) s t) ∧
  (∀ (s : State) (m : Fin 192) (p : FlowPacket) (r : Fin 4096) (line ofs len : Nat) (words : List Nat), s.Up → p.ipOk = true →
    p.csumOk = true → p.version = 2 → s.dev.rxMatch m p = some r.val → p.pt = s.dev.rxPt r → p.payload = .video line ofs len words →
    s.dev.rxLead r = r → s.dev.rxType r = 0 → s.dev.rxStat r = 3 → line ≠ 0 → line ≤ rasterTotal (bits (s.dev.rxFmt r) 2 0) →
    len ≠ 0 → words.length = len →
    ofs + len ≤ rasterWidth (bits (s.dev.rxFmt r) 2 0) * bitsPerPixel (bits (s.dev.rxFmt r) 6 4) / bitsPerWord (bits (s.dev.rxFmt r) 6 4) →
    (s.dev.flowIn r).released < lineKey (s.dev.frameOfTs (s.dev.rxTp r) p.ts).1 line → (s.dev.flowIn r).seen = [] →
    ∃ t, exec (.flowPacketRx m p) s = .next t ∧
      ((s.dev.frameOfTs (s.dev.rxTp r) p.ts).1, line, ofs, words) ∈ (t.dev.flowIn r).video ∧
      t.dev.fld (Reg.FLW_RX_PKTS r) 31 0 = min (s.dev.fld (Reg.FLW_RX_PKTS r) 31 0 + 1) (2 ^ 32 - 1) ∧
      Within [.media, .anvil] [flwRxPage r, Reg.pageHRT] s t) ∧
  (∀ (s : State) (r : Fin 4096) (f l : Nat) (active first final : Bool), s.Up → s.dev.rxEn r = true → s.dev.rxLead r = r →
    ∃ t, exec (.flowLineRelease r f l active first final) s = .next t ∧
      (t.dev.flowIn r).released = max (s.dev.flowIn r).released (lineKey f l) ∧
      (∀ v ∈ (t.dev.flowIn r).video, lineKey f l < lineKey v.1 v.2.1) ∧ t.pending = s.pending ∧ t.mem = s.mem) ∧
  (∀ (s : State) (r : Fin 4096), s.Up → s.dev.rxEn r = true → s.dev.rxLead r = r → s.dev.rxPair r = false → s.dev.rxStat r = 3 →
    ∃ t, exec (.flowLost r) s = .next t ∧ t.dev.rxStat r = 1 ∧ t.dev.flag (Reg.FLW_RX_STICKY r) 0 = true ∧
      Within (.anvil :: eventParts) (eventPages [flwRxPage r, Reg.pageHRT]) s t) ∧
  (∀ (s : State) (r : Fin 4096), s.Up → s.dev.rxEn r = true → s.dev.rxLead r = r → s.dev.rxType r ≠ 0 → s.dev.rxStat r = 2 →
    ∃ t, exec (.flowAudioRestore r) s = .next t ∧ t.dev.rxStat r = 3 ∧
      Within ([.anvil, .media] ++ eventParts) (eventPages [flwRxPage r, Reg.pageHRT]) s t) ∧
  (∀ (s : State) (r : Fin 4096), s.Up → (s.dev.flowIn r).repeats ≠ 0 → s.dev.rxJoined r = true → s.dev.macLink (s.dev.rxMac r) = true →
    ∃ t, exec (.igmpReportRepeat r) s = .next t ∧ (t.dev.flowIn r).repeats + 1 = (s.dev.flowIn r).repeats ∧
      t.dev.outbox = s.dev.outbox ++ [.membership (s.dev.rxMac r) (s.dev.rxDaddr r)
        (if s.dev.rxSrcFilt r then some (s.dev.rxSaddr r) else none) false] ∧ Leaves [.media, .outbox] [] s t) ∧
  (∀ (s : State) (m : Fin 192) (q : MembershipQuery), s.Up → q.current = false →
    ∃ t, exec (.igmpQueryRx m q) s = .next t ∧
      t.dev.fld (Reg.FLW_ENG_CNT 4) 31 0 = min (s.dev.fld (Reg.FLW_ENG_CNT 4) 31 0 + 1) (2 ^ 32 - 1) ∧
      Leaves [] [Reg.FLW_ENG_CNT 4] s t) ∧
  (∀ (s : State) (m : Fin 192) (q : MembershipQuery) (r : Nat), s.Up → q.current = true → q.group = none → r ∈ s.dev.rxEntries →
    s.dev.rxJoined r = true → s.dev.rxMac r = m.val → s.dev.macLink m = true →
    ∃ t, exec (.igmpQueryRx m q) s = .next t ∧ .membership m (s.dev.rxDaddr r)
        (if s.dev.rxSrcFilt r then some (s.dev.rxSaddr r) else none) false ∈ t.dev.outbox ∧ Leaves [.outbox] [] s t)

/-- R306 to R313: a packet of a transmit flow moves its sequence number on; it is sent, or held while its MAC is paused; a video
packet carries the words of its line. -/
def Obligations.FlowsTransmit : Prop :=
  (∀ (s : State) (k : Fin 4096) (f n l : Nat) (last : Bool), s.Up → s.dev.txEn k = true → s.dev.dstEnabled (s.dev.txDst k) = true →
    s.dev.dataRuns = true → s.dev.macPaused (s.dev.txMac k) = false → s.dev.macLink (s.dev.txMac k) = true →
    ∃ t, exec (.flowPacketTx k f n l last) s = .next t ∧
      t.dev.fld (Reg.FLW_TX_SEQ k) 31 0 = (s.dev.fld (Reg.FLW_TX_SEQ k) 31 0 + 1) % 2 ^ 32 ∧
      t.dev.flag (Reg.FLW_TX_STAT k) 0 = true ∧ t.dev.outbox.length = s.dev.outbox.length + 1 ∧
      t.dev.fld (Reg.FLW_TX_PKTS k) 31 0 = min (s.dev.fld (Reg.FLW_TX_PKTS k) 31 0 + 1) (2 ^ 32 - 1) ∧
      Leaves [.media, .outbox] [Reg.FLW_TX_SEQ k, Reg.FLW_TX_STAT k, Reg.FLW_TX_PKTS k, Reg.MAC_CNT (s.dev.txMac k) 3,
        Reg.MAC_CNT (s.dev.txMac k) 4] s t) ∧
  (∀ (s : State) (k : Fin 4096) (f n l : Nat) (last : Bool), s.Up → s.dev.txEn k = true → s.dev.dstEnabled (s.dev.txDst k) = true →
    s.dev.dataRuns = true → s.dev.macPaused (s.dev.txMac k) = true →
    ∃ t, exec (.flowPacketTx k f n l last) s = .next t ∧
      t.dev.fld (Reg.FLW_TX_SEQ k) 31 0 = (s.dev.fld (Reg.FLW_TX_SEQ k) 31 0 + 1) % 2 ^ 32 ∧
      t.dev.flag (Reg.FLW_TX_STAT k) 1 = true ∧
      (t.dev.macX (s.dev.txMac k)).held.length = (s.dev.macX (s.dev.txMac k)).held.length + 1 ∧
      Leaves [.media] [Reg.FLW_TX_SEQ k, Reg.FLW_TX_STAT k] s t) ∧
  (∀ (s : State) (k : Fin 4096) (f n l : Nat) (last : Bool), s.Up → s.dev.txEn k = true → s.dev.dstEnabled (s.dev.txDst k) = true →
    s.dev.dataRuns = true → s.dev.macPaused (s.dev.txMac k) = false → s.dev.macLink (s.dev.txMac k) = true → s.dev.txType k = 0 →
    rasterInter (s.dev.dstRaster (s.dev.txDst k)) = false →
    ∃ t, exec (.flowPacketTx k f n l last) s = .next t ∧
      t.dev.outbox = s.dev.outbox ++ [.flowPacket (s.dev.txMac k) ⟨k, s.dev.fld (Reg.FLW_TX_SEQ k) 31 0,
        s.dev.frameTicks (s.dev.dstPlane (s.dev.txDst k)) f % 2 ^ 32, decide (n + 1 = s.dev.txPerFrame k),
        s.dev.txFrameBytes k (min (s.dev.txPktBytes k) (s.dev.dstLineBytes (s.dev.txDst k) -
          n % max 1 (s.dev.txPerLine k) * s.dev.txPktBytes k) + 8),
        .video l (n % max 1 (s.dev.txPerLine k) * s.dev.txPktBytes k)
          (min (s.dev.txPktBytes k) (s.dev.dstLineBytes (s.dev.txDst k) - n % max 1 (s.dev.txPerLine k) * s.dev.txPktBytes k))
          (s.dev.outLine (s.dev.txDst k) l).1⟩])

/-- R343, R348, R353, R354, R365: a request on the TAKE_CMD page that passes its checks waits to be durable in the journal, with BUSY
set; one that fails ends REFUSED with its reason. -/
def Obligations.TakeRequestsAreCheckedAndJournalled : Prop :=
  (∀ (s : State) (w : Writer), s.Opens Reg.pageTAKECMD 0x054 w → s.dev.flag Reg.TAKE_REQ_GO 31 = false →
    s.dev.takeBusy.takeCheck s.dev.reqKey s.dev.reqSrc s.dev.reqFrame (s.dev.fld Reg.TAKE_REQ_F_HI 18 16) w.cls.code w.port = none →
    ∃ t, exec (.take w) s = .next t ∧ t.dev.journal.queue.length = s.dev.journal.queue.length + 1 ∧
      (t.dev.journal.queue.getLast?.map JGroup.effect) = some (.take s.dev.reqKey
        ⟨s.dev.anvil.nextTicket, w.cls.code, w.port, s.dev.reqSrc, (s.dev.takeBusy.takeFrame s.dev.reqKey s.dev.reqSrc s.dev.reqFrame).1,
          false, none, false, none⟩ s.dev.reqFrame .page) ∧
      t.dev.anvil.nextTicket = s.dev.anvil.nextTicket + 1 ∧ t.dev.flag Reg.TAKE_REQ_GO 31 = true ∧
      Leaves [.anvil, .journal] [Reg.TAKE_REQ_GO] s t) ∧
  (∀ (s : State) (w : Writer) (reason detail : Nat), s.Opens Reg.pageTAKECMD 0x054 w → s.dev.flag Reg.TAKE_REQ_GO 31 = false →
    s.dev.takeBusy.takeCheck s.dev.reqKey s.dev.reqSrc s.dev.reqFrame (s.dev.fld Reg.TAKE_REQ_F_HI 18 16) w.cls.code w.port =
      some (reason, detail) → reason ≠ 9 →
    ∃ t, exec (.take w) s = .next t ∧
      (t.dev.rd Reg.TAKE_REQ_RESULT).toNat = 2 + reason % 256 * 256 + detail % 65536 * 65536 ∧ t.dev.flag Reg.TAKE_REQ_GO 31 = false ∧
      t.dev.flag (Reg.PG_STICKY Reg.pageTAKECMD) 0 = true ∧ t.dev.journal = s.dev.journal ∧
      Within eventParts (eventPages [Reg.pageTAKECMD, Reg.pageTAKECIRC, Reg.pageTAKEDST s.dev.reqKey]) s t) ∧
  (∀ (s : State) (w : Writer) (p : PendTake), s.Opens Reg.pageTAKECMD 0x054 w → s.dev.flag Reg.TAKE_REQ_GO 31 = false →
    s.dev.sealing = false →
    earliest ((s.dev.dst s.dev.reqKey).pend.filter fun x => x.cls == w.cls.code && x.port == w.port && x.salvo.isNone &&
      (s.dev.reqFrame.isNone || s.dev.reqFrame == some x.f)) = some p → s.dev.takeBusy.beforeLead s.dev.reqKey p = true →
    ∃ t, exec (.takeCancel w) s = .next t ∧
      t.dev.journal.queue = s.dev.journal.queue ++ [⟨[.takeEnd s.dev.reqKey p.ticket 5 0 0], .takeCancel s.dev.reqKey p.ticket .page⟩] ∧
      t.dev.flag Reg.TAKE_REQ_GO 31 = true ∧ Leaves [.journal] [Reg.TAKE_REQ_GO] s t) ∧
  (∀ (s : State) (w : Writer), s.Opens Reg.pageTAKECMD 0x054 w → s.dev.flag Reg.TAKE_REQ_GO 31 = false →
    s.dev.takeBusy.holdCheck s.dev.reqKey ⟨2, w.cls.code, w.port⟩ = none →
    ∃ t, exec (.lock w) s = .next t ∧
      t.dev.journal.queue = s.dev.journal.queue ++ [⟨[.hold s.dev.reqKey (some ⟨2, w.cls.code, w.port⟩)],
        .hold s.dev.reqKey (some ⟨2, w.cls.code, w.port⟩) (s.dev.salvoFrame s.dev.reqKey) .page⟩] ∧
      t.dev.flag Reg.TAKE_REQ_GO 31 = true ∧ Leaves [.journal] [Reg.TAKE_REQ_GO] s t) ∧
  (∀ (s : State) (w : Writer) (reason : Nat), s.Opens Reg.pageTAKECMD 0x054 w → s.dev.flag Reg.TAKE_REQ_GO 31 = false →
    s.dev.takeBusy.holdCheck s.dev.reqKey ⟨2, w.cls.code, w.port⟩ = some reason →
    ∃ t, exec (.lock w) s = .next t ∧ (t.dev.rd Reg.TAKE_REQ_RESULT).toNat = 2 + reason % 256 * 256 ∧
      t.dev.flag Reg.TAKE_REQ_GO 31 = false ∧ t.dev.flag (Reg.PG_STICKY Reg.pageTAKECMD) 0 = true ∧
      Leaves eventParts ([Reg.TAKE_REQ_GO, Reg.TAKE_REQ_RESULT] ++ eventRegs [Reg.pageTAKECMD]) s t) ∧
  (∀ (s : State) (w : Writer), s.Opens Reg.pageTAKECMD 0x054 w → s.dev.flag Reg.TAKE_REQ_GO 31 = false →
    s.dev.takeBusy.holdCheck s.dev.reqKey ⟨1, w.cls.code, w.port⟩ = none →
    ∃ t, exec (.protect w) s = .next t ∧
      t.dev.journal.queue = s.dev.journal.queue ++ [⟨[.hold s.dev.reqKey (some ⟨1, w.cls.code, w.port⟩)],
        .hold s.dev.reqKey (some ⟨1, w.cls.code, w.port⟩) (s.dev.salvoFrame s.dev.reqKey) .page⟩] ∧
      t.dev.flag Reg.TAKE_REQ_GO 31 = true ∧ Leaves [.journal] [Reg.TAKE_REQ_GO] s t) ∧
  (∀ (s : State) (w : Writer), s.Opens Reg.pageTAKECMD 0x054 w → s.dev.flag Reg.TAKE_REQ_GO 31 = false →
    s.dev.takeBusy.releaseCheck s.dev.reqKey 2 w.cls.code w.port = none →
    ∃ t, exec (.unlock w) s = .next t ∧
      t.dev.journal.queue = s.dev.journal.queue ++ [⟨[.hold s.dev.reqKey none], .hold s.dev.reqKey none none .page⟩] ∧
      t.dev.flag Reg.TAKE_REQ_GO 31 = true ∧ Leaves [.journal] [Reg.TAKE_REQ_GO] s t) ∧
  (∀ (s : State) (w : Writer), s.Opens Reg.pageTAKECMD 0x054 w → s.dev.flag Reg.TAKE_REQ_GO 31 = false →
    s.dev.takeBusy.releaseCheck s.dev.reqKey 1 w.cls.code w.port = none →
    ∃ t, exec (.unprotect w) s = .next t ∧
      t.dev.journal.queue = s.dev.journal.queue ++ [⟨[.hold s.dev.reqKey none], .hold s.dev.reqKey none none .page⟩] ∧
      t.dev.flag Reg.TAKE_REQ_GO 31 = true ∧ Leaves [.journal] [Reg.TAKE_REQ_GO] s t) ∧
  (∀ (s : State) (w : Writer), s.Opens Reg.pageTAKECMD 0x054 w → s.dev.flag Reg.TAKE_REQ_GO 31 = false →
    s.dev.takeBusy.releaseCheck s.dev.reqKey 3 w.cls.code w.port = none →
    ∃ t, exec (.forceRelease w) s = .next t ∧
      t.dev.journal.queue = s.dev.journal.queue ++ [⟨[.hold s.dev.reqKey none], .hold s.dev.reqKey none none .page⟩] ∧
      t.dev.flag Reg.TAKE_REQ_GO 31 = true ∧ Leaves [.journal] [Reg.TAKE_REQ_GO] s t) ∧
  (∀ (s : State) (dram : Bool) (cells : List Host.Cell) (w : Writer) (count : Nat), s.Opens Reg.pageTAKECMD 0x094 w →
    s.dev.flag Reg.TAKE_SALVO_GO 31 = false → s.dev.fld Reg.TAKE_SALVO_COUNT 12 0 = count → count ≤ 4096 →
    (s.dev.salvoBusy (1 + b2n dram * 2)).salvoCheck ((s.mem.hostWrote cells).salvoList dram
      (s.dev.rd64 Reg.TAKE_SALVO_ADDR_LO Reg.TAKE_SALVO_ADDR_HI) count) count s.dev.salvoF (s.dev.fld Reg.TAKE_SALVO_F_HI 18 16)
      w.cls.code w.port = none →
    ∃ t, exec (.salvoRequest dram cells w) s = .next t ∧ t.dev.journal.queue.length = s.dev.journal.queue.length + 1 ∧
      (t.dev.journal.queue.getLast?.map JGroup.effect) = some (.salvo ⟨s.dev.anvil.nextTicket, w.cls.code, w.port,
        s.dev.fld Reg.TAKE_SALVO_F_HI 18 16, s.dev.salvoF.getD 0, ((s.mem.hostWrote cells).salvoList dram
          (s.dev.rd64 Reg.TAKE_SALVO_ADDR_LO Reg.TAKE_SALVO_ADDR_HI) count).map fun p => (p.1, p.2, 0)⟩ s.dev.salvoF.isNone) ∧
      t.dev.flag Reg.TAKE_SALVO_GO 31 = true ∧ t.mem = s.mem.hostWrote cells ∧
      Leaves [.anvil, .journal] [Reg.TAKE_SALVO_GO] { s with mem := t.mem } t) ∧
  (∀ (s : State) (w : Writer) (x : Salvo), s.Opens Reg.pageTAKECMD 0x094 w → s.dev.flag Reg.TAKE_SALVO_GO 31 = false →
    s.dev.sealing = false →
    (s.dev.anvil.salvos.find? fun x => x.ticket == (s.dev.rd Reg.TAKE_SALVO_TICKET).toNat) = some x →
    (x.members.all fun m => ((s.dev.salvoBusy 5).dst m.1).pend.any fun p => p.salvo == some x.ticket &&
      (s.dev.salvoBusy 5).beforeLead m.1 p) = true →
    ∃ t, exec (.salvoCancel w) s = .next t ∧
      t.dev.journal.queue = s.dev.journal.queue ++ [⟨[.takeEnd 0 x.ticket 5 0 0], .salvoCancel x.ticket⟩] ∧
      t.dev.flag Reg.TAKE_SALVO_GO 31 = true ∧ Leaves [.journal] [Reg.TAKE_SALVO_GO] s t)

/-- R19, R37, R336, R349, R350, R354: a deferred hold takes effect once its salvo has gone; at the lead limit the only take for a frame
wins unless a hold refuses it; at the switch line the take that won is the destination's source; a read gives black without a source
and the source's cells with one. -/
def Obligations.DestinationsDecideSwitchAndRead : Prop :=
  (∀ (s : State) (r : DestRef) (h : Hold) (f : Nat), s.Up → (s.dev.dst r.key).deferred = some (h, f) → s.dev.salvoFrame r.key = none →
    ∃ t, exec (.holdDeferredApply r) s = .next t ∧ (t.dev.dst r.key).hold = some h ∧ (t.dev.dst r.key).deferred = none ∧
      Within [.anvil] [Reg.pageTAKEDST r.key, Reg.pageTAKECIRC] s t) ∧
  (∀ (s : State) (r : DestRef) (f : Nat) (p : PendTake), s.Up → s.dev.following = false → s.dev.dstEnabled r.key = true →
    s.dev.dataRuns = true → (s.dev.dst r.key).pend = [p] → p.won = false → s.dev.uncommitted p = false →
    s.dev.readFrame r.key p ≤ f → holdRefuses (s.dev.dst r.key).hold p = none →
    ∃ t, exec (.leadLimit r f) s = .next t ∧ (t.dev.dst r.key).pend = [{ p with won := true }] ∧
      (t.dev.dst r.key).src = (s.dev.dst r.key).src ∧
      Within [.anvil, .journal] [Reg.pageTAKEDST r.key, Reg.pageTAKECIRC, Reg.pageTMP] s t) ∧
  (∀ (s : State) (r : DestRef) (f reason : Nat) (p : PendTake), s.Up → s.dev.following = false → s.dev.dstEnabled r.key = true →
    s.dev.dataRuns = true → (s.dev.dst r.key).pend = [p] → p.won = false → s.dev.uncommitted p = false → p.cls ≠ 1 →
    s.dev.readFrame r.key p ≤ f → holdRefuses (s.dev.dst r.key).hold p = some reason →
    ∃ t, exec (.leadLimit r f) s = .next t ∧ (t.dev.dst r.key).pend = [] ∧ (t.dev.dst r.key).src = (s.dev.dst r.key).src ∧
      Within (.anvil :: .journal :: eventParts) (eventPages [Reg.pageTAKEDST r.key, Reg.pageTAKECIRC]) s t) ∧
  (∀ (s : State) (k : Fin 2048) (f : Nat) (p : PendTake), s.Up → s.dev.dstEnabled k = true → s.dev.dataRuns = true →
    (s.dev.hie.resync.any fun x => x.1 == k.val) = false → (s.dev.dst k).pend = [p] → p.won = true → s.dev.readFrame k p = f →
    (s.dev.store k).bind Store.leaves = none → p.cls ≠ 1 → p.cls ≠ 3 → s.dev.liveFlag (Reg.TAKE_DST_BACKUP k) 15 = false →
    ∃ t, exec (.switchLine (.dst k) f) s = .next t ∧ (t.dev.dst k).src = p.src ∧ (t.dev.dst k).primary = p.src ∧
      (t.dev.dst k).pend = [] ∧
      (s.dev.store k = none → s.dev.depthFor k p.src = 0 → (t.dev.dst k).switchedF = some f) ∧
      t.dev.fld (Reg.TAKE_DST_SWITCHES k) 15 0 = min (s.dev.fld (Reg.TAKE_DST_SWITCHES k) 15 0 + 1) 65535 ∧
      t.dev.fld (Reg.TAKE_DST_LAST_F_LO k) 31 0 = p.f % 2 ^ 32 ∧
      Within ([.anvil, .journal, .engines] ++ eventParts) (eventPages ([Reg.pageTAKEDST k, Reg.pageFSDST k, Reg.pageFSENG, Reg.pageHRT] ++
        (List.range 32).map Reg.pageSWG)) s t) ∧
  (∀ (s : State) (k : Fin 2048) (f l : Nat) (active : Bool), s.Up → s.dev.groupMember k = false → s.dev.dstEnabled k = true →
    s.dev.dataRuns = true → s.dev.dstSrc k = none → s.dev.store k = none →
    ∃ t, exec (.hearthRead k f l active) s = .next t ∧ (t.dev.dst k).picture = .black ∧ (t.dev.dst k).muted = true ∧
      (t.dev.dst k).readF = f ∧ (t.dev.dst k).readL = l ∧ Within [.anvil] [Reg.pageTAKEDST k] s t) ∧
  (∀ (s : State) (k : Fin 2048) (f l n : Nat) (x : Source) (y : Desc) (cs : List Cell), s.Up → s.dev.groupMember k = false →
    s.dev.dstEnabled k = true → s.dev.dataRuns = true → s.dev.dstSrc k = some n → s.dev.src n = some x → x.valid = true →
    x.everValid = true → s.dev.blackFor k n = none → s.dev.store k = none → s.dev.pinnedFor k = none → s.dev.swageMismatch k = none →
    s.dev.fld (Reg.FS_DST_PLACE k) 1 1 = 0 → x.desc = some y →
    (x.cells.filter fun c => c.typ == 0 && c.frame == f && c.line == l) = cs → cs.map Cell.idx = List.range y.cells →
    cs.any Cell.invalid = false →
    ∃ t, exec (.hearthRead k f l true) s = .next t ∧ (t.dev.dst k).picture = .cells cs ∧ (t.dev.dst k).muted = false ∧
      (t.dev.dst k).readF = f ∧ (t.dev.dst k).readL = l ∧ Within [.anvil] [Reg.pageTAKEDST k] s t)

/-- R38, R46, R383 to R389, R400, R408: frame lock and its loss, a raw cell sent on, a crossing's cell in its source, a bad header, a
lane identity that agrees or does not, and the bit count of a raw circuit. -/
def Obligations.FabricLanesFrameIdentifyAndCarry : Prop :=
  (∀ (s : State) (n : Fin 196), s.Up → s.dev.isFabric n = true → s.dev.rxState n = rxLocked → s.dev.fabFrame n ≠ 2 →
    ∃ t, exec (.frameLock n) s = .next t ∧ t.dev.fabFrame n = 2 ∧ Leaves [.fabLanes] [Reg.FAB_LN_STAT n] s t) ∧
  (∀ (s : State) (n : Fin 196), s.Up → s.dev.fabFrame n = 2 →
    ∃ t, exec (.frameLockLost n) s = .next t ∧ t.dev.fabFrame n = 1 ∧ t.dev.fabSvc n = false ∧
      (t.dev.fabLane n).cntFrame = min ((s.dev.fabLane n).cntFrame + 1) (2 ^ 32 - 1) ∧
      t.dev.flag (Reg.PG_STICKY Reg.pageFAB) 0 = true ∧ Within lockParts (eventPages [Reg.pageFAB, Reg.pageTWN]) s t) ∧
  (∀ (s : State) (n : Fin 192) (x : FabCell) (item : PlaceItem) (l : Nat), s.Up → s.dev.laneRole n = 5 → s.dev.fabFrame n = 2 →
    s.dev.flag (Reg.FAB_LN_STAT n) 4 = true → x.bad = 0 → x.framed = true → (s.dev.fabLane n).lseq = none →
    (fabCellOf x x.frame).hcrc x.tag = x.hcrc → x.typ = 4 → s.dev.rawOf n = some item → item.txLane = some l →
    ∃ t, exec (.fabricCellRx n x) s = .next t ∧ t.dev.outbox = s.dev.outbox ++ [.rawCell l (x.dseq % 4096) x.payload] ∧
      (t.dev.fabLane n).cntCells = min ((s.dev.fabLane n).cntCells + 1) (2 ^ 32 - 1) ∧
      Within [.fabLanes, .outbox] [Reg.pageFAB] s t) ∧
  (∀ (s : State) (n : Fin 192) (x : FabCell) (c : LocalCross) (y : Source), s.Up → s.dev.laneRole n = 5 → s.dev.fabFrame n = 2 →
    s.dev.flag (Reg.FAB_LN_STAT n) 4 = false → x.bad = 0 → x.framed = true → (s.dev.fabLane n).lseq = none →
    (fabCellOf x x.frame).hcrc x.tag = x.hcrc → x.typ = 0 → s.dev.crossOf n x.tag = some c → s.dev.hie.moves = [] →
    s.dev.dataRuns = true → s.dev.src c.item.idx = some y →
    ∃ t, exec (.fabricCellRx n x) s = .next t ∧
      (((t.dev.src c.item.idx).bind fun z => z.cells.getLast?).map Cell.payload) = some x.payload ∧
      ((t.dev.src c.item.idx).map Source.valid) = some (!x.invalid) ∧
      Within ([.fabLanes, .anvil] ++ eventParts) (eventPages [Reg.pageFAB, Reg.pageHRT]) s t) ∧
  (∀ (s : State) (n : Fin 192) (x : FabCell), s.Up → s.dev.laneRole n = 5 → s.dev.fabFrame n = 2 →
    s.dev.flag (Reg.FAB_LN_STAT n) 4 = false → x.bad = 0 → x.framed = true → (s.dev.fabLane n).lseq = none →
    (fabCellOf x x.frame).hcrc x.tag ≠ x.hcrc →
    ∃ t, exec (.fabricCellRx n x) s = .next t ∧
      t.dev.fld Reg.HRT_HDR_ERR 31 0 = min (s.dev.fld Reg.HRT_HDR_ERR 31 0 + 1) (2 ^ 32 - 1) ∧ t.dev.anvil = s.dev.anvil ∧
      Within (.fabLanes :: eventParts) (eventPages [Reg.pageFAB, Reg.pageHRT]) s t) ∧
  (∀ (s : State) (n : Fin 196) (x : LaneId), s.Up → s.dev.isFabric n = true → s.dev.fabFrame n = 2 → x.half = false →
    (s.dev.fabLane n).candLo = laneIdKey x → 2 ≤ (s.dev.fabLane n).runLo → s.dev.idAgrees n (laneIdKey x) false = true →
    (s.dev.fabLane n).idHi ≠ 0 → s.dev.idAgrees n (s.dev.fabLane n).idHi true = true →
    ∃ t, exec (.laneIdRx n x) s = .next t ∧ t.dev.fabIdOk n = true ∧ (t.dev.fabLane n).idLo = laneIdKey x ∧
      Within [.fabLanes] [Reg.pageFAB] s t) ∧
  (∀ (s : State) (n : Fin 196) (x : LaneId), s.Up → s.dev.isFabric n = true → s.dev.fabFrame n = 2 → x.half = false →
    (s.dev.fabLane n).candLo = laneIdKey x → 2 ≤ (s.dev.fabLane n).runLo → s.dev.idAgrees n (laneIdKey x) false = false →
    ∃ t, exec (.laneIdRx n x) s = .next t ∧ t.dev.fabIdOk n = false ∧ t.dev.fabSvc n = false ∧
      t.dev.flag (Reg.PG_STICKY Reg.pageFAB) 1 = true ∧ Within lockParts (eventPages [Reg.pageFAB, Reg.pageTWN]) s t) ∧
  (∀ (s : State) (n : Fin 192) (x : RawCtl) (item : PlaceItem) (l : Nat), s.Up → s.dev.laneRole n = 5 →
    s.dev.flag (Reg.FAB_LN_STAT n) 4 = true → s.dev.fabFrame n = 2 → x.srcLock = true → s.dev.rawOf n = some item →
    item.txLane = some l → s.dev.laneRole l = 5 →
    ∃ t, exec (.rawCtlRx n x) s = .next t ∧ t.dev.outbox = s.dev.outbox ++ [.rawCtl l x] ∧
      (t.dev.fabLane n).rawBits = ((x.bits, s.dev.time) :: (s.dev.fabLane n).rawBits).take 257 ∧
      Within [.fabLanes, .outbox] [Reg.pageFAB] s t)

/-- R390 to R397, R400 to R403, R407, R428: a held item applies at its frame; a move ends at its splice with its count, or is abandoned
when its new path fails. Placement on the manager decides its oldest request: one that touches a position that does not fit is refused
CAPACITY with the DETAIL, one that needs no crossing is accepted under its ticket; with no request it keeps the lanes it was shown. -/
def Obligations.PlacementDecidesAndMoves : Prop :=
  (∀ (s : State) (item : PlaceItem) (l : Nat), s.Up → s.dev.hie.placeDue = [item] → item.kind = 0 → item.rxLane = some l →
    item.txLane = none → s.dev.instantOf ⟨item.tp.val, item.f, 1, 0⟩ ≤ s.dev.time → s.dev.src item.idx = none →
    ∃ t, exec (.placeItemApply item) s = .next t ∧ t.dev.hie.placeDue = [] ∧ t.dev.hie.cross = s.dev.hie.cross ++ [⟨item, true⟩] ∧
      t.dev.src item.idx = some { Source.fresh 2 l false item.tp.val (laneCapacity / max 1 item.sc) with lead := item.idx } ∧
      Within [.hie, .anvil] [Reg.pageFAB, Reg.pageHRT] s t) ∧
  (∀ (s : State) (item : PlaceItem), s.Up → s.dev.hie.placeDue = [item] → item.kind = 8 → item.rxLane = none → item.txLane = none →
    s.dev.instantOf ⟨item.tp.val, item.f, 1, 0⟩ ≤ s.dev.time →
    ∃ t, exec (.placeItemApply item) s = .next t ∧ t.dev.hie.placeDue = [] ∧ t.dev.hie.cross = s.dev.hie.cross ++ [⟨item, true⟩] ∧
      Leaves [.hie] [] s t) ∧
  (∀ (s : State) (num : Nat) (m : Move), s.Up → (s.dev.hie.moves.find? fun m => m.crossing == num) = some m →
    s.dev.instantOf ⟨m.tp, m.fMove, 1, 0⟩ ≤ s.dev.time →
    ∃ t, exec (.moveSplice num) s = .next t ∧ t.dev.hie.moves = s.dev.hie.moves.erase m ∧
      t.dev.fld Reg.FAB_MOVES 31 0 = min (s.dev.fld Reg.FAB_MOVES 31 0 + 1) (2 ^ 32 - 1) ∧ t.pending = s.pending ∧ t.mem = s.mem) ∧
  (∀ (s : State) (num : Nat) (m : Move), s.Up → (s.dev.hie.moves.find? fun m => m.crossing == num && m.newFailed) = some m →
    s.dev.time < s.dev.instantOf ⟨m.tp, m.fMove, 1, 0⟩ →
    ∃ t, exec (.moveAbort num) s = .next t ∧ t.dev.hie.moves = s.dev.hie.moves.erase m ∧
      t.dev.flag (Reg.PG_STICKY Reg.pageFAB) 5 = true ∧ t.pending = s.pending ∧ t.mem = s.mem) ∧
  (∀ (s : State) (us : Fin 65536) (view : List Bundle) (unfit : List (Nat × Nat)) (choices : List PlaceChoice), s.Up →
    s.dev.isManager = true → s.dev.isStandby = false → s.dev.roleConfirmed = true → s.dev.hie.crossings = [] → s.dev.hie.salvos = [] →
    s.dev.hie.reqs = [] →
    ∃ t, exec (.placementDecide us view unfit choices [] []) s = .next t ∧ t.dev.hie.view = view ∧ t.dev.hie.reqs = [] ∧
      Within [.hie] [Reg.pageFAB] s t) ∧
  (∀ (s : State) (us : Fin 65536) (view : List Bundle) (unfit : List (Nat × Nat)) (choices : List PlaceChoice) (q : HieReq)
      (pos detail : Nat), s.Up →
    s.dev.isManager = true → s.dev.isStandby = false → s.dev.roleConfirmed = true → s.dev.hie.crossings = [] → s.dev.hie.salvos = [] →
    s.dev.hie.reqs = [q] → q.salvo = none → needsCrossing q = none → unfit = [(pos, detail)] → pos = q.pos →
    ∃ t, exec (.placementDecide us view unfit choices [] []) s = .next t ∧
      (t.dev.rd Reg.HIE_REQ_RESULT).toNat = 2 + 9 * 256 + detail % 65536 * 65536 ∧ t.dev.flag Reg.HIE_REQ_GO 31 = false ∧
      (t.dev.rd Reg.FAB_PLACE_LAST).toNat = us.val + 65536 ∧ t.dev.hie.reqs = [] ∧ Within [.hie] [Reg.pageFAB, Reg.pageHIE] s t) ∧
  (∀ (s : State) (us : Fin 65536) (view : List Bundle) (choices : List PlaceChoice) (q : HieReq), s.Up →
    s.dev.isManager = true → s.dev.isStandby = false → s.dev.roleConfirmed = true → s.dev.hie.crossings = [] → s.dev.hie.salvos = [] →
    s.dev.hie.reqs = [q] → q.salvo = none → needsCrossing q = none →
    ∃ t, exec (.placementDecide us view [] choices [] []) s = .next t ∧ t.dev.rd Reg.HIE_REQ_TICKET = BitVec.ofNat 32 q.ticket ∧
      t.dev.flag Reg.HIE_REQ_GO 31 = false ∧ (t.dev.rd Reg.FAB_PLACE_LAST).toNat = us.val + 65536 ∧ t.dev.hie.reqs = [] ∧
      t.pending = s.pending ∧ t.mem = s.mem)

/-- R418 to R424: a message with a bad TAG is dropped and counted, one ahead of a gap waits, one for another position goes on; an ACK
frees what it acknowledges; a message is sent again until its peer is unreachable; a due ACK goes out alone. -/
def Obligations.TongsMessagesAreOrderedAndAcknowledged : Prop :=
  (∀ (s : State) (lane : Fin 192) (m : TongsMsg), s.Up → s.dev.halState = 1 → s.dev.twnState = 0 → m.dstPos = s.dev.position →
    ∃ t, exec (.tongsMessageRx lane m .bad) s = .next t ∧
      t.dev.fld Reg.HIE_CNT_AUTH 31 0 = min (s.dev.fld Reg.HIE_CNT_AUTH 31 0 + 1) (2 ^ 32 - 1) ∧
      t.dev.flag (Reg.PG_STICKY Reg.pageHIE) 0 = true ∧ t.dev.hie = s.dev.hie ∧ t.pending = s.pending ∧ t.mem = s.mem) ∧
  (∀ (s : State) (lane : Fin 192) (h : TongsHead) (b : TongsBody), s.Up → s.dev.halState = 1 → s.dev.twnState = 0 →
    h.dstPos.val = s.dev.position → s.dev.hal.hierKeys ≠ 0 → b ≠ .ack → 1 < diff32 h.seq (s.dev.peer h.srcPos).acted →
    (s.dev.peer h.srcPos).heard = true → (s.dev.peer h.srcPos).lost = false → (s.dev.peer h.srcPos).unreachable = false →
    (s.dev.peer h.srcPos).unacked = [] → (s.dev.peer h.srcPos).ahead = [] →
    ∃ t, exec (.tongsMessageRx lane (msgOf h b) .newest) s = .next t ∧ (t.dev.peer h.srcPos).ahead = [msgOf h b] ∧
      (t.dev.peer h.srcPos).acted = (s.dev.peer h.srcPos).acted ∧ Leaves [.hie, .freeCount] [] s t) ∧
  (∀ (s : State) (lane : Fin 192) (m : TongsMsg) (l : Nat), s.Up → s.dev.halState ≠ 2 → s.dev.twnState = 0 →
    m.dstPos ≠ s.dev.position → s.dev.relayLane m.dstPos = some l →
    ∃ t, exec (.tongsRelay lane m) s = .next t ∧ t.dev.outbox = s.dev.outbox ++ [.tongs (some l) m] ∧
      t.dev.fld Reg.HIE_CNT_FWD 31 0 = min (s.dev.fld Reg.HIE_CNT_FWD 31 0 + 1) (2 ^ 32 - 1) ∧ Leaves [.outbox] [Reg.HIE_CNT_FWD] s t) ∧
  (∀ (s : State) (lane : Fin 192) (h : TongsHead) (u : Unacked), s.Up → s.dev.halState = 1 → s.dev.twnState = 0 →
    h.dstPos.val = s.dev.position → s.dev.hal.hierKeys ≠ 0 → (s.dev.peer h.srcPos).heard = true → (s.dev.peer h.srcPos).lost = false →
    (s.dev.peer h.srcPos).unreachable = false → (s.dev.peer h.srcPos).unacked = [u] → diff32 u.msg.seq h.ack ≤ 0 →
    ∃ t, exec (.ackRx lane h .newest) s = .next t ∧ (t.dev.peer h.srcPos).unacked = [] ∧ (t.dev.peer h.srcPos).lane = some lane.val ∧
      (t.dev.peer h.srcPos).lastNs = s.dev.nowNs ∧ Leaves [.hie, .freeCount] [] s t) ∧
  (∀ (s : State) (peer : Fin 128) (seq : Nat) (u : Unacked), s.Up → s.dev.roleConfirmed = true → s.dev.halState = 1 →
    s.dev.twnState = 0 → (s.dev.peer peer).unacked = [u] → u.msg.seq = seq → u.sent = true → u.tries < 7 →
    ∃ t, exec (.tongsRetransmit peer seq) s = .next t ∧
      t.dev.outbox = s.dev.outbox ++ [.tongs (s.dev.laneFor peer) { u.msg with retx := true }] ∧
      (t.dev.peer peer).unacked = [{ u with tries := u.tries + 1 }] ∧
      t.dev.fld Reg.HIE_CNT_RETX 31 0 = min (s.dev.fld Reg.HIE_CNT_RETX 31 0 + 1) (2 ^ 32 - 1) ∧
      Leaves [.hie, .outbox] [Reg.HIE_CNT_RETX] s t) ∧
  (∀ (s : State) (peer : Fin 128) (seq : Nat) (u : Unacked), s.Up → s.dev.roleConfirmed = true → s.dev.halState = 1 →
    s.dev.twnState = 0 → (s.dev.peer peer).unacked = [u] → u.msg.seq = seq → u.sent = true → u.tries = 7 →
    (s.dev.peer peer).unreachable = false →
    ∃ t, exec (.tongsRetransmit peer seq) s = .next t ∧ (t.dev.peer peer).unreachable = true ∧
      t.dev.flag (Reg.PG_STICKY Reg.pageHIE) 4 = true ∧
      Leaves (.hie :: eventParts) ([Reg.HIE_CNT_RETX, Reg.HIE_ROLE] ++ eventRegs [Reg.pageHIE]) s t) ∧
  (∀ (s : State) (peer : Fin 128), s.Up → s.dev.halState = 1 → s.dev.twnState = 0 → (s.dev.peer peer).ackDue = true →
    ∃ t, exec (.ackSend peer) s = .next t ∧
      t.dev.outbox = s.dev.outbox ++ [.tongs (s.dev.laneFor peer) (s.dev.compose peer .ack false)] ∧
      (t.dev.peer peer).ackDue = false ∧ Leaves [.hie, .outbox] [] s t)

/-- R411 to R415, R424, R425, R437: role queries, role tables and NAK_ROLE; SET_ROLE and ASSUME; confirmation and HEALTH. -/
def Obligations.RolesFollowTheHighestEpoch : Prop :=
  (∀ (s : State) (lane : Fin 192) (h : TongsHead) (tag : TagCheck) (pos role epoch manager : Nat), s.Takes h tag → s.dev.epoch < epoch →
    ∃ t, exec (.nakRoleRx lane h tag pos role epoch manager) s = .next t ∧ t.dev.flag (Reg.PG_STICKY Reg.pageHIE) 1 = true ∧
      ((t.dev.peer manager).unacked.getLast?.map fun u => u.msg.body) = some .roleQuery ∧ t.pending = s.pending ∧ t.mem = s.mem) ∧
  (∀ (s : State) (lane : Fin 192) (h : TongsHead) (tag : TagCheck), s.Takes h tag → s.dev.roleConfirmed = true →
    ∃ t, exec (.roleQueryRx lane h tag) s = .next t ∧
      ((t.dev.peer h.srcPos).unacked.getLast?.map fun u => u.msg.body) = some (.roleSet s.dev.hie.table) ∧
      (t.dev.peer h.srcPos).acted = h.seq ∧ t.pending = s.pending ∧ t.mem = s.mem) ∧
  (∀ (s : State) (lane : Fin 192) (h : TongsHead) (tag : TagCheck) (x : RoleTable), s.Takes h tag → s.dev.epoch < h.epoch →
    h.epoch < 2 ^ 32 → x.manager < 128 →
    ∃ t, exec (.roleSetRx lane h tag x) s = .next t ∧ t.dev.epoch = h.epoch ∧ t.dev.managerPos = x.manager ∧
      t.dev.hie.table = { x with epoch := h.epoch } ∧ t.pending = s.pending ∧ t.mem = s.mem) ∧
  (∀ (s : State) (lane : Fin 192) (h : TongsHead) (tag : TagCheck) (x : RoleTable), s.Takes h tag → h.epoch = s.dev.epoch →
    h.srcPos.val = s.dev.managerPos → x.manager = s.dev.managerPos → (List.range 128).all (fun i => x.roles.getD i 0xF == s.dev.roleOf i) = true →
    ∃ t, exec (.roleSetRx lane h tag x) s = .next t ∧ t.dev.roleConfirmed = true ∧ t.pending = s.pending ∧ t.mem = s.mem) ∧
  (∀ (s : State) (p : Fin 128) (role : Fin 4) (w : Writer), s.Opens Reg.pageHIE 0x048 w → s.dev.flag Reg.HIE_ROLE_CMD 31 = false →
    s.dev.sealing = false → s.dev.isManager = true → role ≠ 0 → p.val ≠ s.dev.position → s.dev.posUsed p = false →
    s.dev.epoch < 2 ^ 32 - 1 →
    ∃ t, exec (.setRole p role w) s = .next t ∧ t.dev.epoch = s.dev.epoch + 1 ∧ t.dev.roleOf p = role ∧
      (t.dev.rd Reg.HIE_ROLE_RESULT).toNat = 1 ∧ t.dev.flag Reg.HIE_ROLE_CMD 31 = false ∧ t.pending = s.pending ∧ t.mem = s.mem) ∧
  (∀ (s : State) (w : Writer), s.Opens Reg.pageHIE 0x048 w → s.dev.flag Reg.HIE_ROLE_CMD 31 = false → s.dev.sealing = false →
    s.dev.isManager = false → s.dev.epoch < (s.dev.rd Reg.HIE_ROLE_EPOCH).toNat →
    ∃ t, exec (.assume w) s = .next t ∧ t.dev.epoch = (s.dev.rd Reg.HIE_ROLE_EPOCH).toNat ∧ t.dev.isManager = true ∧
      t.dev.managerPos = s.dev.position ∧ (t.dev.rd Reg.HIE_ROLE_RESULT).toNat = 1 ∧ t.pending = s.pending ∧ t.mem = s.mem) ∧
  (∀ (s : State), s.Up → s.dev.roleConfirmed = false → s.dev.isManager = false → s.dev.halState = 1 → s.dev.twnState = 0 →
    ∃ t, exec .roleQuerySend s = .next t ∧
      t.dev.outbox = s.dev.outbox ++ [.tongs (s.dev.laneFor s.dev.managerPos) (s.dev.compose s.dev.managerPos .roleQuery false)] ∧
      Leaves [.hie, .outbox, .journal] journalRegs s t) ∧
  (∀ (s : State), s.Up → ∃ t, exec .roleConfirm s = .next t ∧ t.dev.roleConfirmed = true ∧ t.pending = s.pending ∧ t.mem = s.mem) ∧
  (∀ (s : State), s.Up → s.dev.isManager = false → s.dev.roleConfirmed = true → s.dev.halState = 1 → s.dev.twnState = 0 →
    s.dev.upd.img.state ≠ 8 →
    ∃ t, exec .healthSend s = .next t ∧ t.dev.outbox = s.dev.outbox ++
        [.tongs (s.dev.laneFor s.dev.managerPos) (s.dev.compose s.dev.managerPos (.health s.dev.healthNow) false)] ∧
      Leaves [.hie, .outbox, .journal] journalRegs s t)

/-- R427, R428, R430, R435, R436, R443: what a worker does with its manager's messages. -/
def Obligations.WorkersFollowTheirManager : Prop :=
  (∀ (s : State) (lane : Fin 192) (h : TongsHead) (tag : TagCheck) (e : TakeEntry), s.Takes h tag → s.FromManager h →
    (s.dev.taken lane (msgOf h (.take [e]))).takeCheck e.ref.key (e.src.map Fin.val) (if e.now then none else some e.f) e.tp.val 1 e.port =
      none →
    ∃ t, exec (.takeMsgRx lane h tag [e]) s = .next t ∧ t.dev.journal.queue.length = s.dev.journal.queue.length + 1 ∧
      (t.dev.journal.queue.getLast?.map JGroup.effect) = some (.take e.ref.key ⟨e.ticket, 1, e.port, e.src.map Fin.val,
        ((s.dev.taken lane (msgOf h (.take [e]))).takeFrame e.ref.key (e.src.map Fin.val) (if e.now then none else some e.f)).1, false, none,
        false, none⟩ (if e.now then none else some e.f) (.tongs e.ticket)) ∧
      Within [.hie, .journal, .anvil, .freeCount] [Reg.pageTMP] s t) ∧
  (∀ (s : State) (lane : Fin 192) (h : TongsHead) (tag : TagCheck) (p : SalvoHead) (l : List TakeEntry), s.Takes h tag →
    s.FromManager h → s.dev.hie.held = [] → 1 < p.parts →
    ∃ t, exec (.salvoPrepRx lane h tag p l) s = .next t ∧ t.dev.hie.held = [⟨p, [(p.part, l)], false, false⟩] ∧
      Within [.hie, .journal, .freeCount] [Reg.pageTMP] s t) ∧
  (∀ (s : State) (lane : Fin 192) (h : TongsHead) (tag : TagCheck) (p : SalvoHead) (x : HeldSalvo) (k : Nat) (y : PendTake),
    s.Takes h tag → s.FromManager h → s.dev.hie.held = [x] → x.head.ticket = p.ticket →
    (s.dev.anvil.dsts.flatMap fun q => (q.2.pend.filter fun t => t.salvo == some (hieSalvoId p.ticket)).map fun t => (q.1, t)) = [(k, y)] →
    (s.dev.taken lane (msgOf h (.salvoCommit p))).beforeLead k y = true →
    ∃ t, exec (.salvoCommitRx lane h tag p) s = .next t ∧ t.dev.hie.held = [{ x with committed := true }] ∧
      Within [.hie, .journal, .freeCount] [Reg.pageTMP] s t) ∧
  (∀ (s : State) (lane : Fin 192) (h : TongsHead) (tag : TagCheck) (p : SalvoHead) (reason : Nat), s.Takes h tag → s.FromManager h →
    (s.dev.hie.held.any fun x => x.head.ticket == p.ticket) = true →
    ∃ t, exec (.salvoAbortRx lane h tag p reason) s = .next t ∧ (t.dev.hie.held.any fun x => x.head.ticket == p.ticket) = false ∧
      t.pending = s.pending ∧ t.mem = s.mem) ∧
  (∀ (s : State) (lane : Fin 192) (h : TongsHead) (tag : TagCheck) (n : Nat) (items : List PlaceItem), s.Takes h tag →
    s.FromManager h →
    ∃ t, exec (.placeRx lane h tag n false items) s = .next t ∧ t.dev.hie.placeDue = s.dev.hie.placeDue ∧
      t.dev.hie.placeParts = s.dev.hie.placeParts ++ items.map (fun i => (n, i)) ∧ Within [.hie, .journal, .freeCount] [Reg.pageTMP] s t) ∧
  (∀ (s : State) (lane : Fin 192) (h : TongsHead) (tag : TagCheck) (n : Nat) (items : List PlaceItem), s.Takes h tag →
    s.FromManager h →
    ∃ t, exec (.placeRx lane h tag n true items) s = .next t ∧ t.dev.hie.decision = n ∧
      t.dev.hie.placeDue = s.dev.hie.placeDue ++ (s.dev.hie.placeParts.filter fun x => x.1 == n).map Prod.snd ++ items ∧
      Within [.hie, .journal, .freeCount] [Reg.pageTMP] s t) ∧
  (∀ (s : State) (lane : Fin 192) (h : TongsHead) (tag : TagCheck) (first count : Nat), s.Takes h tag → s.FromManager h →
    s.dev.roleConfirmed = true → (s.dev.taken lane (msgOf h (.routeQuery first count))).reportEntries first count = [] →
    ∃ t, exec (.routeQueryRx lane h tag first count) s = .next t ∧
      ((t.dev.peer h.srcPos).unacked.map fun u => u.msg.body) = [.routeReport 0 1 []] ∧
      Within [.hie, .journal, .outbox, .freeCount] [Reg.pageTMP] s t) ∧
  (∀ (s : State) (lane : Fin 192) (h : TongsHead) (tag : TagCheck) (f : Nat) (tp : Fin 8) (ref : DestRef) (x : Option (Fin 1024))
      (b c d latched : Bool) (backup hold cls port flaps lastF ticket : Nat), s.Takes h tag → s.FromManager h → s.dev.hie.reclaimed = [] →
    ∃ t, exec (.resyncRx lane h tag f tp [.state ref x b backup c d hold cls port flaps latched lastF ticket]) s = .next t ∧
      t.dev.hie.resync = s.dev.hie.resync ++ [(ref.key, s.dev.memberFrame ref.key tp f,
        .state ref x b backup c d hold cls port flaps latched lastF ticket)] ∧
      Within [.hie, .journal, .freeCount] [Reg.pageTMP] s t) ∧
  (∀ (s : State) (lane : Fin 192) (h : TongsHead) (tag : TagCheck) (data : List Byte) (man : Option Manifest), s.Takes h tag →
    s.FromManager h → data ≠ [] → data.length ≤ 340 →
    ∃ t, exec (.bulkRx lane h tag 1 0 0 data.length data man) s = .next t ∧
      ((t.dev.hie.bulk.find? fun x => x.object == 1).map fun x => (x.total, x.bytes.map Prod.snd)) = some (data.length, data) ∧
      Within [.hie, .journal, .freeCount] [Reg.pageTMP] s t) ∧
  (∀ (s : State) (lane : Fin 192) (h : TongsHead) (tag : TagCheck) (hash f l smp : Nat) (tp : Fin 8), s.Takes h tag →
    s.FromManager h → s.dev.hie.chartArmed.isSome = true → s.dev.hostif.chartLoad.isSome = true →
    ∃ t, exec (.chartCommitRx lane h tag 0 hash f tp l smp) s = .next t ∧ t.dev.hie.chartArmed = none ∧ t.dev.hostif.chartLoad = none ∧
      t.dev.flag Reg.SYS_CHART_CTRL 31 = false ∧ Within [.hie, .hostif, .journal, .freeCount] [Reg.pageTMP, Reg.pageSYS] s t) ∧
  (∀ (s : State) (lane : Fin 192) (h : TongsHead) (tag : TagCheck) (seq hash f l smp : Nat) (tp : Fin 8) (x : BulkObj), s.Takes h tag →
    s.FromManager h → seq ≠ 0 → s.dev.flag Reg.SYS_CHART_CTRL 31 = false → s.dev.sealing = false → s.dev.hie.bulk = [x] → x.object = 1 →
    x.total = x.bytes.length → numAt (x.bytes.map Prod.snd) 12 4 = seq → numAt (x.bytes.map Prod.snd) 20 8 = hash →
    s.dev.slotBusy 0 = false → s.dev.planeOn tp.val = true → s.dev.time < s.dev.instantOf ⟨tp.val, f, l, smp⟩ → f < 2 ^ 48 → l < 2 ^ 13 →
    smp < 2 ^ 14 →
    ∃ t, exec (.chartCommitRx lane h tag seq hash f tp l smp) s = .next t ∧ t.dev.hie.chartArmed = some seq ∧
      t.dev.flag Reg.SYS_CHART_CTRL 31 = true ∧ (t.dev.hostif.chartLoad.map ChartLoad.slot) = some (some 0) ∧ t.dev.cslotF 0 = f ∧
      t.dev.cslotTp 0 = tp.val ∧ Within [.hie, .hostif, .journal, .freeCount] [Reg.pageTMP, Reg.pageSYS] s t)

/-- R429, R430, R435 to R438, R441: what the manager does with its workers' messages, with salvos whose time passes and with workers
that are lost; a worker that has lost its manager, and RECLAIM. -/
def Obligations.TheManagerKeepsItsWorkers : Prop :=
  (∀ (s : State) (lane : Fin 192) (h : TongsHead) (tag : TagCheck) (r : ResultEntry), s.Takes h tag → s.AtManager h →
    s.dev.hie.crossings = [] → (s.dev.rd Reg.HIE_REQ_TICKET).toNat = r.ticket → s.dev.hie.salvos = [] →
    ∃ t, exec (.takeResultRx lane h tag [r]) s = .next t ∧ (t.dev.rd Reg.HIE_REQ_RESULT).toNat = r.result % 8 + r.reason % 256 * 256 ∧
      Within [.hie, .journal, .freeCount] [Reg.pageTMP, Reg.pageHIE] s t) ∧
  (∀ (s : State) (lane : Fin 192) (h : TongsHead) (tag : TagCheck) (p : SalvoHead) (reason idx got : Nat) (x : HieSalvo), s.Takes h tag →
    s.AtManager h → s.dev.hie.salvos = [x] → x.ticket = p.ticket → x.committed = false → p.f = x.f → x.ready = [] →
    (x.positions.all fun q => q == h.srcPos.val) = false →
    ∃ t, exec (.salvoReadyRx lane h tag p true reason idx got) s = .next t ∧ t.dev.hie.salvos = [{ x with ready := [h.srcPos.val] }] ∧
      Within [.hie, .journal, .freeCount] [Reg.pageTMP] s t) ∧
  (∀ (s : State) (ticket : Nat) (x : HieSalvo), s.Up → s.dev.hie.salvos = [x] → x.ticket = ticket → x.committed = false → x.moves < 8 →
    s.dev.position ∉ x.positions →
    ∃ t, exec (.salvoReadyDeadline ticket) s = .next t ∧
      t.dev.hie.salvos = [{ x with f := x.f + 1, moves := x.moves + 1, ready := [] }] ∧
      Within [.hie, .outbox, .journal] [Reg.pageTMP] s t) ∧
  (∀ (s : State) (ticket : Nat) (x : HieSalvo), s.Up → s.dev.hie.salvos = [x] → x.ticket = ticket → x.committed = false → 8 ≤ x.moves →
    s.dev.position ∉ x.positions →
    ∃ t, exec (.salvoReadyDeadline ticket) s = .next t ∧ t.dev.hie.salvos = [] ∧
      (t.dev.rd Reg.HIE_SALVO_RESULT).toNat = 2 + 0x15 * 256 ∧ t.dev.flag Reg.HIE_SALVO_GO 31 = false ∧
      Within [.hie, .outbox, .journal] [Reg.pageTMP, Reg.pageHIE] s t) ∧
  (∀ (s : State) (ticket : Nat) (pos : Fin 128) (x : HieSalvo) (u : Unacked) (y : SalvoHead), s.Up → s.dev.hie.salvos = [x] →
    x.ticket = ticket → x.committed = true → pos.val ∈ x.positions → (s.dev.peer pos).unacked = [u] → u.msg.body = .salvoCommit y →
    y.ticket = ticket →
    ∃ t, exec (.salvoCommitDeadline ticket pos) s = .next t ∧
      t.dev.hie.salvos = [{ x with positions := x.positions.filter fun p => p != pos.val }] ∧
      t.dev.flag (Reg.PG_STICKY Reg.pageHIE) 7 = true ∧ Within ([.hie, .journal] ++ eventParts) (eventPages [Reg.pageHIE]) s t) ∧
  (∀ (s : State) (lane : Fin 192) (h : TongsHead) (tag : TagCheck) (x : Health), s.Takes h tag → s.AtManager h →
    ∃ t, exec (.healthRx lane h tag x) s = .next t ∧ (t.dev.peer h.srcPos).health = some x ∧ t.pending = s.pending ∧ t.mem = s.mem) ∧
  (∀ (s : State) (lane : Fin 192) (h : TongsHead) (tag : TagCheck) (e : EventMsg), s.Takes h tag → s.AtManager h →
    e.code ≠ chartRefusedCode → s.dev.fld Reg.TMP_STAT 1 0 ≠ 3 → s.dev.evlog.inSecond < 16384 →
    ∃ t, exec (.eventRx lane h tag e) s = .next t ∧ (t.dev.evlog.entries.getLast?.map fun x => (x.code, x.page, x.arg)) =
        some (e.code, e.page, e.arg) ∧
      (t.dev.evlog.entries.getLast?.map fun x => (x.forwarded, x.position)) = some (true, h.srcPos.val) ∧
      Within ([.hie, .journal, .freeCount] ++ eventParts) (eventPages []) s t) ∧
  (∀ (s : State) (lane : Fin 192) (h : TongsHead) (tag : TagCheck) (part parts : Nat) (l : List RouteEntry), s.Takes h tag →
    s.AtManager h → parts ≤ part + 1 →
    ∃ t, exec (.routeReportRx lane h tag part parts l) s = .next t ∧ h.srcPos.val ∈ t.dev.hie.reported ∧ t.pending = s.pending ∧
      t.mem = s.mem) ∧
  (∀ (s : State) (p : Fin 128), s.Up → s.dev.isManager = true → (s.dev.otherPositions.contains p.val) = true →
    (s.dev.peer p).lost = false →
    ∃ t, exec (.workerLost p) s = .next t ∧ (t.dev.peer p).lost = true ∧ t.dev.flag (Reg.PG_STICKY Reg.pageHIE) 5 = true ∧
      t.pending = s.pending ∧ t.mem = s.mem) ∧
  (∀ (s : State), s.Up → s.dev.isManager = false →
    ∃ t, exec .mgrLost s = .next t ∧ (t.dev.peer s.dev.managerPos).lost = true ∧ t.dev.flag (Reg.PG_STICKY Reg.pageHIE) 6 = true ∧
      Leaves (.hie :: eventParts) (eventRegs [Reg.pageHIE]) s t) ∧
  (∀ (s : State) (w : Writer) (p : Nat), s.Opens Reg.pageHIE 0x05C w → s.dev.isManager = false → (s.dev.peer s.dev.managerPos).lost = true →
    p ∈ s.dev.managerPages →
    ∃ t, exec (.reclaim w) s = .next t ∧ t.dev.fld (Reg.PG_OWNER p) 1 0 = 0 ∧ p ∈ t.dev.hie.reclaimed ∧
      Leaves [.hie] (s.dev.managerPages.map Reg.PG_OWNER) s t)

/-- R434 to R436, R444: a map whose changed entries are free comes into force; requests and salvos wait for placement, a hold goes to
its destination, and a cancel ends what is not decided. -/
def Obligations.HierarchyRequestsAndMap : Prop :=
  (∀ (s : State) (dram : Bool) (cells : List Host.Cell) (w : Writer), s.Opens Reg.pageHIE 0x068 w → s.dev.flag Reg.HIE_MAP_CTRL 31 = false →
    s.dev.isManager = true → s.dev.sealing = false →
    (∀ i, i < 131072 → (s.mem.hostWrote cells).nat dram (s.dev.rd64 Reg.HIE_MAP_ADDR_LO Reg.HIE_MAP_ADDR_HI / 4096 * 4096 + 4 * i) 4 ≠
      s.dev.mapWord i → (if i < 65536 then s.dev.snUsed i else s.dev.dnUsed (i - 65536)) = false) →
    ∃ t, exec (.mapLoad dram cells w) s = .next t ∧ (t.dev.rd Reg.HIE_MAP_STAT).toNat = 2 ∧
      (∀ i, i < 131072 → t.dev.mapWord i =
        (s.mem.hostWrote cells).nat dram (s.dev.rd64 Reg.HIE_MAP_ADDR_LO Reg.HIE_MAP_ADDR_HI / 4096 * 4096 + 4 * i) 4) ∧
      t.mem = s.mem.hostWrote cells ∧ t.pending = s.pending) ∧
  (∀ (s : State) (w : Writer), s.Opens Reg.pageHIE 0x084 w → s.dev.flag Reg.HIE_REQ_GO 31 = false → s.dev.isManager = true →
    s.dev.hieBusy.hieCheck s.dev.hieDn s.dev.hieSn s.dev.hieF s.dev.hieTp.val w.port = none →
    ∃ t, exec (.hieReqTake w) s = .next t ∧ t.dev.hie.reqs = s.dev.hie.reqs ++
        [s.dev.hieReq s.dev.anvil.nextTicket s.dev.hieDn s.dev.hieSn s.dev.hieF s.dev.hieTp w.port none 0] ∧
      t.dev.flag Reg.HIE_REQ_GO 31 = true ∧ t.dev.anvil.nextTicket = s.dev.anvil.nextTicket + 1 ∧
      Leaves [.hie, .anvil] [Reg.HIE_REQ_GO] s t) ∧
  (∀ (s : State) (w : Writer) (q : HieReq), s.Opens Reg.pageHIE 0x084 w → s.dev.flag Reg.HIE_REQ_GO 31 = false → s.dev.isManager = true →
    s.dev.hie.reqs = [q] → q.dn = s.dev.hieDn → q.port = w.port → q.salvo = none → s.dev.hieF = none →
    ∃ t, exec (.hieReqCancel w) s = .next t ∧ t.dev.hie.reqs = [] ∧ (t.dev.rd Reg.HIE_REQ_RESULT).toNat = 5 ∧
      t.dev.flag Reg.HIE_REQ_GO 31 = false ∧ Leaves [.hie] [Reg.HIE_REQ_GO, Reg.HIE_REQ_RESULT] s t) ∧
  (∀ (s : State) (w : Writer) (key : Nat), s.Opens Reg.pageHIE 0x084 w → s.dev.flag Reg.HIE_REQ_GO 31 = false → s.dev.isManager = true →
    s.dev.dnOf s.dev.hieDn = some (s.dev.position, key) → s.dev.flag Reg.HIE_ROLE 3 = false → s.dev.roleConfirmed = true →
    s.dev.sealing = false → s.dev.holdCheck key ⟨2, 1, w.port⟩ = none →
    ∃ t, exec (.hieReqLock w) s = .next t ∧ t.dev.journal.queue = s.dev.journal.queue ++ [⟨[.hold key (some ⟨2, 1, w.port⟩)],
        .hold key (some ⟨2, 1, w.port⟩) (s.dev.salvoFrame key) (.tongs s.dev.anvil.nextTicket)⟩] ∧
      (t.dev.rd Reg.HIE_REQ_RESULT).toNat = 1 ∧ t.dev.flag Reg.HIE_REQ_GO 31 = false ∧
      t.dev.rd Reg.HIE_REQ_TICKET = BitVec.ofNat 32 s.dev.anvil.nextTicket ∧
      Leaves [.anvil, .journal] [Reg.HIE_REQ_GO, Reg.HIE_REQ_RESULT, Reg.HIE_REQ_TICKET] s t) ∧
  (∀ (s : State) (w : Writer) (key : Nat), s.Opens Reg.pageHIE 0x084 w → s.dev.flag Reg.HIE_REQ_GO 31 = false → s.dev.isManager = true →
    s.dev.dnOf s.dev.hieDn = some (s.dev.position, key) → s.dev.flag Reg.HIE_ROLE 3 = false → s.dev.roleConfirmed = true →
    s.dev.sealing = false → s.dev.holdCheck key ⟨1, 1, w.port⟩ = none →
    ∃ t, exec (.hieReqProtect w) s = .next t ∧ t.dev.journal.queue = s.dev.journal.queue ++ [⟨[.hold key (some ⟨1, 1, w.port⟩)],
        .hold key (some ⟨1, 1, w.port⟩) (s.dev.salvoFrame key) (.tongs s.dev.anvil.nextTicket)⟩] ∧
      (t.dev.rd Reg.HIE_REQ_RESULT).toNat = 1 ∧ t.dev.flag Reg.HIE_REQ_GO 31 = false ∧
      t.dev.rd Reg.HIE_REQ_TICKET = BitVec.ofNat 32 s.dev.anvil.nextTicket ∧
      Leaves [.anvil, .journal] [Reg.HIE_REQ_GO, Reg.HIE_REQ_RESULT, Reg.HIE_REQ_TICKET] s t) ∧
  (∀ (s : State) (w : Writer) (key : Nat), s.Opens Reg.pageHIE 0x084 w → s.dev.flag Reg.HIE_REQ_GO 31 = false → s.dev.isManager = true →
    s.dev.dnOf s.dev.hieDn = some (s.dev.position, key) → s.dev.flag Reg.HIE_ROLE 3 = false → s.dev.roleConfirmed = true →
    s.dev.sealing = false → s.dev.releaseCheck key 2 1 w.port = none →
    ∃ t, exec (.hieReqUnlock w) s = .next t ∧ t.dev.journal.queue = s.dev.journal.queue ++ [⟨[.hold key none], .hold key none none (.tongs s.dev.anvil.nextTicket)⟩] ∧
      (t.dev.rd Reg.HIE_REQ_RESULT).toNat = 1 ∧ t.dev.flag Reg.HIE_REQ_GO 31 = false ∧
      t.dev.rd Reg.HIE_REQ_TICKET = BitVec.ofNat 32 s.dev.anvil.nextTicket ∧
      Leaves [.anvil, .journal] [Reg.HIE_REQ_GO, Reg.HIE_REQ_RESULT, Reg.HIE_REQ_TICKET] s t) ∧
  (∀ (s : State) (w : Writer) (key : Nat), s.Opens Reg.pageHIE 0x084 w → s.dev.flag Reg.HIE_REQ_GO 31 = false → s.dev.isManager = true →
    s.dev.dnOf s.dev.hieDn = some (s.dev.position, key) → s.dev.flag Reg.HIE_ROLE 3 = false → s.dev.roleConfirmed = true →
    s.dev.sealing = false → s.dev.releaseCheck key 1 1 w.port = none →
    ∃ t, exec (.hieReqUnprotect w) s = .next t ∧ t.dev.journal.queue = s.dev.journal.queue ++ [⟨[.hold key none], .hold key none none (.tongs s.dev.anvil.nextTicket)⟩] ∧
      (t.dev.rd Reg.HIE_REQ_RESULT).toNat = 1 ∧ t.dev.flag Reg.HIE_REQ_GO 31 = false ∧
      t.dev.rd Reg.HIE_REQ_TICKET = BitVec.ofNat 32 s.dev.anvil.nextTicket ∧
      Leaves [.anvil, .journal] [Reg.HIE_REQ_GO, Reg.HIE_REQ_RESULT, Reg.HIE_REQ_TICKET] s t) ∧
  (∀ (s : State) (w : Writer) (key : Nat), s.Opens Reg.pageHIE 0x084 w → s.dev.flag Reg.HIE_REQ_GO 31 = false → s.dev.isManager = true →
    s.dev.dnOf s.dev.hieDn = some (s.dev.position, key) → s.dev.flag Reg.HIE_ROLE 3 = false → s.dev.roleConfirmed = true →
    s.dev.sealing = false → s.dev.releaseCheck key 3 (s.dev.forceCls key 3 w.port) w.port = none →
    ∃ t, exec (.hieReqForceRelease w) s = .next t ∧ t.dev.journal.queue = s.dev.journal.queue ++ [⟨[.hold key none], .hold key none none (.tongs s.dev.anvil.nextTicket)⟩] ∧
      (t.dev.rd Reg.HIE_REQ_RESULT).toNat = 1 ∧ t.dev.flag Reg.HIE_REQ_GO 31 = false ∧
      t.dev.rd Reg.HIE_REQ_TICKET = BitVec.ofNat 32 s.dev.anvil.nextTicket ∧
      Leaves [.anvil, .journal] [Reg.HIE_REQ_GO, Reg.HIE_REQ_RESULT, Reg.HIE_REQ_TICKET] s t) ∧
  (∀ (s : State) (dram : Bool) (cells : List Host.Cell) (w : Writer) (count : Nat), s.Opens Reg.pageHIE 0x0A4 w →
    s.dev.flag Reg.HIE_SALVO_GO 31 = false → s.dev.isManager = true → s.dev.fld Reg.HIE_SALVO_COUNT 12 0 = count → count ≠ 0 →
    count ≤ 4096 → s.dev.flag Reg.HIE_SALVO_F_HI 24 = true →
    firstDup [] 0 ((List.range count).map fun i => (hieEntry ((s.mem.hostWrote cells).bytes dram
      (s.dev.rd64 Reg.HIE_SALVO_ADDR_LO Reg.HIE_SALVO_ADDR_HI + 8 * i) 8)).1) = none →
    ((List.range count).all fun i => ((s.dev.hieSalvoBusy (1 + b2n dram * 2)).hieCheck
      (hieEntry ((s.mem.hostWrote cells).bytes dram (s.dev.rd64 Reg.HIE_SALVO_ADDR_LO Reg.HIE_SALVO_ADDR_HI + 8 * i) 8)).1
      (hieEntry ((s.mem.hostWrote cells).bytes dram (s.dev.rd64 Reg.HIE_SALVO_ADDR_LO Reg.HIE_SALVO_ADDR_HI + 8 * i) 8)).2
      none (s.dev.fld Reg.HIE_SALVO_F_HI 18 16) w.port).isNone) = true →
    ∃ t, exec (.hieSalvoGo dram cells w) s = .next t ∧ t.dev.hie.reqs.length = s.dev.hie.reqs.length + count ∧
      t.dev.flag Reg.HIE_SALVO_GO 31 = true ∧ t.dev.anvil.nextTicket = s.dev.anvil.nextTicket + 1 ∧ t.mem = s.mem.hostWrote cells ∧
      Leaves [.hie, .anvil] [Reg.HIE_SALVO_GO] { s with mem := t.mem } t) ∧
  (∀ (s : State) (w : Writer) (q : HieReq), s.Opens Reg.pageHIE 0x0A4 w → s.dev.flag Reg.HIE_SALVO_GO 31 = false → s.dev.isManager = true →
    s.dev.hie.reqs = [q] → q.salvo = some (s.dev.rd Reg.HIE_SALVO_TICKET).toNat →
    ∃ t, exec (.hieSalvoCancel w) s = .next t ∧ t.dev.hie.reqs = [] ∧ (t.dev.rd Reg.HIE_SALVO_RESULT).toNat = 5 ∧
      t.dev.flag Reg.HIE_SALVO_GO 31 = false ∧ Leaves [.hie] [Reg.HIE_SALVO_GO, Reg.HIE_SALVO_RESULT] s t)

/-- R452, R453, R457 to R459, R476: an output frame shows the input frame that the depth asks for, or what the loss policy shows; a
FILLING store shows the field until D frames have been written; a hold ends after HOLD_TIMEOUT frames. -/
def Obligations.FrameStoresReadHoldAndFill : Prop :=
  (∀ (s : State) (k : Fin 2048) (f : Nat) (x : Store) (g : StoreFrame), s.Up → s.dev.store k = some x → s.dev.dstEnabled k = true →
    s.dev.dataRuns = true → s.dev.pinnedFor k = none → x.filling = false → x.pre = none → s.dev.storeChoice k f x = some g → g.isLost = false →
    x.lastRead.all (fun h => decide (h < g.f ∧ g.f ≤ h + 1)) = true →
    ∃ t, exec (.fsOutputFrame k f []) s = .next t ∧ t.dev.store k = some { x with
        before := x.lastRead, lastRead := some g.f, lastGood := some g.f, held := 0, inLoss := false, shown := .frame g.f [] } ∧
      Within [.engines, .hostif, .outbox] [Reg.pageFSDST k, Reg.pageFSENG] s t) ∧
  (∀ (s : State) (k : Fin 2048) (f : Nat) (x : Store), s.Up → s.dev.store k = some x → s.dev.dstEnabled k = true →
    s.dev.dataRuns = true → s.dev.pinnedFor k = none → x.filling = false → x.pre = none → s.dev.storeChoice k f x = none → s.dev.lossPolicy k = 1 →
    ∃ t, exec (.fsOutputFrame k f []) s = .next t ∧
      t.dev.store k = some { x with before := x.lastRead, inLoss := true, held := x.held + 1, shown := .field } ∧
      t.dev.fld (Reg.FS_DST_LOST k) 31 0 = min (s.dev.fld (Reg.FS_DST_LOST k) 31 0 + 1) (2 ^ 32 - 1) ∧
      Within (.engines :: eventParts) (eventPages [Reg.pageFSDST k, Reg.pageFSENG]) s t) ∧
  (∀ (s : State) (k : Fin 2048) (f : Nat) (torn : List Nat) (x : Store), s.Up → s.dev.store k = some x → s.dev.dstEnabled k = true →
    s.dev.dataRuns = true → x.filling = true → x.pre = none → s.dev.lossPolicy k = 0 →
    ∃ t, exec (.fsOutputFrame k f torn) s = .next t ∧ t.dev.store k = some { x with shown := .field } ∧
      Within (.engines :: eventParts) (eventPages [Reg.pageFSDST k, Reg.pageFSENG]) s t) ∧
  (∀ (s : State) (k : Fin 2048) (x : Store), s.Up → s.dev.store k = some x → x.filling = true → x.depth ≤ x.written →
    ∃ t, exec (.fsFilled k) s = .next t ∧ t.dev.store k = some { x with filling := false } ∧
      Within [.engines, .hostif, .outbox] [Reg.pageFSDST k, Reg.pageFSENG] s t) ∧
  (∀ (s : State) (k : Fin 2048) (x : Store), s.Up → s.dev.store k = some x → x.filling = true → x.written < x.depth →
    ∃ t, exec (.fsFilled k) s = .next t ∧ t = s) ∧
  (∀ (s : State) (k : Fin 2048) (x : Store), s.Up → s.dev.store k = some x → x.inLoss = true → s.dev.lossPolicy k = 0 →
    s.dev.live (Reg.FS_DST_HOLD k) 15 0 ≠ 0 → s.dev.live (Reg.FS_DST_HOLD k) 15 0 ≤ x.held →
    ∃ t, exec (.holdExpired k) s = .next t ∧ t.dev.store k = some { x with shown := .field } ∧
      Within (.engines :: eventParts) (eventPages [Reg.pageFSDST k, Reg.pageFSENG]) s t)

/-- R480, R487 to R490, R497, R498, R500, R501: a compositor blends the layers that are ready on its background and its source is
valid; a layer that is not ready and to be left out counts; blending stays between its two pixels and reaches each of them; a surface is
ready after its load exactly where it passes its check. -/
def Obligations.CompositorsBlendTheirLayers : Prop :=
  (∀ (s : State) (n : Fin 16) (f : Nat) (x : FilFrame) (src : Nat), s.Up → s.dev.filSrc n = some src → s.dev.filEnabled n = true →
    s.dev.dataRuns = true → s.dev.planeOn (s.dev.filPlane n) = true → src < 1024 → (s.dev.src src).isSome = true →
    ((List.range 8).all fun l => !s.dev.layerOn n l || s.dev.layerReady n l) = true →
    ∃ t, exec (.filCompose n f x) s = .next t ∧ (t.dev.filX n).last = s.dev.filLines n x ∧
      (t.dev.src src).map Source.valid = some true ∧ t.dev.fld (Reg.FIL_OUT_STAT n) 9 0 = src ∧ t.dev.flag (Reg.FIL_OUT_STAT n) 11 = true ∧
      t.dev.fld (Reg.FIL_OUT_STAT n) 23 16 = 0 ∧ t.dev.rd (Reg.FIL_LATE_CNT n) = s.dev.rd (Reg.FIL_LATE_CNT n) ∧
      Within ([.anvil, .audio, .audioIn, .fil, .hie, .freeCount] ++ eventParts)
        (eventPages ([Reg.pageFIL n, Reg.pageHRT, Reg.pageAUDENG, Reg.pageHIE] ++ (List.range 32).map Reg.pageSWG)) s t) ∧
  (∀ (s : State) (n : Fin 16) (f : Nat) (x : FilFrame) (src l : Nat), s.Up → s.dev.filSrc n = some src → s.dev.filEnabled n = true →
    s.dev.dataRuns = true → s.dev.planeOn (s.dev.filPlane n) = true → src < 1024 → l < 8 → s.dev.layerOn n l = true → s.dev.layerReady n l = false →
    s.dev.live (Reg.FIL_L_CFG n l) 13 12 = 1 → ((List.range 8).all fun i => i == l || !s.dev.layerOn n i || s.dev.layerReady n i) = true →
    ∃ t, exec (.filCompose n f x) s = .next t ∧ (t.dev.filX n).last = s.dev.filLines n x ∧
      (s.dev.layerShown n (filGiven x)).all (fun p => p.1 != l) = true ∧
      t.dev.fld (Reg.FIL_LATE_CNT n) 31 0 = min (s.dev.fld (Reg.FIL_LATE_CNT n) 31 0 + 1) (2 ^ 32 - 1) ∧
      t.dev.flag (Reg.PG_STICKY (Reg.pageFIL n)) 1 = true ∧ t.dev.flag (Reg.PG_STICKY (Reg.pageFIL n)) (8 + l) = true ∧
      t.dev.fld (Reg.FIL_OUT_STAT n) 23 16 = 2 ^ l ∧ t.pending = s.pending ∧ t.mem = s.mem) ∧
  (∀ (al layer below : Nat), al ≤ 1023 → min layer below ≤ blendComp al layer below ∧ blendComp al layer below ≤ max layer below) ∧
  (∀ (layer below : Nat), blendComp 1023 layer below = layer ∧ blendComp 0 layer below = below) ∧
  (∀ (s : State) (num : Fin 65536), s.Up → (s.dev.engines.resident.any fun r => r.num == num.val && r.started && !r.ready) = true →
    ∃ t, exec (.surfaceLoadDone num) s = .next t ∧
      (t.dev.engines.resident.any fun r => r.num == num.val && r.ready) = ((s.dev.surface num).map Surface.ok).getD false ∧
      Leaves [.engines] [] s t)

/-- R513, R516, R518, R520, R522, R524, R525, R530, R531: at a sample every input gives its word and each output its clipped sum; a wait
that times out and a ramp that ends put the target in force; NONPCM clears; a group becomes silent. The coefficients are the rounded
powers of R513. -/
def Obligations.TheMatrixSumsAndItsOutputsChange : Prop :=
  (∀ (s : State), s.Up → s.dev.dataRuns = true →
    ∃ t, exec .audioSample s = .next t ∧ t.dev.audioCount = s.dev.audioCount + 1 ∧
      t.dev.audioIn = (s.dev.audioIn.map fun p => (p.1, p.2.drop 1)).filter (fun p => decide (p.2 ≠ [])) ∧
      (s.dev.liveInputs.all fun i => decide ((t.dev.audIn i).word = s.dev.inputWord i)) = true ∧
      Within ([.audio, .audioIn, .audioOut, .audioCount, .apts] ++ eventParts) (eventPages audioPages) s t) ∧
  (∀ (s : State) (o : Nat), s.Up → s.dev.dataRuns = true → s.dev.audAll = [o] → s.dev.pairLead o = none → s.dev.audDelay o = 0 →
    s.dev.flag (silStat (o / 16)) 1 = false → s.dev.groupEn (o / 16) = false → (s.dev.audOut o).goal = [] →
    ∃ t, exec .audioSample s = .next t ∧ (t.dev.audOut o).goal = s.dev.audTarget o ∧ (t.dev.audOut o).cls = s.dev.audClass o ∧
      (Sparse.get (fun _ => []) t.dev.audioOut o).headD 0 = channelWord
        (clipSum (s.dev.stepInputs.audSum (s.dev.audTarget o))).1 (s.dev.stepInputs.audBits (s.dev.audTarget o))) ∧
  (∀ (s : State) (o : Fin 8192) (y : Int), s.Up → (s.dev.audOut o).wait = 1 → s.dev.audTimeout o ≤ (s.dev.audOut o).waited →
    (clipSum ((s.dev.audOut o).goal.foldl (fun a u => match u.inp with
      | some i => a + (wordSample (s.dev.inputWord i) : Rat) * u.g
      | none => a) 0)).1 = y → y ≠ 0 → signOf y = signOf (s.dev.audOut o).prev →
    ∃ t, exec (.zcTimeout o) s = .next t ∧ t.dev.audOut o = (s.dev.audOut o).step (s.dev.audTarget o) ∧
      Within (.audio :: eventParts) (eventPages [Reg.pageAUDOUT o]) s t) ∧
  (∀ (s : State) (o : Fin 8192), s.Up → (s.dev.audOut o).n ≠ 0 → (s.dev.audOut o).i = (s.dev.audOut o).n →
    ∃ t, exec (.rampComplete o) s = .next t ∧ t.dev.audOut o = (s.dev.audOut o).step (s.dev.audOut o).goal ∧
      Leaves [.audio] [Reg.AUD_O_STAT o] s t) ∧
  (∀ (s : State) (o : Fin 8192), s.Up → 2 ≤ (s.dev.audOut o).wait → 1920 ≤ (s.dev.audOut o).waited →
    ∃ t, exec (.burstTimeout o) s = .next t ∧ t.dev.audOut o = (s.dev.audOut o).step (s.dev.audTarget o) ∧
      Within (.audio :: eventParts) (eventPages [Reg.pageAUDOUT o]) s t) ∧
  (∀ (s : State) (i : Fin 8192), s.Up → 4096 ≤ (s.dev.audIn i).since →
    ∃ t, exec (.nonpcmClear i) s = .next t ∧ t.dev.audIn i = { s.dev.audIn i with nonpcm := false } ∧
      Leaves [.audio] [Reg.AUD_IN_STAT, Reg.AUD_IN_PEAK] s t) ∧
  (∀ (s : State) (g : Fin 512), s.Up → s.dev.groupEn g = true → s.dev.live (silCfg g) 25 16 * 48000 ≤ s.dev.quietRun g →
    ∃ t, exec (.silenceChange (.group g)) s = .next t ∧ t.dev.groupSilent g = true ∧
      Within eventParts (eventPages [Reg.pageAUDSIL (g / 128)]) s t) ∧
  (∀ (s : State) (p : Fin 16), s.Up → s.dev.liveFlag (Reg.AUD_APT_SIL p) 31 = true →
    s.dev.live (Reg.AUD_APT_SIL p) 25 16 * 48000 ≤ s.dev.quietRun (512 + p) →
    ∃ t, exec (.silenceChange (.port p)) s = .next t ∧ t.dev.flag (Reg.AUD_APT_SSTAT p) 0 = true ∧
      Within (.apts :: eventParts) (eventPages [Reg.pageAUDENG, Reg.pageAPT p]) s t) ∧
  (∀ (g : Int), 0 ≤ g → g ≤ 240 → (2 * gainCoef g - 1) ^ 200 ≤ 2 ^ 4200 * 10 ^ g.toNat ∧
    2 ^ 4200 * 10 ^ g.toNat < (2 * gainCoef g + 1) ^ 200) ∧
  (∀ (g : Int), -960 ≤ g → g < 0 → (2 * gainCoef g - 1) ^ 200 * 10 ^ (-g).toNat ≤ 2 ^ 4200 ∧
    2 ^ 4200 < (2 * gainCoef g + 1) ^ 200 * 10 ^ (-g).toNat)

/-- R539, R540, R542, R543, R547 to R551, R555: a running port passes its slots both ways, holds them after a loss and captures them to
DRAM; lead-in sends zeros; the rate window, loss of the clock, resumption, and the ends of lead-in and lead-out. -/
def Obligations.AudioPortsExchangeFrames : Prop :=
  (∀ (s : State) (n : Fin 16) (x : AptFrame), s.Up → s.dev.dataRuns = true → s.dev.aptState n = 2 → (s.dev.apt n).leadOutDue = false →
    (s.dev.apt n).next = none → (s.dev.apt n).held = false → s.dev.mirEn n = false → s.dev.apt96 n = false → x.slip = none →
    ∃ t, exec (.aptFrame n x) s = .next t ∧
      t.dev.outbox = s.dev.outbox ++ [.aptFrame n (x.count % 2 ^ 32) (s.dev.aptSlotsOut n (x.count % 2 ^ 32) [] true)] ∧
      (t.dev.apt n).rxLast = x.rx ∧
      ((List.range (s.dev.aptSlots n)).all fun i => decide (Sparse.get (fun _ => []) t.dev.audioIn ((s.dev.apt n).masks.rxBase + i) =
        (Sparse.get (fun _ => []) s.dev.audioIn ((s.dev.apt n).masks.rxBase + i) ++
          [if maskBit (s.dev.apt n).masks.rx i then slotSample (s.dev.aptBits n) (x.rx.getD i 0) else 0]).take 16)) = true ∧
      Leaves [.apts, .audioIn, .outbox] [Reg.APT_STAT n] s t) ∧
  (∀ (s : State) (n : Fin 16) (x : AptFrame), s.Up → s.dev.dataRuns = true → s.dev.aptState n = 2 → (s.dev.apt n).leadOutDue = false →
    (s.dev.apt n).next = none → (s.dev.apt n).held = true → s.dev.mirEn n = false → s.dev.apt96 n = false → x.slip = none →
    ∃ t, exec (.aptFrame n x) s = .next t ∧
      t.dev.outbox = s.dev.outbox ++ [.aptFrame n (x.count % 2 ^ 32) (s.dev.aptSlotsOut n (x.count % 2 ^ 32) [] false)] ∧
      (t.dev.apt n).rxLast = (s.dev.apt n).rxLast ∧ Leaves [.apts, .audioIn, .outbox] [Reg.APT_STAT n] s t) ∧
  (∀ (s : State) (n : Fin 16) (x : AptFrame), s.Up → s.dev.dataRuns = true → s.dev.aptState n = 2 → (s.dev.apt n).leadOutDue = false →
    (s.dev.apt n).next = none → (s.dev.apt n).held = false → s.dev.mirEn n = true → s.dev.mirPlay n = false → s.dev.apt96 n = false →
    x.slip = none → (s.dev.mirDev n + 2 ^ 32 - s.dev.mirHost n) % 2 ^ 32 ≠ s.dev.mirFrames n →
    ∃ t, exec (.aptFrame n x) s = .next t ∧
      t.mem = s.mem.setBytes true (s.dev.mirAddr n (s.dev.mirDev n)) ((s.dev.aptMasked n (s.dev.apt n).masks.mir).flatMap fun i =>
        bytesLE 4 (mirWord (slotSample (s.dev.aptBits n) (x.rx.getD i 0)))) ∧ t.dev.mirDev n = (s.dev.mirDev n + 1) % 2 ^ 32 ∧
      Within ([.apts, .audioIn] ++ eventParts) (eventPages [Reg.pageAPT n]) { s with mem := t.mem } t) ∧
  (∀ (s : State) (n : Fin 16) (x : AptFrame), s.Up → s.dev.dataRuns = true → s.dev.aptState n = 1 → (s.dev.apt n).leadOutDue = false →
    (s.dev.apt n).next = none → s.dev.aptMaster n = true → s.dev.apt96 n = false →
    ∃ t, exec (.aptFrame n x) s = .next t ∧
      t.dev.outbox = s.dev.outbox ++ [.aptFrame n (x.count % 2 ^ 32) (s.dev.aptSlotsOut n (x.count % 2 ^ 32) [] false)] ∧
      (t.dev.apt n).lead = (s.dev.apt n).lead + 1 ∧ t.dev.aptState n = 1 ∧ Leaves [.apts, .audioIn, .outbox] [Reg.APT_STAT n] s t) ∧
  (∀ (s : State) (n : Fin 16) (rate : Nat), s.Up → s.dev.live (Reg.APT_RATE_LO n) 31 0 ≤ rate → rate ≤ s.dev.live (Reg.APT_RATE_HI n) 31 0 →
    rate < 2 ^ 32 →
    ∃ t, exec (.aptRateUpdate n rate) s = .next t ∧ t.dev.fld (Reg.APT_RATE n) 31 0 = rate ∧ t.dev.flag (Reg.APT_STAT n) 3 = true ∧
      Leaves [] [Reg.APT_RATE n, Reg.APT_STAT n] s t) ∧
  (∀ (s : State) (n : Fin 16) (rate : Nat), s.Up → rate < s.dev.live (Reg.APT_RATE_LO n) 31 0 → s.dev.flag (Reg.APT_STAT n) 3 = true →
    ∃ t, exec (.aptRateUpdate n rate) s = .next t ∧ t.dev.flag (Reg.APT_STAT n) 3 = false ∧ (t.dev.apt n).held = true ∧
      t.dev.flag (Reg.PG_STICKY (Reg.pageAPT n)) 1 = true ∧ t.dev.fld (Reg.APT_STAT n) 8 4 = 0 ∧
      Within (.apts :: eventParts) (eventPages [Reg.pageAPT n]) s t) ∧
  (∀ (s : State) (n : Fin 16), s.Up → s.dev.aptMaster n = false → s.dev.aptState n ≠ 0 →
    ∃ t, exec (.aptClkLost n) s = .next t ∧ t.dev.flag (Reg.PG_STICKY (Reg.pageAPT n)) 0 = true ∧ (t.dev.apt n).held = true ∧
      t.dev.flag (Reg.APT_STAT n) 2 = false ∧ t.dev.fld (Reg.APT_STAT n) 8 4 = 0 ∧ t.dev.aptState n = s.dev.aptState n ∧
      Within (.apts :: eventParts) (eventPages [Reg.pageAPT n]) s t) ∧
  (∀ (s : State) (n : Fin 16), s.Up → (s.dev.apt n).held = true → s.dev.fld (Reg.APT_STAT n) 8 4 = 16 →
    ∃ t, exec (.aptResume n) s = .next t ∧ t.dev.apt n = { s.dev.apt n with held := false } ∧ Leaves [.apts] [] s t) ∧
  (∀ (s : State) (n : Fin 16), s.Up → s.dev.aptState n = 1 → s.dev.aptLead n ≤ (s.dev.apt n).lead →
    ∃ t, exec (.aptLeadInDone n) s = .next t ∧ t.dev.aptState n = 2 ∧ t.dev.apt n = s.dev.apt n ∧
      Within [.hostif, .outbox] [Reg.pageAPT n] s t) ∧
  (∀ (s : State) (n : Fin 16), s.Up → s.dev.aptState n = 3 → s.dev.aptLead n ≤ (s.dev.apt n).lead → (s.dev.apt n).queued = false →
    ∃ t, exec (.aptLeadOutDone n) s = .next t ∧ t.dev.aptState n = 0 ∧ t.dev.apt n = s.dev.apt n ∧
      Within [.hostif, .outbox] [Reg.pageAPT n] s t) ∧
  (∀ (s : State) (n : Fin 16), s.Up → s.dev.aptState n = 3 → s.dev.aptLead n ≤ (s.dev.apt n).lead → (s.dev.apt n).queued = true →
    s.dev.aptEn n = true →
    ∃ t, exec (.aptLeadOutDone n) s = .next t ∧ t.dev.aptState n = 1 ∧ (t.dev.apt n).lead = 0 ∧ (t.dev.apt n).queued = false ∧
      Within [.apts, .hostif, .outbox] [Reg.pageAPT n] s t)

/-- R565 to R568, R574: a request waits in the order of arrival; with a free command slot a bank is opened, a write is stored and a read
is answered; four refreshes owed go first; a rank powers down. A request beyond the fitted DRAM stops. -/
def Obligations.DramServesRequestsByBurst : Prop :=
  (∀ (s : State) (port : Fin 24) (p len : Nat) (data? : Option (List Byte)) (keepOpen : Bool), s.Up → burstOk p len data? = true →
    p < s.dev.dramGeo.bytes →
    ∃ t, exec (.dramRequest port p len data? keepOpen) s = .next t ∧
      t.dev.dram.reqs = s.dev.dram.reqs ++ [⟨port, p, len, data?, keepOpen, s.dev.time⟩] ∧
      Leaves [.dram] [Reg.DDR_CH_STAT (s.dev.dramGeo.place p).ch, Reg.DDR_PSTAT] s t) ∧
  (∀ (s : State) (port : Fin 24) (p len : Nat) (data? : Option (List Byte)) (keepOpen : Bool), burstOk p len data? = true →
    s.dev.dramGeo.bytes ≤ p → exec (.dramRequest port p len data? keepOpen) s = .fault .noDram) ∧
  (∀ (s : State) (sc : Fin 16) (meets : List Nat) (ecc : DramEcc) (r : DramReq) (b : List Byte), s.Up → eccOk ecc = true →
    s.dev.chActive (sc / 2) = true → cnt s.dev.dram.owed sc < 4 → s.dev.dram.reqs = [r] → s.dev.dramGeo.scOf r.p = sc → 0 ∈ meets →
    s.dev.dram.rows = [((s.dev.dramGeo.place r.p).bankKey, (s.dev.dramGeo.place r.p).row)] → r.data = some b →
    s.dev.time - r.at_ ≤ s.dev.ddrTarget r.port →
    ∃ t, exec (.dramCommandIssue sc meets ecc) s = .next t ∧ t.mem = s.mem.setBytes true r.p b ∧ t.dev.dram.reqs = [] ∧
      t.dev.dram.rows = (if r.keepOpen then s.dev.dram.rows else []) ∧
      Leaves [.dram, .outbox] [Reg.DDR_CH_UTIL (s.dev.dramGeo.place r.p).ch, Reg.DDR_PSTAT] { s with mem := t.mem } t) ∧
  (∀ (s : State) (sc : Fin 16) (meets : List Nat) (r : DramReq), s.Up → s.dev.chActive (sc / 2) = true → cnt s.dev.dram.owed sc < 4 →
    s.dev.dram.reqs = [r] → s.dev.dramGeo.scOf r.p = sc → 0 ∈ meets →
    s.dev.dram.rows = [((s.dev.dramGeo.place r.p).bankKey, (s.dev.dramGeo.place r.p).row)] → r.data = none → portMaster r.port = none →
    s.dev.time - r.at_ ≤ s.dev.ddrTarget r.port →
    ∃ t, exec (.dramCommandIssue sc meets ⟨0, 0⟩) s = .next t ∧ t.dev.dram.reqs = [] ∧
      t.dev.outbox = s.dev.outbox ++ [.dramData r.port r.p (s.mem.bytes true r.p r.len) false] ∧
      Leaves [.dram, .outbox] [Reg.DDR_CH_UTIL (s.dev.dramGeo.place r.p).ch, Reg.DDR_PSTAT] s t) ∧
  (∀ (s : State) (sc : Fin 16) (meets : List Nat) (ecc : DramEcc) (r : DramReq), s.Up → eccOk ecc = true →
    s.dev.chActive (sc / 2) = true → cnt s.dev.dram.owed sc < 4 → s.dev.dram.reqs = [r] → s.dev.dramGeo.scOf r.p = sc → 0 ∈ meets →
    s.dev.dram.rows = [] →
    ∃ t, exec (.dramCommandIssue sc meets ecc) s = .next t ∧ t.dev.dram.reqs = [r] ∧
      t.dev.dram.rows = [((s.dev.dramGeo.place r.p).bankKey, (s.dev.dramGeo.place r.p).row)] ∧ Leaves [.dram] [] s t) ∧
  (∀ (s : State) (sc : Fin 16) (meets : List Nat) (ecc : DramEcc), s.Up → eccOk ecc = true → s.dev.chActive (sc / 2) = true →
    4 ≤ cnt s.dev.dram.owed sc →
    ∃ t, exec (.dramCommandIssue sc meets ecc) s = .next t ∧ cnt t.dev.dram.owed sc = cnt s.dev.dram.owed sc - 1 ∧
      t.dev.dram.reqs = s.dev.dram.reqs ∧ t.dev.dram.rows = s.dev.dram.rows.filter (fun x => x.1 / 64 != sc.val) ∧
      Leaves [.dram] [] s t) ∧
  (∀ (s : State) (sc : Fin 16), s.Up → s.dev.chActive (sc / 2) = true →
    ∃ t, exec (.refreshDue sc) s = .next t ∧ cnt t.dev.dram.owed sc = cnt s.dev.dram.owed sc + 1 ∧ Leaves [.dram] [] s t) ∧
  (∀ (s : State) (sc : Fin 16) (rank : Fin 2), s.Up → s.dev.chActive (sc / 2) = true →
    s.dev.liveFlag (Reg.DDR_CH_PD (sc / 2)) 16 = true → s.dev.dram.reqs = [] → rank.val < s.dev.dramGeo.ranks →
    s.dev.flag (Reg.DDR_CH_STAT (sc / 2)) (4 + 2 * (sc % 2) + rank) = false →
    ∃ t, exec (.rankPowerDown sc rank) s = .next t ∧ t.dev.flag (Reg.DDR_CH_STAT (sc / 2)) (4 + 2 * (sc % 2) + rank) = true ∧
      t.dev.fld (Reg.DDR_CH_PD_CNT (sc / 2)) 31 0 = min (s.dev.fld (Reg.DDR_CH_PD_CNT (sc / 2)) 31 0 + 1) (2 ^ 32 - 1) ∧
      t.dev.dram.rows = s.dev.dram.rows.filter (fun x => x.1 / 32 != sc.val * 2 + rank.val) ∧
      Leaves [.dram] [Reg.DDR_CH_STAT (sc / 2), Reg.DDR_CH_PD_CNT (sc / 2)] s t)

/-- R562, R563, R570, R572 to R575: an address and its channel with its local address say the same; training moves on to the next
subchannel and counts; scrubbing moves on by a burst and leaves the contents. -/
def Obligations.DramMapsTrainsAndScrubs : Prop :=
  (∀ (g : DramGeo) (ch a : Nat), ch < g.channels → a < g.chBytes → g.chBytes % 256 = 0 → g.split (g.join ch a) = (ch, a)) ∧
  (∀ (s : State) (sc : Nat), s.Up → s.dev.dramGeo.channels ≤ 8 → sc < 2 * s.dev.dramGeo.channels → s.dev.dram.trainNext = sc →
    s.dev.chActive (sc / 2) = true →
    ∃ t, exec (.periodicTraining true []) s = .next t ∧ t.dev.dram.trainNext = (sc + 1) % (2 * s.dev.dramGeo.channels) ∧
      t.dev.fld (Reg.DDR_CH_TRAIN_CNT (sc / 2)) 15 0 = min (s.dev.fld (Reg.DDR_CH_TRAIN_CNT (sc / 2)) 15 0 + 1) 65535 ∧
      cnt t.dev.dram.trainFails sc = 0 ∧ Within [.dram] ((List.range 8).map Reg.pageDDRCH) s t) ∧
  (∀ (s : State) (sc : Nat), s.Up → s.dev.dramGeo.channels ≤ 8 → sc < 2 * s.dev.dramGeo.channels → s.dev.dram.trainNext = sc →
    s.dev.chActive (sc / 2) = true → cnt s.dev.dram.trainFails sc = 2 →
    ∃ t, exec (.periodicTraining false []) s = .next t ∧ cnt t.dev.dram.trainFails sc = 3 ∧
      t.dev.flag (Reg.PG_STICKY (Reg.pageDDRCH (sc / 2))) 2 = true ∧
      Within (.dram :: eventParts) (eventPages ((List.range 8).map Reg.pageDDRCH)) s t) ∧
  (∀ (s : State) (ch : Fin 8), s.Up → s.dev.liveFlag Reg.DDR_SCRUB 31 = true → s.dev.chActive ch = true → ch.val < s.dev.dramGeo.channels →
    cnt s.dev.dram.scrub ch + 64 < s.dev.dramGeo.chBytes →
    ∃ t, exec (.dramScrubRead ch ⟨0, 0⟩) s = .next t ∧ cnt t.dev.dram.scrub ch = cnt s.dev.dram.scrub ch + 64 ∧
      Leaves [.dram] [Reg.DDR_CH_SCRUB_POS ch] s t) ∧
  (∀ (s : State) (ch : Fin 8) (ecc : DramEcc), s.Up → eccOk ecc = true → 0 < ecc.corrected → ecc.uncorrectable = 0 →
    s.dev.liveFlag Reg.DDR_SCRUB 31 = true → s.dev.chActive ch = true → ch.val < s.dev.dramGeo.channels →
    cnt s.dev.dram.scrub ch < s.dev.dramGeo.chBytes → s.dev.dramGeo.chBytes % 256 = 0 →
    ∃ t, exec (.dramScrubRead ch ecc) s = .next t ∧
      t.dev.fld (Reg.DDR_CH_CE ch) 31 0 = min (s.dev.fld (Reg.DDR_CH_CE ch) 31 0 + ecc.corrected) (2 ^ 32 - 1) ∧
      Within (.dram :: eventParts) (eventPages [Reg.pageDDRCH ch]) s t)

/-- R576 to R583, R586: a transaction with a path waits at its target or becomes requests of DRAM; one without is answered with an
error and recorded; a grant takes the one that waits; a timeout and a target's reset answer; selecting a wait clears its maximum. -/
def Obligations.TheBusMatrixGrantsAndAnswers : Prop :=
  (∀ (s : State) (master : Fin 14) (addr len : Nat) (data? : Option (List Byte)) (keepOpen : Bool) (g : Nat), s.Up →
    busOk addr len data? = true → s.dev.busTarget (s.dev.matrixAddr master addr) len = some (g, true) → s.dev.busPath master g = true →
    g ≠ 1 →
    ∃ t, exec (.busTransaction master addr len data? keepOpen) s = .next t ∧ t.dev.dram.waiting = s.dev.dram.waiting ++
        [⟨master, g, s.dev.matrixAddr master addr, len, data?, s.dev.time⟩] ∧ Leaves [.dram] [] s t) ∧
  (∀ (s : State) (master : Fin 14) (addr len : Nat) (keepOpen : Bool), s.Up → busOk addr len none = true →
    s.dev.busTarget (s.dev.matrixAddr master addr) len = none →
    ∃ t, exec (.busTransaction master addr len none keepOpen) s = .next t ∧
      t.dev.fld Reg.XBM_ERR_CNT 31 0 = min (s.dev.fld Reg.XBM_ERR_CNT 31 0 + 1) (2 ^ 32 - 1) ∧
      t.dev.fld Reg.XBM_ERR_LAST 3 0 = master ∧ t.dev.fld Reg.XBM_ERR_LAST 7 4 = 15 ∧ t.dev.flag (Reg.PG_STICKY Reg.pageXBM) 0 = true ∧
      t.dev.outbox.getLast? = some (.busReply master 15 (s.dev.matrixAddr master addr) (some (List.replicate len 0xFF)) .error) ∧
      Within eventParts (eventPages [Reg.pageXBM]) s t) ∧
  (∀ (s : State) (master : Fin 14) (addr len port : Nat) (data? : Option (List Byte)) (keepOpen : Bool), s.Up →
    busOk addr len data? = true → s.dev.busTarget (s.dev.matrixAddr master addr) len = some (1, true) → s.dev.busPath master 1 = true →
    s.dev.bankOpen master (s.dev.matrixAddr master addr) len = true → masterPort master = some port →
    (s.dev.matrixAddr master addr - busDramBase) % 64 + len ≤ 64 →
    ∃ t, exec (.busTransaction master addr len data? keepOpen) s = .next t ∧ t.dev.dram.reqs = s.dev.dram.reqs ++
        [⟨port, s.dev.matrixAddr master addr - busDramBase, len, data?, keepOpen, s.dev.time⟩] ∧
      Leaves [.dram] [Reg.DDR_CH_STAT (s.dev.dramGeo.place (s.dev.matrixAddr master addr - busDramBase)).ch, Reg.DDR_PSTAT] s t) ∧
  (∀ (s : State) (target : Fin 11) (x : BusTx), s.Up → target ≠ 1 → s.dev.dram.waiting = [x] → x.target = target → x.master < 14 →
    ∃ t, exec (.busGrant target) s = .next t ∧ t.dev.busFlight target = some x ∧ t.dev.dram.waiting = [] ∧
      Leaves [.dram] [Reg.XBM_WAIT_MAX] s t) ∧
  (∀ (s : State) (target : Fin 11) (x : BusTx), s.Up → s.dev.busFlight target = some x →
    ∃ t, exec (.busTimeout target) s = .next t ∧ t.dev.busFlight target = none ∧
      t.dev.fld Reg.XBM_TO_CNT 31 0 = min (s.dev.fld Reg.XBM_TO_CNT 31 0 + 1) (2 ^ 32 - 1) ∧
      t.dev.flag (Reg.PG_STICKY Reg.pageXBM) 2 = true ∧ Within (.dram :: eventParts) (eventPages [Reg.pageXBM]) s t) ∧
  (∀ (s : State) (target : Fin 11), s.Up →
    ∃ t, exec (.targetReset target) s = .next t ∧ t.dev.busFlight target = none ∧
      t.dev.dram.waiting = s.dev.dram.waiting.filter (fun x => x.target != target.val) ∧
      t.dev.flag (Reg.PG_STICKY Reg.pageXBM) 3 = true ∧ Within (.dram :: eventParts) (eventPages [Reg.pageXBM]) s t) ∧
  (∀ (s : State) (v : Word) (w : Writer), s.Opens Reg.pageXBM 0x064 w →
    ∃ t, exec (.xbmWaitSelWrite v w) s = .next t ∧ t.dev.fld Reg.XBM_WAIT_SEL 7 0 = v.toNat % 256 ∧ t.dev.rd Reg.XBM_WAIT_MAX = 0 ∧
      Leaves [] [Reg.XBM_WAIT_SEL, Reg.XBM_WAIT_MAX] s t)

/-- R592, R594 to R596, R612: the oldest group becomes durable and takes effect where the ring has room, and waits else; a line that
fails is remapped; a wait raises its sticky bit; a read latches both halves of JSEQ. -/
def Obligations.JournalGroupsBecomeDurableInOrder : Prop :=
  (∀ (s : State) (k : Nat) (h : Hold) (rest : List JGroup), s.Up → s.dev.following = false → s.dev.fld Reg.TMP_STAT 1 0 ≠ 3 →
    s.dev.journal.queue = ⟨[.hold k (some h)], .hold k (some h) none .none_⟩ :: rest → s.dev.ringRoom 1 = true → k < 2240 →
    ∃ t, exec (.journalDurable []) s = .next t ∧ t.dev.journal.queue = rest ∧ (t.dev.dst k).hold = some h ∧
      t.dev.journal.nextSeq = s.dev.journal.nextSeq + 1 ∧
      t.dev.journal.ring.getLast? = some ⟨s.dev.journal.nextSeq, false, s.dev.journal.segment, s.dev.nowNs % 2 ^ 32, .hold k (some h)⟩ ∧
      Within [.journal, .anvil] [Reg.pageTMP, Reg.pageTAKEDST k, Reg.pageTAKECIRC] s t) ∧
  (∀ (s : State) (k : Nat) (h : Hold), s.Up → s.dev.following = false → s.dev.fld Reg.TMP_STAT 1 0 ≠ 3 →
    s.dev.journal.queue = [⟨[.hold k (some h)], .hold k (some h) none .none_⟩] → s.dev.ringRoom 1 = true → k < 2240 →
    ∃ t, exec (.journalDurable [0]) s = .next t ∧ t.dev.journal.queue = [] ∧ (t.dev.dst k).hold = some h ∧
      t.dev.fld Reg.TMP_UE 31 0 = min (s.dev.fld Reg.TMP_UE 31 0 + 1) (2 ^ 32 - 1) ∧
      t.dev.flag (Reg.PG_STICKY Reg.pageTMP) 6 = true ∧
      Within ([.journal, .anvil] ++ eventParts) (eventPages [Reg.pageTAKEDST k, Reg.pageTAKECIRC]) s t) ∧
  (∀ (s : State) (failed : List Nat) (g : JGroup) (rest : List JGroup), s.Up → s.dev.journal.queue = g :: rest →
    s.dev.ringRoom (s.dev.groupBodies g).length = false →
    ∃ t, exec (.journalDurable failed) s = .next t ∧ t = s) ∧
  (∀ (s : State), s.Up → s.dev.journal.queue ≠ [] →
    ∃ t, exec .journalWait s = .next t ∧ t.dev.flag (Reg.PG_STICKY Reg.pageTMP) 10 = true ∧ t.dev.journal = s.dev.journal ∧
      Leaves eventParts (eventRegs [Reg.pageTMP]) s t) ∧
  (∀ (s : State), s.Up →
    ∃ t, exec .jseqRead s = .next t ∧ (t.dev.rd Reg.TMP_JSEQ_LO).toNat = s.dev.journal.nextSeq % 2 ^ 32 ∧
      (t.dev.rd Reg.TMP_JSEQ_HI).toNat = s.dev.journal.nextSeq / 2 ^ 32 % 2 ^ 32 ∧ Leaves [] [Reg.TMP_JSEQ_LO, Reg.TMP_JSEQ_HI] s t)

/-- R597 to R604, R611, R612: a checkpoint freezes the image as it stands and completes with its mark; a warning stops changes and
abandons a checkpoint that is being written; the seal closes the journal and a withdrawn warning opens it; patrol scrub counts what
it corrects and loses what it cannot. -/
def Obligations.CheckpointsSealsAndScrub : Prop :=
  (∀ (s : State), s.Up → s.dev.sealing = false → s.dev.temper.writing = none →
    ∃ t, exec .checkpointStart s = .next t ∧ (t.dev.temper.writing.map Ckpt.image) = some s.dev.persist ∧
      (t.dev.temper.writing.map Ckpt.cut) = some s.dev.journal.nextSeq ∧ t.dev.flag Reg.TMP_STAT 2 = true ∧
      Leaves [.temper] [Reg.TMP_STAT] s t) ∧
  (∀ (s : State) (w : Writer), s.Opens Reg.pageTMP 0x050 w →
    ∃ t, exec (.ckptNow w) s = .next t ∧ t.dev.flag Reg.TMP_CKPT_CTRL 31 = true ∧ Leaves [] [Reg.TMP_CKPT_CTRL] s t) ∧
  (∀ (s : State) (c : Ckpt), s.Up → s.dev.temper.writing = some c → s.dev.temper.mirrorWant = false → s.dev.twin.copyWait = false →
    s.dev.following = false → s.dev.fld Reg.TMP_STAT 1 0 ≠ 3 →
    ∃ t, exec .checkpointComplete s = .next t ∧ t.dev.temper.writing = none ∧
      t.dev.temper.ckpts = c :: s.dev.temper.ckpts.filter (fun x => x.frame != c.frame) ∧
      (t.dev.rd Reg.TMP_CKPT_SEQ).toNat = c.seq % 2 ^ 32 ∧ t.dev.flag Reg.TMP_STAT 2 = false ∧ t.dev.flag Reg.TMP_CKPT_CTRL 31 = false ∧
      (t.dev.journal.ring.getLast?.map JRecord.body) = some (.ckptMark c.seq c.frame ((c.cut + 2 ^ 64 - 1) % 2 ^ 64)) ∧
      Within [.temper, .journal] [Reg.pageTMP] s t) ∧
  (∀ (s : State) (cause : Fin 2), s.Up → s.dev.temper.warned = none → s.dev.fld Reg.TMP_STAT 1 0 = 0 →
    ∃ t, exec (.pwrFailWarning cause) s = .next t ∧ t.dev.temper.warned = some (s.dev.nowNs, cause.val) ∧
      t.dev.temper.writing = none ∧ t.dev.sealing = true ∧ t.dev.fld Reg.TMP_STAT 1 0 = 2 ∧ t.dev.ptp.aonBase = some s.dev.time ∧
      Within [.temper, .ptp, .hostif, .outbox] [Reg.pageTMP] s t) ∧
  (∀ (s : State) (a cause : Nat), s.Up → s.dev.temper.warned = some (a, cause) → s.dev.fld Reg.TMP_STAT 1 0 = 2 →
    s.dev.journal.queue = [] → s.dev.following = false →
    ∃ t, exec .sealDurable s = .next t ∧ t.dev.fld Reg.TMP_STAT 1 0 = 3 ∧
      (t.dev.journal.ring.getLast?.map JRecord.body) = some (.seal s.dev.nowNs cause (s.dev.bump (Reg.TMP_LIFE 2) 31 0).lifeNow) ∧
      t.dev.fld Reg.TMP_SEAL_TIME 15 0 = min ((s.dev.nowNs - a) / 1000) 65535 ∧
      Within [.temper, .journal, .hostif, .outbox] [Reg.pageTMP] s t) ∧
  (∀ (s : State) (x : Nat × Nat), s.Up → s.dev.temper.warned = some x → s.dev.fld Reg.TMP_STAT 1 0 = 3 → s.dev.following = false →
    ∃ t, exec .warningWithdrawn s = .next t ∧ t.dev.temper.warned = none ∧ t.dev.fld Reg.TMP_STAT 1 0 = 0 ∧ t.dev.sealing = false ∧
      (t.dev.journal.ring.getLast?.map JRecord.body) = some (.resume 1) ∧ t.dev.flag (Reg.PG_STICKY Reg.pageTMP) 9 = true ∧
      Within ([.temper, .journal] ++ eventParts) (eventPages []) s t) ∧
  (∀ (s : State), s.Up → s.dev.liveFlag Reg.TMP_SCRUB 31 = true →
    ∃ t, exec (.temperScrub 0 false) s = .next t ∧
      t.dev.fld Reg.TMP_SCRUB_POS 21 0 = (s.dev.fld Reg.TMP_SCRUB_POS 21 0 + 1) % 4194304 ∧ Leaves [] [Reg.TMP_SCRUB_POS] s t) ∧
  (∀ (s : State) (n : Fin 4), s.Up → s.dev.liveFlag Reg.TMP_SCRUB 31 = true → n ≠ 0 →
    ∃ t, exec (.temperScrub n false) s = .next t ∧ t.dev.fld Reg.TMP_CE 31 0 = min (s.dev.fld Reg.TMP_CE 31 0 + 1) (2 ^ 32 - 1) ∧
      t.dev.flag (Reg.PG_STICKY Reg.pageTMP) 5 = true ∧ Within eventParts (eventPages []) s t) ∧
  (∀ (s : State) (n : Fin 4), s.Up → s.dev.liveFlag Reg.TMP_SCRUB 31 = true → s.dev.fld Reg.TMP_SCRUB_POS 21 0 < 0x100000 →
    0 < s.dev.fld Reg.TMP_SPARE 16 0 →
    ∃ t, exec (.temperScrub n true) s = .next t ∧
      t.dev.journal.ring = s.dev.journal.ring.filter (fun r => r.seq % ringLines != s.dev.fld Reg.TMP_SCRUB_POS 21 0) ∧
      t.dev.fld Reg.TMP_SPARE 16 0 = s.dev.fld Reg.TMP_SPARE 16 0 - 1 ∧ t.dev.flag (Reg.PG_STICKY Reg.pageTMP) 6 = true ∧
      Within (.journal :: eventParts) (eventPages []) s t)

/-- R613 to R618: a mirror waits for its checkpoint, is kept when it ends well and dropped when not; a store is accepted when its
surface passes the check, a delete when nothing names the surface, and either shows once its index update is durable; the flash
controller counts its work. -/
def Obligations.MirrorsLibraryAndFlash : Prop :=
  (∀ (s : State), s.Up → s.dev.temper.mirrorRun = none → s.dev.temper.mirrorWant = false →
    ∃ t, exec .mirrorTimer s = .next t ∧ t.dev.temper.mirrorWant = true ∧ t.dev.flag Reg.CRU_STAT 9 = true ∧
      Leaves [.temper] [Reg.CRU_STAT] s t) ∧
  (∀ (s : State) (w : Writer), s.Opens Reg.pageCRU 0x048 w → s.dev.flag Reg.CRU_MIRROR_CTRL 31 = false → s.dev.temper.mirrorRun = none →
    s.dev.temper.mirrorWant = false →
    ∃ t, exec (.mirrorNow w) s = .next t ∧ t.dev.temper.mirrorWant = true ∧ t.dev.flag Reg.CRU_MIRROR_CTRL 31 = true ∧
      t.dev.flag Reg.CRU_STAT 9 = true ∧ Leaves [.temper] [Reg.CRU_STAT, Reg.CRU_MIRROR_CTRL] s t) ∧
  (∀ (s : State) (gen : Nat) (c : Ckpt), s.Up → s.dev.temper.mirrorRun = some (gen, c) →
    ∃ t, exec (.mirrorDone true) s = .next t ∧ t.dev.temper.mirrorRun = none ∧
      t.dev.temper.mirrors = (gen, ⟨c, s.dev.evlog.entries, s.dev.hal.audit, s.dev.hostif.chart, s.dev.hostif.chartPrev, s.dev.upd.img⟩) ::
        s.dev.temper.mirrors.filter (fun x => x.1 != gen) ∧
      t.dev.flag Reg.CRU_STAT 9 = false ∧ t.dev.flag Reg.CRU_MIRROR_CTRL 31 = false ∧
      Within (.temper :: eventParts) (eventPages [Reg.pageCRU]) s t) ∧
  (∀ (s : State) (gen : Nat) (c : Ckpt), s.Up → s.dev.temper.mirrorRun = some (gen, c) →
    ∃ t, exec (.mirrorDone false) s = .next t ∧ t.dev.temper.mirrorRun = none ∧
      t.dev.temper.mirrors = s.dev.temper.mirrors.filter (fun x => x.1 != gen) ∧ t.dev.fld Reg.CRU_MIRROR_STAT 1 0 = 2 ∧
      t.dev.flag (Reg.PG_STICKY Reg.pageCRU) 0 = true ∧ Within (.temper :: eventParts) (eventPages [Reg.pageCRU]) s t) ∧
  (∀ (s : State) (dram : Bool) (cells : List Host.Cell) (w : Writer) (x : Surface), s.Opens Reg.pageCRU 0x050 w →
    s.dev.flag Reg.CRU_LIB_CTRL 31 = false → s.dev.sealing = false → s.dev.surfInUse x.num = false →
    x = ⟨s.dev.fld Reg.CRU_LIB_NUM 15 0, (s.mem.hostWrote cells).bytes dram (s.dev.rd64 Reg.CRU_LIB_ADDR_LO Reg.CRU_LIB_ADDR_HI)
      ((s.mem.hostWrote cells).nat dram (s.dev.rd64 Reg.CRU_LIB_ADDR_LO Reg.CRU_LIB_ADDR_HI + 24) 4)⟩ → x.bytes.length ≤ s.dev.libFree →
    ∃ t, exec (.libStore dram cells false w) s = .next t ∧ t.mem = s.mem.hostWrote cells ∧
      t.dev.temper.lib = (if x.ok then some ⟨x.num, some x.bytes⟩ else s.dev.temper.lib) ∧ t.dev.flag Reg.CRU_LIB_CTRL 31 = x.ok ∧
      (t.dev.rd Reg.CRU_LIB_RESULT).toNat = (if x.ok then (s.dev.rd Reg.CRU_LIB_RESULT).toNat else 2 + 1 * 256) ∧
      Within (.temper :: eventParts) (eventPages [Reg.pageCRU]) { s with mem := t.mem } t) ∧
  (∀ (s : State) (w : Writer), s.Opens Reg.pageCRU 0x050 w → s.dev.flag Reg.CRU_LIB_CTRL 31 = false → s.dev.sealing = false →
    s.dev.surfInUse (s.dev.fld Reg.CRU_LIB_NUM 15 0) = false →
    ∃ t, exec (.libDelete w) s = .next t ∧ t.dev.temper.lib = some ⟨s.dev.fld Reg.CRU_LIB_NUM 15 0, none⟩ ∧
      t.dev.flag Reg.CRU_LIB_CTRL 31 = true ∧ t.dev.flag Reg.CRU_STAT 10 = true ∧ Leaves [.temper] [Reg.CRU_LIB_CTRL, Reg.CRU_STAT] s t) ∧
  (∀ (s : State) (w : Writer), s.Opens Reg.pageCRU 0x050 w → s.dev.flag Reg.CRU_LIB_CTRL 31 = false → s.dev.sealing = false →
    s.dev.surfInUse (s.dev.fld Reg.CRU_LIB_NUM 15 0) = true →
    ∃ t, exec (.libDelete w) s = .next t ∧ (t.dev.rd Reg.CRU_LIB_RESULT).toNat = 2 + 3 * 256 ∧ t.dev.temper.lib = s.dev.temper.lib ∧
      t.dev.flag Reg.CRU_LIB_CTRL 31 = false ∧ Within eventParts (eventPages [Reg.pageCRU]) s t) ∧
  (∀ (s : State) (num : Nat) (b : List Byte), s.Up → s.dev.temper.lib = some ⟨num, some b⟩ →
    ∃ t, exec .libDone s = .next t ∧ t.dev.engines.library = s.dev.engines.library.filter (fun x => x.num != num) ++ [⟨num, b⟩] ∧
      t.dev.temper.lib = none ∧ (t.dev.rd Reg.CRU_LIB_RESULT).toNat = 1 ∧ t.dev.flag Reg.CRU_LIB_CTRL 31 = false ∧
      t.dev.flag (Reg.PG_STICKY Reg.pageCRU) 6 = true ∧
      Within ([.temper, .engines] ++ eventParts) (eventPages [Reg.pageCRU]) s t) ∧
  (∀ (s : State), s.Up →
    ∃ t, exec (.nandRefresh .refreshed) s = .next t ∧
      t.dev.fld Reg.CRU_REFRESHED 31 0 = min (s.dev.fld Reg.CRU_REFRESHED 31 0 + 1) (2 ^ 32 - 1) ∧ Leaves [] [Reg.CRU_REFRESHED] s t) ∧
  (∀ (s : State) (num : Fin 65536), s.Up → (s.dev.engines.library.any fun x => x.num == num.val) = true →
    ∃ t, exec (.nandRefresh (.uncorrLibrary num)) s = .next t ∧ t.dev.surface num = none ∧
      t.dev.fld Reg.CRU_UNCORR 31 0 = min (s.dev.fld Reg.CRU_UNCORR 31 0 + 1) (2 ^ 32 - 1) ∧
      t.dev.flag (Reg.PG_STICKY Reg.pageCRU) 1 = true ∧ Within (.temper :: eventParts) (eventPages [Reg.pageCRU]) s t)

/-- R386, R626, R627, R629 to R634, R647 to R650: lanes in service carry Clasp; heartbeats leave on each of them and say who is active;
a unit that hears no partner, or loses it, goes on alone, splits or takes over; a takeover makes it active; a failed unit stays FAILED. -/
def Obligations.TwinUnitsStartLoseAndTakeOver : Prop :=
  (∀ (s : State) (n : Fin 196), s.Up → s.dev.laneReady n = true → s.dev.fabSvc n = false → 192 ≤ n.val → s.dev.claspUp = false →
    s.dev.twnState ≠ 2 →
    ∃ t, exec (.laneInService n) s = .next t ∧ t.dev.fabSvc n = true ∧ t.dev.claspUp = true ∧ t.dev.fld Reg.TWN_STAT 11 8 = 1 ∧
      t.dev.flag Reg.TWN_STAT 4 = false ∧ t.dev.twnState = s.dev.twnState ∧
      Within [.fabLanes, .twin, .hostif, .outbox] [Reg.pageTWN] s t) ∧
  (∀ (s : State) (n : Fin 196), s.Up → s.dev.laneReady n = true → s.dev.fabSvc n = false → n.val < 192 →
    ∃ t, exec (.laneInService n) s = .next t ∧ t.dev.fabSvc n = true ∧ t.pending = s.pending ∧ t.mem = s.mem) ∧
  (∀ (s : State), s.Up → s.dev.twnState ≠ 0 → s.dev.hal.twinKeys ≠ 0 → s.dev.halState = 1 → s.dev.twin.handover = none →
    s.dev.twin.cancelling = false →
    ∃ t, exec .heartbeatSend s = .next t ∧ t.dev.outbox = s.dev.outbox ++ ([192, 193, 194, 195].filter s.dev.fabSvc).map (fun l =>
        .clasp (some (l - 192)) (.heartbeat ⟨s.dev.fld Reg.TWN_STAT 3 3, s.dev.twnState, s.dev.twnFlags, (s.dev.rd Reg.TWN_EPOCH_TX).toNat,
          (s.dev.rd Reg.TWN_EPOCH_RX).toNat, s.dev.nowNs, 0, 0, false⟩)) ∧
      Leaves [.outbox] [] s t) ∧
  (∀ (s : State) (h : Heartbeat) (arb : Bool), s.Up → s.dev.twnState = 1 → h.state = 1 →
    ∃ t, exec (.heartbeatRx h arb .newest) s = .next t ∧ t.dev.twnState = (if s.dev.twin.pref then 4 else 2) ∧ t.dev.twin.hb = some h ∧
      t.dev.twin.lost = false ∧ Within [.twin, .hostif, .outbox] [Reg.pageTWN] s t) ∧
  (∀ (s : State) (h : Heartbeat) (arb : Bool), s.Up → s.dev.twnState = 3 → h.state = 4 →
    ∃ t, exec (.heartbeatRx h arb .newest) s = .next t ∧ t.dev.twnState = 3 ∧ t.dev.twin.hb = some h ∧
      t.dev.fld Reg.TWN_STAT 14 12 = 4 ∧ t.dev.flag Reg.TWN_STAT 15 = arb ∧ Leaves [.twin] [Reg.TWN_STAT] s t) ∧
  (∀ (s : State) (h : Heartbeat) (arb : Bool), s.Up →
    ∃ t, exec (.heartbeatRx h arb .bad) s = .next t ∧ t.dev.twin = s.dev.twin ∧
      t.dev.fld Reg.TWN_AUTH_FAIL 31 0 = min (s.dev.fld Reg.TWN_AUTH_FAIL 31 0 + 1) (2 ^ 32 - 1) ∧
      t.dev.flag (Reg.PG_STICKY Reg.pageTWN) 10 = true ∧ Within (.hal :: eventParts) (eventPages [Reg.pageTWN, Reg.pageHAL]) s t) ∧
  (∀ (s : State) (arb : Bool), s.Up → s.dev.twnState = 3 → s.dev.twin.lost = false → s.dev.twin.pref = true → s.dev.twin.takeover = none →
    ∃ t, exec (.heartbeatLost arb) s = .next t ∧ t.dev.twin.takeover = some 1 ∧ t.dev.twin.hb = none ∧ t.dev.twin.lost = true ∧
      t.dev.flag (Reg.PG_STICKY Reg.pageTWN) 5 = true ∧
      Within ([.bellows, .twin] ++ eventParts) (eventPages [Reg.pageREF, Reg.pagePTP, Reg.pageTWN]) s t) ∧
  (∀ (s : State), s.Up → s.dev.twnState = 4 → s.dev.twin.lost = false → s.dev.twin.pref = false →
    ∃ t, exec (.heartbeatLost false) s = .next t ∧ t.dev.twnState = 2 ∧ t.dev.flag Reg.TWN_STAT 4 = true ∧
      t.dev.flag (Reg.PG_STICKY Reg.pageTWN) 0 = true ∧ Within (.twin :: eventParts) (eventPages [Reg.pageTWN]) s t) ∧
  (∀ (s : State) (arb : Bool), s.Up → s.dev.twnState = 1 → s.dev.twin.hb = none → s.dev.twin.pref = true →
    ∃ t, exec (.startingTimeout arb) s = .next t ∧ t.dev.twnState = 4 ∧ t.dev.flag Reg.TWN_STAT 4 = true ∧
      Within (.twin :: eventParts) (eventPages [Reg.pageTWN]) s t) ∧
  (∀ (s : State), s.Up → s.dev.twin.pref = false → s.dev.twin.lost = true → s.dev.twnState = 3 → s.dev.twin.takeover = none →
    ∃ t, exec .twinArbHigh s = .next t ∧ t.dev.twin.arbHigh = true ∧ t.dev.twin.takeover = some 2 ∧
      Within ([.bellows, .twin] ++ eventParts) (eventPages [Reg.pageREF, Reg.pagePTP, Reg.pageTWN]) s t) ∧
  (∀ (s : State) (cause : Nat), s.Up → s.dev.twin.takeover = some cause →
    ∃ t, exec .takeoverInstant s = .next t ∧ t.dev.twnState = 4 ∧ t.dev.twin.takeover = none ∧ t.dev.flag Reg.TWN_STAT 4 = false ∧
      (t.dev.rd Reg.TWN_LAST_TAKEOVER).toNat = (cause + s.dev.twnFrame % 2 ^ 24 * 256) % 2 ^ 32 ∧
      t.dev.fld Reg.TWN_COUNTS 15 0 = min (s.dev.fld Reg.TWN_COUNTS 15 0 + 1) 65535 ∧ t.dev.flag (Reg.PG_STICKY Reg.pageTWN) 1 = true ∧
      t.pending = s.pending ∧ t.mem = s.mem) ∧
  (∀ (s : State) (w : Writer), s.Opens Reg.pageTWN 0x048 w →
    ∃ t, exec (.fail w) s = .next t ∧ t.dev.twnState = 5 ∧ (t.dev.rd Reg.TWN_CMD_RESULT).toNat = 1 ∧ t.dev.flag Reg.TWN_CMD 31 = false ∧
      Within [.twin, .hostif, .outbox] [Reg.pageTWN] s t) ∧
  (∀ (s : State), s.Up → s.dev.liveFlag Reg.TWN_WDOG 31 = true →
    ∃ t, exec .watchdogExpiry s = .next t ∧ t.dev.twnState = 5 ∧ Within [.twin, .hostif, .outbox] [Reg.pageTWN] s t) ∧
  (∀ (s : State) (w : Writer), s.Opens Reg.pageTWN 0x054 w →
    ∃ t, exec (.watchdogKick w) s = .next t ∧ t.dev.rd Reg.TWN_WDOG_KICK = 1 ∧ Leaves [] [Reg.TWN_WDOG_KICK] s t)

/-- R635 to R639, R652 to R656: a standby applies an epoch in order and acknowledges it; an unacknowledged epoch restarts the copy, an
acknowledgement frees it, a complete copy puts the standby in step; a handover is proposed, accepted, cancelled and moves the role at its
coordinate. -/
def Obligations.EpochsCopiesAndHandovers : Prop :=
  (∀ (s : State) (n k : Nat) (r : JRecord) (h : Option Hold), s.Up → s.dev.twnState = 3 → s.dev.twin.takeover = none →
    s.dev.twin.rx = [] → n = (s.dev.rd Reg.TWN_EPOCH_RX).toNat + 1 → n < 2 ^ 32 → r.body = .hold k h → s.dev.salvoFrame k = none →
    ∃ t, exec (.epochCellRx n 0 true [r] .newest) s = .next t ∧ (t.dev.rd Reg.TWN_EPOCH_RX).toNat = n ∧ (t.dev.dst k).hold = h ∧
      t.dev.journal.nextSeq = s.dev.journal.nextSeq + 1 ∧ t.dev.twin.rx = [] ∧ t.dev.outbox.getLast? = some (.clasp none (.ack n 0)) ∧
      t.pending = s.pending ∧ t.mem = s.mem) ∧
  (∀ (s : State) (n : Nat) (last : Bool) (recs : List JRecord), s.Up → s.dev.twnState = 3 → s.dev.twin.takeover = none →
    s.dev.twin.rx = [] → n = (s.dev.rd Reg.TWN_EPOCH_RX).toNat + 2 → n < 2 ^ 32 →
    ∃ t, exec (.epochCellRx n 0 last recs .newest) s = .next t ∧ t.dev.twin.rx = [(n, 0, last, recs)] ∧ Leaves [.twin] [] s t) ∧
  (∀ (s : State), s.Up → s.dev.twin.unacked ≠ [] → s.dev.twnState = 4 → s.dev.sealing = false → s.dev.temper.writing = none →
    ∃ t, exec .epochAckTimeout s = .next t ∧ t.dev.twin.copyWait = true ∧ t.dev.twin.unacked = [] ∧
      t.dev.temper.writing.isSome = true ∧ t.dev.flag Reg.TMP_STAT 2 = true ∧ Leaves [.twin, .temper] [Reg.TMP_STAT] s t) ∧
  (∀ (s : State) (epoch ofs : Nat), s.Up →
    ∃ t, exec (.claspAckRx epoch ofs .newest) s = .next t ∧
      t.dev.twin = { s.dev.twin with unacked := s.dev.twin.unacked.filter fun x => decide (0 < diff32 x.1 epoch) } ∧
      Leaves [.twin] [] s t) ∧
  (∀ (s : State) (image : Persist) (first : Nat), s.Up → s.dev.twnState = 2 → s.dev.twin.takeover = none →
    s.dev.fld Reg.TWN_STAT 11 8 ≠ 0 → s.dev.twin.rx = [(first, 0, true, [])] →
    ∃ t, exec (.copyComplete image first) s = .next t ∧ t.dev.twnState = 3 ∧ t.dev.flag Reg.TWN_STAT 5 = true ∧
      t.dev.flag (Reg.PG_STICKY Reg.pageTWN) 8 = true ∧ t.pending = s.pending ∧ t.mem = s.mem) ∧
  (∀ (s : State) (w : Writer), s.Opens Reg.pageTWN 0x048 w → s.dev.twnState = 4 → s.dev.flag Reg.TWN_STAT 4 = false →
    s.dev.fld Reg.TWN_STAT 11 8 ≠ 0 → s.dev.twin.handover = none → s.dev.partnerReady = true →
    ∃ t, exec (.switch none w) s = .next t ∧ t.dev.twin.handover = some ⟨s.dev.twnFrame + 4, s.dev.twnTp, true, false, false⟩ ∧
      t.dev.outbox = s.dev.outbox ++ [.clasp none (.handover .propose (s.dev.twnFrame + 4) s.dev.twnTp)] ∧
      t.dev.flag Reg.TWN_CMD 31 = true ∧ Leaves [.twin, .outbox] [Reg.TWN_CMD] s t) ∧
  (∀ (s : State) (slot : Option (Fin 16)) (w : Writer), s.Opens Reg.pageTWN 0x048 w → s.dev.twnState = 3 →
    (slot.all fun k => s.dev.planeOn (s.dev.cslotTp k)) = true →
    ∃ t, exec (.switch slot w) s = .next t ∧ (t.dev.rd Reg.TWN_CMD_RESULT).toNat = 2 + 3 * 256 ∧ t.dev.flag Reg.TWN_CMD 31 = false ∧
      Leaves [] [Reg.TWN_CMD, Reg.TWN_CMD_RESULT] s t) ∧
  (∀ (s : State) (w : Writer), s.Opens Reg.pageTWN 0x048 w → s.dev.twnState = 4 → s.dev.fld Reg.TWN_STAT 11 8 ≠ 0 →
    s.dev.sealing = false → s.dev.temper.writing = none →
    ∃ t, exec (.recopy w) s = .next t ∧ t.dev.twin.copyWait = true ∧ t.dev.temper.writing.isSome = true ∧
      (t.dev.rd Reg.TWN_CMD_RESULT).toNat = 1 ∧ t.dev.flag Reg.TWN_CMD 31 = false ∧
      Leaves [.twin, .temper] [Reg.TMP_STAT, Reg.TWN_CMD, Reg.TWN_CMD_RESULT] s t) ∧
  (∀ (s : State) (w : Writer) (h : Handover), s.Opens Reg.pageTWN 0x048 w → s.dev.twin.handover = some h → s.dev.twnFrame + 2 ≤ h.f →
    ∃ t, exec (.handoverCancelCmd w) s = .next t ∧ t.dev.twin.handover = none ∧ t.dev.twin.cancelling = true ∧
      t.dev.outbox = s.dev.outbox ++ [.clasp none (.handover .cancel 0 0)] ∧ (t.dev.rd Reg.TWN_CMD_RESULT).toNat = 1 ∧
      Leaves [.twin, .outbox] [Reg.TWN_STAT, Reg.TWN_CMD, Reg.TWN_CMD_RESULT] s t) ∧
  (∀ (s : State) (f : Nat) (tp : Fin 8), s.Up → s.dev.twnState = 3 → s.dev.flag Reg.TWN_STAT 6 = true →
    ∃ t, exec (.handoverRx .propose f tp .newest) s = .next t ∧ t.dev.twin.handover = some ⟨f, tp, false, true, false⟩ ∧
      t.dev.outbox = s.dev.outbox ++ [.clasp none (.handover .accept f tp)] ∧ t.dev.flag Reg.TWN_STAT 16 = true ∧
      Leaves [.twin, .outbox] [Reg.TWN_STAT] s t) ∧
  (∀ (s : State) (h : Handover) (tp : Fin 8), s.Up → s.dev.twin.handover = some h → h.mine = true →
    ∃ t, exec (.handoverRx .accept h.f tp .newest) s = .next t ∧ t.dev.twin.handover = some { h with accepted := true } ∧
      t.dev.flag Reg.TWN_STAT 16 = true ∧ t.dev.flag Reg.TWN_CMD 31 = false ∧
      Leaves [.twin] [Reg.TWN_STAT, Reg.TWN_CMD, Reg.TWN_CMD_RESULT] s t) ∧
  (∀ (s : State) (h : Handover), s.Up → s.dev.twin.handover = some h → h.accepted = true → s.dev.twnState = 4 →
    s.dev.journal.epoch = [] →
    ∃ t, exec .handoverCoordinate s = .next t ∧ t.dev.twnState = 3 ∧ t.dev.twin.handover = none ∧
      (t.dev.rd Reg.TWN_LAST_TAKEOVER).toNat = (if h.revert then 5 else 4) + h.f % 2 ^ 24 * 256 ∧
      t.dev.fld Reg.TWN_COUNTS 31 16 = min (s.dev.fld Reg.TWN_COUNTS 31 16 + 1) 65535 ∧
      Within (.twin :: eventParts) (eventPages [Reg.pageTWN]) s t) ∧
  (∀ (s : State) (h : Handover), s.Up → s.dev.twin.handover = some h → h.accepted = true → s.dev.twnState = 3 →
    s.dev.journal.epoch = [] →
    ∃ t, exec .handoverCoordinate s = .next t ∧ t.dev.twnState = 4 ∧ t.dev.twin.handover = none ∧
      Within (.twin :: eventParts) (eventPages [Reg.pageTWN]) s t) ∧
  (∀ (s : State), s.Up → s.dev.twin.pref = true → s.dev.flag Reg.TWN_STAT 6 = true → s.dev.liveFlag Reg.TWN_CFG 3 = true →
    s.dev.twin.handover = none →
    ∃ t, exec .revertHoldEnd s = .next t ∧ t.dev.twin.handover = some ⟨s.dev.twnFrame + 4, s.dev.twnTp, true, false, true⟩ ∧
      t.dev.outbox = s.dev.outbox ++ [.clasp none (.handover .propose (s.dev.twnFrame + 4) s.dev.twnTp)] ∧ Leaves [.twin, .outbox] [] s t)

/-- R642 to R646, R711: signatures of the same frame are compared and counted; self-tests fail and recover; health reports go both ways;
a standby gathers the chunks that its active unit sends. -/
def Obligations.StandbysCompareTestAndReport : Prop :=
  (∀ (s : State) (x y : SigEntry), s.Up → s.dev.twnState = 3 → x.dst = y.dst → x.f = y.f → x.exclude = false → y.exclude = false →
    s.dev.twin.excluded = [] → x.sig = y.sig →
    ∃ t, exec (.signaturesRx [x] [y] .newest) s = .next t ∧
      t.dev.fld Reg.TWN_SIG_CMP 31 0 = min (s.dev.fld Reg.TWN_SIG_CMP 31 0 + 1) (2 ^ 32 - 1) ∧
      t.dev.rd Reg.TWN_SIG_BAD = s.dev.rd Reg.TWN_SIG_BAD ∧ t.dev.twin.cmp = s.dev.twin.cmp + 1 ∧ t.dev.twin.bad = s.dev.twin.bad ∧
      Within (.twin :: eventParts) (eventPages [Reg.pageTWN]) s t) ∧
  (∀ (s : State) (x y : SigEntry), s.Up → s.dev.twnState = 3 → x.dst = y.dst → x.f = y.f → x.exclude = false → y.exclude = false →
    s.dev.twin.excluded = [] → x.sig ≠ y.sig →
    ∃ t, exec (.signaturesRx [x] [y] .newest) s = .next t ∧
      t.dev.fld Reg.TWN_SIG_BAD 31 0 = min (s.dev.fld Reg.TWN_SIG_BAD 31 0 + 1) (2 ^ 32 - 1) ∧
      (t.dev.rd Reg.TWN_SIG_LAST).toNat = x.dst % 2048 + x.f % 65536 * 65536 ∧ t.dev.twin.bad = s.dev.twin.bad + 1 ∧
      Within (.twin :: eventParts) (eventPages [Reg.pageTWN]) s t) ∧
  (∀ (s : State) (x : SelfTest) (errors : Nat), s.Up → s.dev.isStandby = true → s.dev.liveFlag Reg.TWN_CFG 8 = true →
    ∃ t, exec (.selftestRun x false errors) s = .next t ∧ (x, 0) ∈ t.dev.twin.failing ∧ t.dev.flag Reg.TWN_STAT 6 = false ∧
      t.dev.flag (Reg.PG_STICKY Reg.pageTWN) 7 = true ∧ t.dev.twin.fails = s.dev.twin.fails + 1 ∧
      Within (.twin :: eventParts) (eventPages [Reg.pageTWN]) s t) ∧
  (∀ (s : State) (x : SelfTest) (errors : Nat), s.Up → s.dev.isStandby = true → s.dev.liveFlag Reg.TWN_CFG 8 = true →
    s.dev.twin.failing = [(x, 1)] →
    ∃ t, exec (.selftestRun x true errors) s = .next t ∧ t.dev.twin.failing = [] ∧ t.dev.twin.tests = s.dev.twin.tests + 1 ∧
      Within [.twin, .hostif, .outbox] [Reg.pageTWN] s t) ∧
  (∀ (s : State) (ofs : Int), s.Up → s.dev.twnState ≠ 0 →
    ∃ t, exec (.twinHealthSend ofs) s = .next t ∧ t.dev.twin.timeOfs = ofs ∧ t.dev.twin.cmp = 0 ∧ t.dev.twin.bad = 0 ∧
      t.dev.twin.tests = 0 ∧ t.dev.twin.fails = 0 ∧ t.dev.twin.prbs = 0 ∧
      t.dev.outbox.getLast? = some (.clasp none (.health ((List.range 16).map fun i => t.dev.rd (Reg.TWN_HEALTH i)))) ∧
      Within [.twin, .hostif, .outbox] [Reg.pageTWN] s t) ∧
  (∀ (s : State) (words : List Word), s.Up →
    ∃ t, exec (.twinHealthRx words .newest) s = .next t ∧
      ((List.range 16).all fun i => decide (t.dev.rd (Reg.TWN_PHEALTH i) = words.getD i 0)) = true ∧
      Leaves [] ((List.range 16).map Reg.TWN_PHEALTH) s t) ∧
  (∀ (s : State) (index : Nat) (data : List Byte), s.Up → s.dev.isStandby = true → index ≠ 0 → s.dev.hie.bulk = [] → data ≠ [] →
    data.length = s.dev.chunkLen index [] →
    ∃ t, exec (.updChunkCellRx index 0 data .newest) s = .next t ∧
      t.dev.upd.chunks = s.dev.upd.chunks.filter (fun x => x.1 != index) ++ [(index, data)] ∧ Leaves [.hie, .upd] [] s t)

/-- R660 to R666, R668: RUN and IDLE change at once; an entry to SLEEP, DEEP or OFF saves the registers and goes step by step, or is
refused, always so while WAKE is asserted (R674); one that comes while something is in progress waits. -/
def Obligations.PowerStatesAreEntered : Prop :=
  (∀ (s : State) (w : Writer), s.Opens Reg.pagePWR 0x040 w → s.dev.pwrBusy = false → s.dev.powerState = 1 →
    ∃ t, exec (.pwrCmdRun w) s = .next t ∧ t.dev.powerState = 0 ∧ (t.dev.rd Reg.PWR_CMD_RESULT).toNat = 1 ∧
      Within [.twin, .hostif, .outbox] [Reg.pagePWR, Reg.pageTWN] s t) ∧
  (∀ (s : State) (w : Writer), s.Opens Reg.pagePWR 0x040 w → s.dev.pwrBusy = false → s.dev.powerState = 0 →
    ∃ t, exec (.pwrCmdIdle w) s = .next t ∧ t.dev.powerState = 1 ∧ (t.dev.rd Reg.PWR_CMD_RESULT).toNat = 1 ∧
      Within [.twin, .hostif, .outbox] [Reg.pagePWR, Reg.pageTWN] s t) ∧
  (∀ (s : State) (wake : Bool) (w : Writer), s.Opens Reg.pagePWR 0x040 w → s.dev.pwrBusy = false → s.dev.powerState ≤ 1 →
    s.dev.lowRefuser 2 wake = none →
    ∃ t, exec (.pwrCmdSleep wake w) s = .next t ∧ t.dev.flag Reg.PWR_STATE 3 = true ∧ t.dev.pwrTarget = 2 ∧ t.dev.power.step = 1 ∧
      t.dev.power.left = s.dev.powerState ∧ t.dev.power.saved.isSome = true ∧ t.dev.powerState = s.dev.powerState ∧
      Leaves [.power] [Reg.PWR_CMD, Reg.PWR_CMD_RESULT, Reg.PWR_STATE, Reg.PWR_SAVE_STAT] s t) ∧
  (∀ (s : State) (wake : Bool) (w : Writer), s.Opens Reg.pagePWR 0x040 w → s.dev.pwrBusy = false → s.dev.powerState ≤ 2 →
    s.dev.lowRefuser 3 wake = none →
    ∃ t, exec (.pwrCmdDeep wake w) s = .next t ∧ t.dev.flag Reg.PWR_STATE 3 = true ∧ t.dev.pwrTarget = 3 ∧ t.dev.power.step = 1 ∧
      Leaves [.power] [Reg.PWR_CMD, Reg.PWR_CMD_RESULT, Reg.PWR_STATE, Reg.PWR_SAVE_STAT] s t) ∧
  (∀ (s : State) (wake : Bool) (w : Writer), s.Opens Reg.pagePWR 0x040 w → s.dev.pwrBusy = false → s.dev.powerState ≤ 2 →
    s.dev.lowRefuser 4 wake = none →
    ∃ t, exec (.pwrCmdOff wake w) s = .next t ∧ t.dev.flag Reg.PWR_STATE 3 = true ∧ t.dev.pwrTarget = 4 ∧ t.dev.power.step = 1 ∧
      Leaves [.power] [Reg.PWR_CMD, Reg.PWR_CMD_RESULT, Reg.PWR_STATE, Reg.PWR_SAVE_STAT] s t) ∧
  (∀ (s : State) (w : Writer), s.Opens Reg.pagePWR 0x040 w →
    ∃ t, exec (.pwrCmdSleep true w) s = .next t ∧ (t.dev.rd Reg.PWR_CMD_RESULT).toNat = 3 + 1 * 256 ∧
      t.dev.powerState = s.dev.powerState ∧ Within eventParts (eventPages [Reg.pagePWR]) s t) ∧
  (∀ (s : State) (w : Writer), s.Opens Reg.pagePWR 0x040 w → s.dev.pwrBusy = true → s.dev.power.queued = none →
    ∃ t, exec (.pwrCmdSleep false w) s = .next t ∧ t.dev.power.queued = some ⟨2, w.port⟩ ∧
      (t.dev.rd Reg.PWR_CMD_RESULT).toNat = 2 ∧ Leaves [.power] [Reg.PWR_CMD, Reg.PWR_CMD_RESULT, Reg.PWR_STATE] s t) ∧
  (∀ (s : State), s.Up → s.dev.power.step = 1 →
    ∃ t, exec .sleepCommit s = .next t ∧ t.dev.power.step = 2 ∧ t.dev.dataRuns = false ∧
      ((List.range 16).all fun p => t.dev.aptState p == 0) = true ∧
      Within [.apts, .power, .hostif, .outbox] ((List.range 16).map Reg.pageAPT) s t) ∧
  (∀ (s : State) (wake : Bool), s.Up → s.dev.power.step = 2 → s.dev.pwrTarget = 2 → s.dev.power.wakeNext = none →
    s.dev.power.queued = none →
    ∃ t, exec (.sleepQuadsOff wake) s = .next t ∧ t.dev.powerState = 2 ∧ (t.dev.rd Reg.PWR_CMD_RESULT).toNat = 1 ∧
      t.dev.flag Reg.PWR_CMD 31 = false ∧ t.dev.flag Reg.PWR_STATE 3 = false ∧ t.dev.power.step = 0 ∧ t.pending = s.pending ∧
      t.mem = s.mem) ∧
  (∀ (s : State) (wake : Bool), s.Up → s.dev.power.step = 2 → s.dev.pwrTarget = 3 →
    ∃ t, exec (.sleepQuadsOff wake) s = .next t ∧ t.dev.powerState = 2 ∧ t.dev.power.step = 3 ∧ t.pending = s.pending ∧
      t.mem = s.mem) ∧
  (∀ (s : State) (c : Ckpt), s.Up → s.dev.power.step = 3 → s.dev.temper.writing = none → s.dev.temper.ckpts.head? = some c →
    s.dev.power.ckpt ≤ c.seq → s.dev.pwrTarget = 3 →
    ∃ t, exec .deepCommit s = .next t ∧ t.dev.power.step = 4 ∧ t.dev.hostif.linkUp = false ∧ t.dev.flag Reg.DDR_STAT 8 = false ∧
      t.pending = s.pending ∧ t.mem = s.mem) ∧
  (∀ (s : State), s.Up → s.dev.power.step = 4 → s.dev.pwrTarget = 3 →
    ∃ t, exec .deepRegulatorsOff s = .next t ∧ t.dev.power.step = 5 ∧
      t.dev.outbox = (deepRails.foldl (fun d r => d.pmbusTo r (.operation 0)) s.dev).outbox ∧ Leaves [.power, .outbox] [] s t) ∧
  (∀ (s : State), s.Up → s.dev.power.step = 4 → s.dev.pwrTarget = 4 → s.dev.fld Reg.TMP_STAT 1 0 = 3 →
    ∃ t, exec .deepRegulatorsOff s = .next t ∧ t.dev.power.run = .off ∧ t.dev.powerState = 4 ∧ t.dev.ptp.aonBase = some s.dev.time ∧
      Within [.power, .ptp, .twin, .hostif, .outbox] [Reg.pagePWR, Reg.pageTWN] s t) ∧
  (∀ (s : State), s.Up → s.dev.power.step = 5 → s.dev.power.wakeNext = none →
    ∃ t, exec .deepReached s = .next t ∧ t.dev.power.run = .deep ∧ t.dev.powerState = 3 ∧ (t.dev.rd Reg.PWR_CMD_RESULT).toNat = 1 ∧
      t.dev.ptp.aonBase = some s.dev.time ∧ Within [.power, .ptp, .twin, .hostif, .outbox] [Reg.pagePWR, Reg.pageTWN] s t)

/-- R669 to R675: a wake from SLEEP or DEEP runs and ends with the datapath on; a wake from OFF is a boot. -/
def Obligations.WakesBringTheDeviceBack : Prop :=
  (∀ (s : State) (ticks : Nat), s.Up → s.dev.power.wake = none → s.dev.power.step = 0 → s.dev.powerState = 2 →
    ∃ t, exec (.wakePin ticks true) s = .next t ∧ t.dev.power.wake = some (1, 0) ∧ t.dev.flag Reg.PWR_STATE 3 = true ∧
      t.dev.pwrTarget = 0 ∧ t.dev.flag Reg.PWR_SAVE_STAT 17 = true ∧ t.pending = s.pending ∧ t.mem = s.mem) ∧
  (∀ (s : State) (ticks : Nat), s.Up → s.dev.power.wake = none → s.dev.power.step = 0 → s.dev.powerState = 2 →
    s.dev.fld Reg.PWR_WAKE_TIMER 31 0 ≠ 0 →
    ∃ t, exec (.wakeTimer ticks true) s = .next t ∧ t.dev.power.wake = some (4, 0) ∧ t.dev.flag Reg.PWR_STATE 3 = true ∧
      t.pending = s.pending ∧ t.mem = s.mem) ∧
  (∀ (s : State) (ticks : Nat), s.dev.power.run = .deep →
    ∃ t, exec (.wakePin ticks true) s = .next t ∧ t.dev.power.run = .up ∧ t.dev.power.wake = some (1, 0) ∧ t.dev.dataRuns = false ∧
      t.pending = s.pending ∧ t.mem = s.mem) ∧
  (∀ (s : State) (ticks : Nat) (saved : Bool), s.dev.power.run = .off →
    ∃ t, exec (.wakePin ticks saved) s = .next t ∧ t.dev.power.run = .held ∧ t.dev.power.cause = 4 ∧
      t.dev.journal.ring = s.dev.journal.ring ∧ t.dev.temper.ckpts = s.dev.temper.ckpts ∧ t.pending = s.pending ∧ t.mem = s.mem) ∧
  (∀ (s : State) (ticks : Nat), s.Up → s.dev.power.step = 1 → s.dev.power.left ≤ 1 → s.dev.power.wake = none →
    s.dev.power.queued = none →
    ∃ t, exec (.wakePin ticks true) s = .next t ∧ (t.dev.rd Reg.PWR_CMD_RESULT).toNat = 5 + 1 * 256 ∧ t.dev.power.step = 0 ∧
      t.dev.flag Reg.PWR_STATE 3 = false ∧ t.dev.flag Reg.PWR_CMD 31 = false ∧
      Within (.power :: eventParts) (eventPages [Reg.pagePWR]) s t) ∧
  (∀ (s : State) (wake : Bool) (source target : Nat), s.Up → s.dev.power.wake = some (source, target) → target ≤ 1 →
    s.dev.power.queued = none →
    ∃ t, exec (.transitionEnd wake) s = .next t ∧ t.dev.powerState = target ∧ t.dev.power.wake = none ∧ t.dev.dataRuns = true ∧
      t.dev.flag Reg.PWR_STATE 3 = false ∧ t.dev.flag (Reg.PG_STICKY Reg.pagePWR) 6 = true ∧ t.pending = s.pending ∧ t.mem = s.mem)

/-- R677 to R683: a higher operating point is asked for and confirmed, a lower one that does not carry what is reserved is refused, and
one that no regulator confirms is taken back; alerts, the temperature and the margin report. -/
def Obligations.OperatingPointsAndAlerts : Prop :=
  (∀ (s : State) (point : Fin 4) (answers : Bool) (w : Writer), s.Opens Reg.pagePWR 0x058 w → s.dev.flag Reg.PWR_OP_CMD 31 = false →
    s.dev.powerState ≤ 2 → s.dev.fld Reg.PWR_OP_STAT 1 0 < point.val → s.dev.liveFlag Reg.PWR_CFG 8 = false →
    ∃ t, exec (.opChange point answers w) s = .next t ∧ t.dev.flag Reg.PWR_OP_CMD 31 = true ∧ t.dev.flag Reg.PWR_OP_STAT 2 = true ∧
      t.dev.fld Reg.PWR_OP_CMD 1 0 = point ∧ t.dev.fld Reg.PWR_OP_STAT 1 0 = s.dev.fld Reg.PWR_OP_STAT 1 0 ∧
      Within eventParts (eventPages [Reg.pagePWR, Reg.pageHRT, Reg.pageFSENG]) s t) ∧
  (∀ (s : State) (point : Fin 4) (answers : Bool) (w : Writer), s.Opens Reg.pagePWR 0x058 w → s.dev.flag Reg.PWR_OP_CMD 31 = false →
    s.dev.powerState ≤ 2 → point.val < s.dev.fld Reg.PWR_OP_STAT 1 0 → s.dev.opTooLow (opPercent point) = true →
    s.dev.liveFlag Reg.PWR_CFG 8 = false → s.dev.liveFlag Reg.PWR_CFG 5 = true →
    ∃ t, exec (.opChange point answers w) s = .next t ∧ t.dev.fld Reg.PWR_OP_STAT 2 0 = s.dev.fld Reg.PWR_OP_STAT 2 0 ∧
      (t.dev.rd Reg.PWR_REFUSE_LAST).toNat = 9 + 7 * 16 ∧ t.dev.flag Reg.PWR_OP_CMD 31 = false ∧
      Within eventParts (eventPages [Reg.pagePWR]) s t) ∧
  (∀ (s : State) (mv : Fin 4096) (wake : Bool), s.Up → s.dev.flag Reg.PWR_OP_STAT 2 = true → s.dev.power.queued = none →
    ∃ t, exec (.opChangeConfirmed mv wake) s = .next t ∧ t.dev.fld Reg.PWR_OP_STAT 1 0 = s.dev.fld Reg.PWR_OP_CMD 1 0 ∧
      t.dev.flag Reg.PWR_OP_STAT 2 = false ∧ t.dev.fld Reg.PWR_OP_STAT 19 8 = mv ∧ t.dev.flag Reg.PWR_OP_CMD 31 = false ∧
      t.dev.flag (Reg.PG_STICKY Reg.pagePWR) 7 = true ∧
      Within eventParts (eventPages [Reg.pagePWR, Reg.pageHRT, Reg.pageFSENG]) s t) ∧
  (∀ (s : State) (wake : Bool), s.Up → s.dev.flag Reg.PWR_OP_STAT 2 = true → s.dev.liveFlag Reg.PWR_CFG 8 = true →
    s.dev.power.queued = none →
    ∃ t, exec (.pmbTimeout wake) s = .next t ∧ t.dev.flag Reg.PWR_OP_STAT 2 = false ∧ t.dev.flag Reg.PWR_OP_CMD 31 = false ∧
      t.dev.fld Reg.PWR_OP_STAT 1 0 = s.dev.fld Reg.PWR_OP_STAT 1 0 ∧ t.dev.flag (Reg.PG_STICKY Reg.pagePWR) 3 = true ∧
      Within eventParts (eventPages [Reg.pagePWR, Reg.pageHRT, Reg.pageFSENG]) s t) ∧
  (∀ (s : State) (rail : Fin 8) (word : Fin 65536) (vout : Fin 256), s.Up →
    ∃ t, exec (.pmbAlert rail word vout) s = .next t ∧ (t.dev.rd Reg.PWR_PMB_STAT).toNat = word + vout * 65536 + rail * 16777216 ∧
      t.dev.flag (Reg.PG_STICKY Reg.pagePWR) 3 = true ∧ Within eventParts (eventPages [Reg.pagePWR]) s t) ∧
  (∀ (s : State), s.Up →
    ∃ t, exec .therm s = .next t ∧ (t.dev.rd Reg.PWR_TJ).toNat = 105 * 8 ∧ t.dev.flag (Reg.PG_STICKY Reg.pagePWR) 5 = true ∧
      Within eventParts (eventPages [Reg.pagePWR]) s t) ∧
  (∀ (s : State) (margin : Fin 65536), s.Up → s.dev.live Reg.PWR_AGE_THR 15 0 ≤ margin →
    ∃ t, exec (.ageMargin margin) s = .next t ∧ (t.dev.rd Reg.PWR_AGE).toNat = margin ∧ Leaves [] [Reg.PWR_AGE] s t) ∧
  (∀ (s : State) (margin : Fin 65536), s.Up → margin.val < s.dev.live Reg.PWR_AGE_THR 15 0 →
    ∃ t, exec (.ageMargin margin) s = .next t ∧ (t.dev.rd Reg.PWR_AGE).toNat = margin ∧
      t.dev.flag (Reg.PG_STICKY Reg.pagePWR) 4 = true ∧ Within eventParts (eventPages [Reg.pagePWR]) s t)

/-- R688 to R702, R705, R728: self-tests and failures move the Hallmark between its states; zeroisation clears what is installed; owner
slots, test access, keys and certificates change as their signatures allow; the audit log is signed. -/
def Obligations.TheHallmarkTestsSignsAndKeepsKeys : Prop :=
  (∀ (s : State) (w : Writer), s.Opens Reg.pageHAL 0x080 w → s.dev.flag Reg.HAL_CMD 31 = false → s.dev.halServes = true →
    ∃ t, exec (.halSelftest w) s = .next t ∧ t.dev.rd Reg.HAL_CMD = 0x80000000 ∧ Leaves [] [Reg.HAL_CMD] s t) ∧
  (∀ (s : State) (entropy : Bool), s.Up → s.dev.halState = 0 → s.dev.hal.zeroAfter = false →
    ∃ t, exec (.halSelftestDone none entropy) s = .next t ∧ t.dev.halState = (if s.dev.hal.holdsKey then 1 else 3) ∧
      t.dev.fld Reg.HAL_ST_CNT 15 0 = min (s.dev.fld Reg.HAL_ST_CNT 15 0 + 1) 65535 ∧
      t.dev.fld Reg.HAL_ST_CNT 31 16 = s.dev.fld Reg.HAL_ST_CNT 31 16 ∧
      t.dev.flag Reg.HAL_STAT 2 = (s.dev.hal.holdsKey && !s.dev.hal.testAccess) ∧
      Within [.hal, .twin, .hostif, .outbox] [Reg.pageHAL, Reg.pageTWN, Reg.pageTMP] s t) ∧
  (∀ (s : State) (entropy : Bool) (c : Fin 256), s.Up → s.dev.halState = 0 → s.dev.hal.zeroAfter = false →
    ∃ t, exec (.halSelftestDone (some c) entropy) s = .next t ∧ t.dev.halState = 2 ∧ t.dev.fld Reg.HAL_STAT 15 8 = c ∧
      t.dev.flag Reg.HAL_STAT 2 = false ∧ t.dev.fld Reg.HAL_ST_CNT 31 16 = min (s.dev.fld Reg.HAL_ST_CNT 31 16 + 1) 65535 ∧
      t.dev.flag (Reg.PG_STICKY Reg.pageHAL) 0 = true ∧ t.dev.hostif.sessions = List.replicate 8 false ∧ t.pending = s.pending ∧
      t.mem = s.mem) ∧
  (∀ (s : State) (code : Fin 256), s.Up → s.dev.halServes = true →
    ∃ t, exec (.hallmarkFailure .entropy code) s = .next t ∧ t.dev.halState = 2 ∧ t.dev.fld Reg.HAL_STAT 15 8 = code ∧
      t.dev.flag (Reg.PG_STICKY Reg.pageHAL) 6 = true ∧ t.dev.hostif.sessions = List.replicate 8 false ∧ t.pending = s.pending ∧
      t.mem = s.mem) ∧
  (∀ (s : State) (w : Writer), s.Opens Reg.pageHAL 0x080 w → s.dev.flag Reg.HAL_CMD 31 = false → s.dev.halServes = true →
    ∃ t, exec (.zeroize w) s = .next t ∧ t.dev.halState = 3 ∧ t.dev.hal.hierKeys = 0 ∧ t.dev.hal.twinKeys = 0 ∧
      t.dev.hal.tlsKey = false ∧ t.dev.hal.cert = false ∧ t.dev.temper.salt = false ∧ t.dev.hostif.sessions = List.replicate 8 false ∧
      t.dev.flag (Reg.PG_STICKY Reg.pageHAL) 2 = true ∧ (t.dev.rd Reg.HAL_CMD_RESULT).toNat = 1 ∧
      Within ([.hal, .temper, .twin] ++ eventParts) (eventPages [Reg.pageHAL, Reg.pageTWN]) s t) ∧
  (∀ (s : State), s.Up → s.dev.halServes = true →
    ∃ t, exec .zeroizeNAssert s = .next t ∧ t.dev.halState = 3 ∧ t.dev.hal.hierKeys = 0 ∧ t.dev.hal.twinKeys = 0 ∧
      t.dev.hal.tlsKey = false ∧ t.dev.temper.salt = false ∧
      Within ([.hal, .temper, .twin] ++ eventParts) (eventPages [Reg.pageHAL, Reg.pageTWN]) s t) ∧
  (∀ (s : State), s.Up → s.dev.halState = 0 →
    ∃ t, exec .zeroizeNAssert s = .next t ∧ t.dev.hal = { s.dev.hal with zeroAfter := true } ∧ Leaves [.hal] [] s t) ∧
  (∀ (s : State), s.Up → s.dev.temper.salt = false →
    ∃ t, exec .keystoreErased s = .next t ∧ t.dev.hal = { s.dev.hal with store := 0 } ∧ Leaves [.hal] [] s t) ∧
  (∀ (s : State) (first last : Nat) (w : Writer) (x y : AuditEntry), s.Opens Reg.pageHAL 0x080 w → s.dev.flag Reg.HAL_CMD 31 = false →
    s.dev.halServes = true → (s.dev.hal.audit.find? fun e => e.seq == first) = some x →
    (s.dev.hal.audit.find? fun e => e.seq == last) = some y → first ≤ last →
    ∃ t, exec (.auditSign first last w) s = .next t ∧ (t.dev.rd Reg.HAL_CMD_RESULT).toNat = 1 ∧
      t.mem = s.mem.setBytes s.dev.halBuf.1 s.dev.halBuf.2 (auditSignature first last y.tag) ∧
      Leaves [] [Reg.HAL_CMD, Reg.HAL_CMD_RESULT] { s with mem := t.mem } t) ∧
  (∀ (s : State) (first last : Nat) (w : Writer), s.Opens Reg.pageHAL 0x080 w → s.dev.flag Reg.HAL_CMD 31 = false →
    s.dev.halServes = true → (s.dev.hal.audit.any fun e => e.seq == first) = false →
    ∃ t, exec (.auditSign first last w) s = .next t ∧ (t.dev.rd Reg.HAL_CMD_RESULT).toNat = 2 + 5 * 256 ∧
      Leaves [] [Reg.HAL_CMD, Reg.HAL_CMD_RESULT] s t) ∧
  (∀ (s : State) (k : Fin 4) (hash : Nat) (w : Writer), s.Opens Reg.pageHAL 0x080 w → s.dev.flag Reg.HAL_CMD 31 = false →
    s.dev.halServes = true → s.dev.ownerSlot k = 0 →
    ∃ t, exec (.slotProgram k hash .vendor w) s = .next t ∧ t.dev.ownerSlot k = 1 ∧
      t.dev.hal.slotHash = s.dev.hal.slotHash.set k hash ∧ (t.dev.rd Reg.HAL_CMD_RESULT).toNat = 1 ∧
      t.dev.flag (Reg.PG_STICKY Reg.pageHAL) 4 = true ∧ Within (.hal :: eventParts) (eventPages [Reg.pageHAL]) s t) ∧
  (∀ (s : State) (j k : Fin 4) (w : Writer), s.Opens Reg.pageHAL 0x080 w → s.dev.flag Reg.HAL_CMD 31 = false →
    s.dev.halServes = true → j ≠ k → s.dev.ownerSlot j = 1 → s.dev.ownerSlot k = 1 →
    ∃ t, exec (.slotRevoke k (.slot j) w) s = .next t ∧ t.dev.ownerSlot k = 2 ∧ t.dev.ownerSlot j = 1 ∧
      (t.dev.rd Reg.HAL_CMD_RESULT).toNat = 1 ∧ Within (.hal :: eventParts) (eventPages [Reg.pageHAL]) s t) ∧
  (∀ (s : State) (k : Fin 4) (signer : CmdSig) (w : Writer), s.Opens Reg.pageHAL 0x080 w → s.dev.flag Reg.HAL_CMD 31 = false →
    s.dev.halServes = true → s.dev.ownerSlot k = 1 → ((List.range 4).all fun j => j == k.val || s.dev.ownerSlot j != 1) = true →
    ∃ t, exec (.slotRevoke k signer w) s = .next t ∧ (t.dev.rd Reg.HAL_CMD_RESULT).toNat = 2 + 4 * 256 ∧
      Leaves [] [Reg.HAL_CMD, Reg.HAL_CMD_RESULT] s t) ∧
  (∀ (s : State) (w : Writer), s.Opens Reg.pageHAL 0x080 w → s.dev.flag Reg.HAL_CMD 31 = false → s.dev.halServes = true →
    ∃ t, exec (.testAccess .vendor true w) s = .next t ∧ t.dev.hal.testAccess = true ∧ t.dev.flag Reg.HAL_STAT 3 = true ∧
      t.dev.flag Reg.HAL_STAT 2 = false ∧ t.dev.hal.hierKeys = 0 ∧ t.dev.hal.twinKeys = 0 ∧ t.dev.hal.tlsKey = false ∧
      (t.dev.rd Reg.HAL_CMD_RESULT).toNat = 1 ∧
      Within ([.hal, .temper, .twin] ++ eventParts) (eventPages [Reg.pageHAL, Reg.pageTWN]) s t) ∧
  (∀ (s : State) (signer : CmdSig) (w : Writer), s.Opens Reg.pageHAL 0x080 w → s.dev.flag Reg.HAL_CMD 31 = false →
    s.dev.halServes = true →
    ∃ t, exec (.testAccess signer false w) s = .next t ∧ (t.dev.rd Reg.HAL_CMD_RESULT).toNat = 2 + 2 * 256 ∧
      t.dev.flag (Reg.PG_STICKY Reg.pageHAL) 3 = true ∧ t.dev.hal.testAccess = s.dev.hal.testAccess ∧
      Within (.hal :: eventParts) (eventPages [Reg.pageHAL]) s t) ∧
  (∀ (s : State) (csr : List Byte) (w : Writer), s.Opens Reg.pageHAL 0x080 w → s.dev.flag Reg.HAL_CMD 31 = false →
    s.dev.halServes = true →
    ∃ t, exec (.genTls csr false w) s = .next t ∧ t.dev.hal.tlsKey = true ∧ t.dev.hal.cert = false ∧
      t.dev.hal.store = s.dev.hal.store + 1 ∧ t.dev.temper.salt = true ∧ t.dev.halState = 1 ∧
      (t.dev.rd Reg.HAL_CMD_RESULT).toNat = 1 ∧ t.mem = s.mem.setBytes s.dev.halBuf.1 s.dev.halBuf.2 csr ∧
      Within ([.hal, .temper, .twin] ++ eventParts) (eventPages [Reg.pageHAL, Reg.pageTWN]) { s with mem := t.mem } t) ∧
  (∀ (s : State) (cells : List Host.Cell) (w : Writer), s.Opens Reg.pageHAL 0x080 w → s.dev.flag Reg.HAL_CMD 31 = false →
    s.dev.halServes = true → s.dev.hal.tlsKey = true →
    ∃ t, exec (.certSet true cells w) s = .next t ∧ t.dev.hal.cert = true ∧ t.dev.flag Reg.HAL_STAT 6 = true ∧
      (t.dev.rd Reg.HAL_CMD_RESULT).toNat = 1 ∧ t.mem = s.mem.hostWrote cells ∧
      Within [.hal] [Reg.pageHAL, Reg.pageTMP] { s with mem := t.mem } t) ∧
  (∀ (s : State) (twin : Bool) (session : Fin 8) (k : Fin 4), s.Up → s.dev.hostif.sessions.getD session false = true →
    s.dev.halServes = true → s.dev.ownerSlot k = 1 → s.dev.hal.waiting = [] →
    (s.dev.hal.lastInstall.all fun x => decide (x + 10000000000 ≤ s.dev.nowNs)) = true →
    ∃ t, exec (.keyInstall twin session (some k) false) s = .next t ∧
      t.dev.hal.twinKeys = (if twin then min 2 (s.dev.hal.twinKeys + 1) else s.dev.hal.twinKeys) ∧
      t.dev.hal.hierKeys = (if twin then s.dev.hal.hierKeys else min 2 (s.dev.hal.hierKeys + 1)) ∧ t.dev.halState = 1 ∧
      t.dev.hal.lastInstall = some s.dev.nowNs ∧ t.dev.temper.salt = true ∧ t.dev.flag (Reg.PG_STICKY Reg.pageHAL) 5 = true ∧
      Within ([.hal, .temper, .twin] ++ eventParts) (eventPages [Reg.pageHAL, Reg.pageTWN]) s t) ∧
  (∀ (s : State) (twin : Bool) (session : Fin 8) (k : Fin 4) (x : Nat), s.Up → s.dev.hostif.sessions.getD session false = true →
    s.dev.halServes = true → s.dev.ownerSlot k = 1 → s.dev.hal.lastInstall = some x → s.dev.nowNs < x + 10000000000 →
    ∃ t, exec (.keyInstall twin session (some k) false) s = .next t ∧
      t.dev.hal = { s.dev.hal with waiting := s.dev.hal.waiting ++ [⟨b2n twin, session, k⟩] } ∧ Leaves [.hal] [] s t) ∧
  (∀ (s : State) (x : KeyWait) (l : List KeyWait), s.Up → s.dev.halServes = true → s.dev.hal.waiting = x :: l → x.kind = 0 →
    ∃ t, exec .keyInstallDelayed s = .next t ∧ t.dev.hal.hierKeys = min 2 (s.dev.hal.hierKeys + 1) ∧ t.dev.hal.waiting = l ∧
      t.dev.hal.lastInstall = some s.dev.nowNs ∧ t.dev.halState = 1 ∧
      Within ([.hal, .temper, .twin] ++ eventParts) (eventPages [Reg.pageHAL, Reg.pageTWN]) s t) ∧
  (∀ (s : State), s.Up →
    ∃ t, exec .auditWrRead s = .next t ∧ t.dev.rd64 Reg.HAL_AUDIT_WR_LO Reg.HAL_AUDIT_WR_HI = s.dev.hal.auditNext % 2 ^ 64 ∧
      Leaves [] [Reg.HAL_AUDIT_WR_LO, Reg.HAL_AUDIT_WR_HI] s t)

/-- R706 to R722: chunks are checked and kept, the missing ones named; a package is staged, verified, committed at a coordinate, and
withdrawn or moved while it is armed. -/
def Obligations.UpdatesAreReceivedStagedAndCommitted : Prop :=
  (∀ (s : State) (man : Option Manifest) (cells : List Host.Cell) (w : Writer), s.Opens Reg.pageUPD 0x05C w → s.dev.halState ≠ 2 →
    s.dev.sealing = false → s.dev.fld Reg.UPD_CHUNK_IDX 15 0 = 0 →
    packageHeader ((s.mem.hostWrote cells).bytes (s.dev.flag Reg.UPD_CHUNK_IDX 16) (s.dev.rd64 Reg.UPD_CHUNK_ADDR_LO Reg.UPD_CHUNK_ADDR_HI)
      64) = none →
    ∃ t, exec (.updChunkGo man cells w) s = .next t ∧ (t.dev.rd Reg.UPD_CHUNK_RESULT).toNat = 3 + 1 * 256 ∧
      t.dev.flag Reg.UPD_CHUNK_GO 31 = false ∧ t.dev.flag (Reg.PG_STICKY Reg.pageUPD) 7 = true ∧ t.mem = s.mem.hostWrote cells ∧
      Within eventParts (eventPages [Reg.pageUPD]) { s with mem := t.mem } t) ∧
  (∀ (s : State) (man : Option Manifest) (cells : List Host.Cell) (w : Writer) (pkg c total mlen tlen : Nat),
    s.Opens Reg.pageUPD 0x05C w → s.dev.halState ≠ 2 → s.dev.sealing = false → s.dev.fld Reg.UPD_CHUNK_IDX 15 0 = 0 →
    s.dev.upd.img.state = 0 →
    packageHeader ((s.mem.hostWrote cells).bytes (s.dev.flag Reg.UPD_CHUNK_IDX 16) (s.dev.rd64 Reg.UPD_CHUNK_ADDR_LO Reg.UPD_CHUNK_ADDR_HI)
      (s.dev.chunkLen 0 ((s.mem.hostWrote cells).bytes (s.dev.flag Reg.UPD_CHUNK_IDX 16)
        (s.dev.rd64 Reg.UPD_CHUNK_ADDR_LO Reg.UPD_CHUNK_ADDR_HI) 64))) = some (pkg, c, total, mlen, tlen) →
    chunkSize c < 64 + mlen + tlen →
    ∃ t, exec (.updChunkGo man cells w) s = .next t ∧ (t.dev.rd Reg.UPD_CHUNK_RESULT).toNat = 1 ∧
      t.dev.flag Reg.UPD_CHUNK_GO 31 = false ∧
      t.dev.upd.img = { UpdImage.reset with
        slots := s.dev.upd.img.slots, decision := s.dev.upd.img.decision, pkg := pkg, code := c,
        total := ceilDiv total (chunkSize c), lead := ceilDiv (64 + mlen + tlen) (chunkSize c), held := [0], state := 1 } ∧
      t.mem = s.mem.hostWrote cells ∧ Within updParts updPages { s with mem := t.mem } t) ∧
  (∀ (s : State) (man : Option Manifest) (cells : List Host.Cell) (w : Writer), s.Opens Reg.pageUPD 0x05C w → s.dev.halState ≠ 2 →
    s.dev.sealing = false → s.dev.fld Reg.UPD_CHUNK_IDX 15 0 ≠ 0 → s.dev.upd.img.state ≠ 0 →
    s.dev.upd.img.held.contains (s.dev.fld Reg.UPD_CHUNK_IDX 15 0) = true → s.dev.fld Reg.UPD_CHUNK_IDX 15 0 < s.dev.upd.img.total →
    ∃ t, exec (.updChunkGo man cells w) s = .next t ∧ (t.dev.rd Reg.UPD_CHUNK_RESULT).toNat = 2 ∧ t.mem = s.mem.hostWrote cells ∧
      Leaves [] [Reg.UPD_CHUNK_GO, Reg.UPD_CHUNK_RESULT] { s with mem := t.mem } t) ∧
  (∀ (s : State) (idx : Fin 65536) (w : Writer) (i : Nat), s.Opens Reg.pageUPD 0x06C w → i < 65536 →
    (s.dev.neededChunks s.dev.upd.img).contains i = true → s.dev.upd.img.held.contains i = false → idx.val ≤ i →
    ((s.dev.neededChunks s.dev.upd.img).all fun j => decide (j < idx.val) || s.dev.upd.img.held.contains j || decide (i ≤ j)) = true →
    ∃ t, exec (.updMissNextWrite idx w) s = .next t ∧ (t.dev.rd Reg.UPD_MISS_NEXT).toNat = i ∧ Leaves [] [Reg.UPD_MISS_NEXT] s t) ∧
  (∀ (s : State) (idx : Fin 65536) (w : Writer), s.Opens Reg.pageUPD 0x06C w →
    ((s.dev.neededChunks s.dev.upd.img).all fun j => decide (j < idx.val) || s.dev.upd.img.held.contains j) = true →
    ∃ t, exec (.updMissNextWrite idx w) s = .next t ∧ t.dev.rd Reg.UPD_MISS_NEXT = 0x80000000 ∧ Leaves [] [Reg.UPD_MISS_NEXT] s t) ∧
  (∀ (s : State) (w : Writer) (m : Manifest), s.Opens Reg.pageUPD 0x070 w → s.dev.sealing = false → s.dev.halState ≠ 2 →
    (s.dev.upd.img.state = 1 ∨ s.dev.upd.img.state = 9) → s.dev.flag Reg.DDR_STAT 9 = false → s.dev.upd.img.manifest = some m →
    s.dev.chunksComplete = true → s.dev.updDriver = true →
    ∃ t, exec (.updStage w) s = .next t ∧ t.dev.upd.img = { s.dev.upd.img with state := 2, part := 0 } ∧
      t.dev.upd.devs = (manNamed m).map (fun x => ⟨x.1, x.2, 0, 0, true, false, 0⟩) ∧ (t.dev.rd Reg.UPD_CMD_RESULT).toNat = 1 ∧
      Within (.temper :: updParts) (Reg.pageCRU :: updPages) s t) ∧
  (∀ (s : State) (w : Writer), s.Opens Reg.pageUPD 0x070 w → s.dev.sealing = false → s.dev.halState ≠ 2 →
    s.dev.upd.img.state = 1 → s.dev.flag Reg.DDR_STAT 9 = false → s.dev.chunksComplete = false →
    ∃ t, exec (.updStage w) s = .next t ∧ (t.dev.rd Reg.UPD_CMD_RESULT).toNat = 2 + 9 * 256 ∧ t.dev.fld Reg.UPD_STAT 15 8 = 9 ∧
      t.dev.flag Reg.UPD_CMD 31 = false ∧ Leaves [] [Reg.UPD_CMD, Reg.UPD_CMD_RESULT, Reg.UPD_STAT] s t) ∧
  (∀ (s : State), s.Up → s.dev.upd.img.state = 2 →
    ∃ t, exec (.updVerifyDone none) s = .next t ∧ t.dev.upd.img.state = 3 ∧
      t.dev.upd.fwVer = s.dev.upd.fwVer.set (slotOf s.dev.upd.img.slots 2) s.dev.newVer ∧
      t.dev.flag (Reg.PG_STICKY Reg.pageUPD) 0 = true ∧ Within updParts updPages s t) ∧
  (∀ (s : State) (part : Fin 16), s.Up → s.dev.upd.img.state = 2 →
    ∃ t, exec (.updVerifyDone (some part)) s = .next t ∧ t.dev.upd.img = { s.dev.upd.img with state := 9, part := part } ∧
      t.dev.fld Reg.UPD_STAT 7 4 = part ∧ Within updParts updPages s t) ∧
  (∀ (s : State) (w : Writer), s.Opens Reg.pageUPD 0x070 w → s.dev.sealing = false → s.dev.halState ≠ 2 → s.dev.updDriver = true →
    s.dev.updReady = true →
    ∃ t, exec (.updCommit none w) s = .next t ∧
      t.dev.upd.img = { s.dev.upd.img with state := 4, coord := some (s.dev.updFrame + s.dev.live Reg.UPD_LEAD 15 0, s.dev.updTp, false) } ∧
      (t.dev.rd Reg.UPD_CMD_RESULT).toNat = 1 ∧ t.dev.flag Reg.UPD_CMD 31 = false ∧ Within updParts updPages s t) ∧
  (∀ (s : State) (k : Fin 16) (w : Writer), s.Opens Reg.pageUPD 0x070 w → s.dev.sealing = false → s.dev.halState ≠ 2 →
    s.dev.updDriver = true → s.dev.planeOn (s.dev.cslotTp k) = true → s.dev.updReady = true →
    s.dev.cslotF k < s.dev.updFrame + s.dev.live Reg.UPD_LEAD 15 0 →
    ∃ t, exec (.updCommit (some k) w) s = .next t ∧ (t.dev.rd Reg.UPD_CMD_RESULT).toNat = 2 + 11 * 256 ∧
      t.dev.fld Reg.UPD_STAT 15 8 = 11 ∧ Leaves [] [Reg.UPD_CMD, Reg.UPD_CMD_RESULT, Reg.UPD_STAT] s t) ∧
  (∀ (s : State) (w : Writer) (f tp : Nat), s.Opens Reg.pageUPD 0x070 w → s.dev.sealing = false → s.dev.updDriver = true →
    s.dev.upd.img.state = 4 → s.dev.upd.img.coord = some (f, tp, false) → s.dev.updFrame + 2 ≤ f →
    ∃ t, exec (.updCancel w) s = .next t ∧ t.dev.upd.img = { s.dev.upd.img with state := 3, coord := none } ∧
      (t.dev.rd Reg.UPD_CMD_RESULT).toNat = 1 ∧ Within updParts updPages s t) ∧
  (∀ (s : State) (f tp : Nat), s.Up → s.dev.updDriver = true → s.dev.upd.img.state = 4 → s.dev.upd.img.coord = some (f, tp, false) →
    (s.dev.upd.devs.all fun x => !x.named || x.acked) = false → s.dev.upd.tries < 8 →
    ∃ t, exec .updAckDeadline s = .next t ∧ t.dev.upd.tries = s.dev.upd.tries + 1 ∧
      t.dev.upd.img = { s.dev.upd.img with coord := some (f + s.dev.live Reg.UPD_LEAD 15 0, s.dev.updTp, false) } ∧
      Within updParts updPages s t) ∧
  (∀ (s : State) (f tp : Nat), s.Up → s.dev.updDriver = true → s.dev.upd.img.state = 4 → s.dev.upd.img.coord = some (f, tp, false) →
    (s.dev.upd.devs.all fun x => !x.named || x.acked) = false → 8 ≤ s.dev.upd.tries →
    ∃ t, exec .updAckDeadline s = .next t ∧ t.dev.upd.img = { s.dev.upd.img with state := 3, coord := none } ∧
      (t.dev.rd Reg.UPD_CMD_RESULT).toNat = 2 + 12 * 256 ∧ Within updParts updPages s t) ∧
  (∀ (s : State) (w : Writer), s.Opens Reg.pageUPD 0x070 w → s.dev.sealing = false → s.dev.upd.img.state = 1 →
    ∃ t, exec (.updAbort w) s = .next t ∧
      t.dev.upd.img = { UpdImage.reset with slots := s.dev.upd.img.slots, decision := s.dev.upd.img.decision } ∧
      t.dev.upd.chunks = [] ∧ (t.dev.rd Reg.UPD_CMD_RESULT).toNat = 1 ∧ Within updParts updPages s t) ∧
  (∀ (s : State) (w : Writer), s.Opens Reg.pageUPD 0x070 w → s.dev.sealing = false → s.dev.upd.img.state ≠ 1 →
    ∃ t, exec (.updAbort w) s = .next t ∧ (t.dev.rd Reg.UPD_CMD_RESULT).toNat = 2 + 3 * 256 ∧
      Leaves [] [Reg.UPD_CMD, Reg.UPD_CMD_RESULT, Reg.UPD_STAT] s t)

/-- R720 to R725, R727: the commit coordinate switches to the new images; the probation ends in a finalisation, a rollback or
UNDECIDED. -/
def Obligations.UpdatesSwitchProveAndRollBack : Prop :=
  (∀ (s : State) (f tp : Nat), s.Up → s.dev.upd.img.state = 4 → s.dev.upd.img.coord = some (f, tp, false) → s.dev.updNamed = true →
    ∃ t, exec .updCommitCoordinate s = .next t ∧ t.dev.upd.img = { s.dev.upd.img with state := 5, probStart := some s.dev.nowNs } ∧
      t.dev.upd.restart = 1 ∧ t.dev.halState = 0 ∧ t.dev.hostif.sessions = List.replicate 8 false ∧
      t.dev.fld Reg.UPD_PROB_REMAIN 15 0 = s.dev.live Reg.UPD_CFG 31 16 ∧ t.dev.flag (Reg.PG_STICKY Reg.pageUPD) 1 = true ∧
      Within (.twin :: updParts) (Reg.pageTWN :: updPages) s t) ∧
  (∀ (s : State), s.Up → s.dev.upd.restart = 1 → s.dev.upd.img.state = 5 →
    ∃ t, exec .updRestartDone s = .next t ∧ t.dev.upd.img.state = 6 ∧ t.dev.upd.restart = 0 ∧ t.dev.upd.bankB = true ∧
      t.dev.rd Reg.UPD_RUN_VER = BitVec.ofNat 32 s.dev.newVer ∧ Within updParts updPages s t) ∧
  (∀ (s : State), s.Up → s.dev.upd.restart = 2 →
    ∃ t, exec .updRestartDone s = .next t ∧
      t.dev.upd.img = { s.dev.upd.img with state := 3, coord := none, probStart := none } ∧ t.dev.upd.restart = 0 ∧
      t.dev.upd.bankB = false ∧ t.dev.fld Reg.UPD_PROB_REMAIN 15 0 = 0 ∧ t.dev.flag (Reg.PG_STICKY Reg.pageUPD) 3 = true ∧
      Within updParts updPages s t) ∧
  (∀ (s : State) (w : Writer), s.Opens Reg.pageUPD 0x070 w → s.dev.sealing = false → s.dev.upd.img.state = 6 →
    s.dev.updDriver = true → s.dev.upd.img.coord = none →
    ∃ t, exec (.updFail w) s = .next t ∧ t.dev.upd.img.state = 7 ∧
      t.dev.upd.img.coord = some (s.dev.updFrame + s.dev.live Reg.UPD_LEAD 31 16, s.dev.updTp, true) ∧
      (t.dev.rd Reg.UPD_CMD_RESULT).toNat = 1 ∧ t.dev.flag (Reg.PG_STICKY Reg.pageUPD) 2 = true ∧ Within updParts updPages s t) ∧
  (∀ (s : State) (w : Writer), s.Opens Reg.pageUPD 0x070 w → s.dev.sealing = false → s.dev.upd.img.state ≠ 6 →
    ∃ t, exec (.updFail w) s = .next t ∧ (t.dev.rd Reg.UPD_CMD_RESULT).toNat = 2 + 3 * 256 ∧
      Leaves [] [Reg.UPD_CMD, Reg.UPD_CMD_RESULT, Reg.UPD_STAT] s t) ∧
  (∀ (s : State), s.Up → s.dev.updDriver = true → s.dev.upd.img.state = 6 → s.dev.upd.img.coord = none →
    (s.dev.upd.devs.any fun x => x.named && x.ver != s.dev.newVer) = true →
    ∃ t, exec .updVersionDeadline s = .next t ∧ t.dev.upd.img.state = 7 ∧
      t.dev.upd.img.coord = some (s.dev.updFrame + s.dev.live Reg.UPD_LEAD 31 16, s.dev.updTp, true) ∧ Within updParts updPages s t) ∧
  (∀ (s : State), s.Up → s.dev.upd.img.state = 7 → s.dev.upd.bankB = true →
    ∃ t, exec .rollbackCoordinate s = .next t ∧ t.dev.upd.img.state = 5 ∧ t.dev.upd.restart = 2 ∧ t.dev.halState = 0 ∧
      t.dev.hostif.sessions = List.replicate 8 false ∧ Within (.twin :: updParts) (Reg.pageTWN :: updPages) s t) ∧
  (∀ (s : State), s.Up → s.dev.upd.img.state = 7 → s.dev.upd.bankB = false → s.dev.upd.restart = 0 →
    ∃ t, exec .rollbackCoordinate s = .next t ∧
      t.dev.upd.img = { s.dev.upd.img with state := 3, coord := none, probStart := none } ∧
      t.dev.flag (Reg.PG_STICKY Reg.pageUPD) 3 = true ∧ Within updParts updPages s t) ∧
  (∀ (s : State) (f : Nat), s.Up → s.dev.upd.localF = some f → f ≤ s.dev.updFrame → s.dev.upd.bankB = true →
    ∃ t, exec .localRollback s = .next t ∧ t.dev.upd.localF = none ∧ t.dev.upd.restart = 3 ∧ t.dev.upd.img.state = 5 ∧
      t.dev.halState = 0 ∧ t.dev.flag (Reg.PG_STICKY Reg.pageUPD) 6 = true ∧
      Within (.twin :: updParts) (Reg.pageTWN :: updPages) s t) ∧
  (∀ (s : State), s.Up → s.dev.upd.img.state = 6 → (s.dev.updDriver = false ∨ s.dev.liveFlag Reg.UPD_CFG 4 = false) →
    ∃ t, exec .probationEnd s = .next t ∧ t.dev.fld Reg.UPD_PROB_REMAIN 15 0 = 0 ∧ Leaves [] [Reg.UPD_PROB_REMAIN] s t) ∧
  (∀ (s : State), s.Up → s.dev.upd.img.state = 6 → s.dev.updDriver = true → s.dev.liveFlag Reg.UPD_CFG 4 = true →
    ∃ t, exec .probationEnd s = .next t ∧ t.dev.upd.img.state = 0 ∧
      t.dev.upd.img.slots = (if s.dev.updNamed then finalSlots s.dev.upd.img.slots else s.dev.upd.img.slots) ∧ t.dev.upd.bankB = false ∧
      t.dev.upd.chunks = [] ∧ t.dev.fld Reg.HAL_SLOTS 15 8 =
        min (max (s.dev.fld Reg.HAL_SLOTS 15 8) ((s.dev.upd.img.manifest.map Manifest.svn).getD 0)) 64 ∧
      t.dev.flag (Reg.PG_STICKY Reg.pageUPD) 4 = true ∧ Within updParts updPages s t) ∧
  (∀ (s : State), s.Up → s.dev.upd.img.state = 6 → s.dev.fld Reg.UPD_PROB_REMAIN 15 0 = 0 →
    ∃ t, exec .undecided s = .next t ∧ t.dev.upd.img = { s.dev.upd.img with state := 8 } ∧
      t.dev.flag (Reg.PG_STICKY Reg.pageUPD) 5 = true ∧ Within updParts updPages s t) ∧
  (∀ (s : State) (w : Writer), s.Opens Reg.pageUPD 0x070 w → s.dev.sealing = false → s.dev.upd.img.state = 8 →
    ∃ t, exec (.updFinalise w) s = .next t ∧ t.dev.upd.img.state = 0 ∧ (t.dev.rd Reg.UPD_CMD_RESULT).toNat = 1 ∧
      t.dev.flag (Reg.PG_STICKY Reg.pageUPD) 4 = true ∧ Within updParts updPages s t) ∧
  (∀ (s : State) (w : Writer), s.Opens Reg.pageUPD 0x070 w → s.dev.sealing = false → s.dev.upd.img.state = 8 →
    s.dev.upd.bankB = true →
    ∃ t, exec (.updRollback w) s = .next t ∧ t.dev.upd.img.state = 5 ∧ t.dev.upd.restart = 2 ∧ t.dev.halState = 0 ∧
      (t.dev.rd Reg.UPD_CMD_RESULT).toNat = 1 ∧ Within (.twin :: updParts) (Reg.pageTWN :: updPages) s t)

/-- R716 to R725: the update messages. A worker stages, arms, withdraws, rolls back and finalises as its manager says; the manager
notes what its workers report, and answers a request for a decision. -/
def Obligations.UpdateMessagesCarryTheUpdate : Prop :=
  (∀ (s : State) (lane : Fin 192) (h : TongsHead) (tag : TagCheck) (u : UpdateMsg), s.Takes h tag → s.FromManager h →
    u.pkg = s.dev.upd.img.pkg → (s.dev.upd.img.state = 1 ∨ s.dev.upd.img.state = 9) → s.dev.flag Reg.DDR_STAT 9 = false →
    s.dev.upd.img.manifest.isSome = true → s.dev.chunksComplete = true →
    ∃ t, exec (.updStageMsg lane h tag u) s = .next t ∧ t.dev.upd.img = { s.dev.upd.img with state := 2, part := 0 } ∧
      Within ([.temper, .freeCount] ++ updParts) (Reg.pageCRU :: updPages) s t) ∧
  (∀ (s : State) (lane : Fin 192) (h : TongsHead) (tag : TagCheck) (u : UpdateMsg), s.Takes h tag → s.FromManager h →
    u.pkg = s.dev.upd.img.pkg → (s.dev.upd.img.state = 3 ∨ s.dev.upd.img.state = 4) → s.dev.roleConfirmed = true →
    ∃ t, exec (.updCommitMsg lane h tag u) s = .next t ∧
      t.dev.upd.img = { s.dev.upd.img with state := 4, coord := some (u.f, u.tp, false) } ∧
      ((t.dev.peer h.srcPos).unacked.map fun x => x.msg.body) = [.update ⟨5, 0, 0, u.pkg, 0, 0, 0⟩] ∧
      Within (.freeCount :: updParts) updPages s t) ∧
  (∀ (s : State) (lane : Fin 192) (h : TongsHead) (tag : TagCheck) (u : UpdateMsg), s.Takes h tag → s.FromManager h →
    u.pkg = s.dev.upd.img.pkg → s.dev.upd.img.state = 4 → u.f = 0 →
    ∃ t, exec (.updCancelMsg lane h tag u) s = .next t ∧ t.dev.upd.img = { s.dev.upd.img with state := 3, coord := none } ∧
      Within (.freeCount :: updParts) updPages s t) ∧
  (∀ (s : State) (lane : Fin 192) (h : TongsHead) (tag : TagCheck) (u : UpdateMsg), s.Takes h tag → s.FromManager h →
    u.pkg = s.dev.upd.img.pkg → (s.dev.upd.img.state = 4 ∨ s.dev.upd.img.state = 5 ∨ s.dev.upd.img.state = 6 ∨ s.dev.upd.img.state = 8) →
    ∃ t, exec (.updRollbackMsg lane h tag u) s = .next t ∧
      t.dev.upd.img = { s.dev.upd.img with state := 7, coord := some (u.f, u.tp, true) } ∧
      Within (.freeCount :: updParts) updPages s t) ∧
  (∀ (s : State) (lane : Fin 192) (h : TongsHead) (tag : TagCheck) (u : UpdateMsg), s.Takes h tag → s.FromManager h →
    u.pkg = s.dev.upd.img.pkg → (s.dev.upd.img.state = 6 ∨ s.dev.upd.img.state = 8) →
    ∃ t, exec (.updFinaliseMsg lane h tag u) s = .next t ∧ t.dev.upd.img.state = 0 ∧ t.dev.upd.bankB = false ∧
      t.dev.flag (Reg.PG_STICKY Reg.pageUPD) 4 = true ∧ Within (.freeCount :: updParts) updPages s t) ∧
  (∀ (s : State) (lane : Fin 192) (h : TongsHead) (tag : TagCheck) (u : UpdateMsg), s.Takes h tag → s.AtManager h →
    u.pkg = s.dev.upd.img.pkg →
    ∃ t, exec (.updReadyMsg lane h tag u) s = .next t ∧
      t.dev.upd.devs = s.dev.upd.devs.map (fun x => if x.pos = h.srcPos.val then { x with state := 3, ver := u.ver } else x) ∧
      Within [.hie, .journal, .upd, .freeCount] [Reg.pageUPD, Reg.pageTMP] s t) ∧
  (∀ (s : State) (lane : Fin 192) (h : TongsHead) (tag : TagCheck) (u : UpdateMsg), s.Takes h tag → s.AtManager h →
    u.pkg = s.dev.upd.img.pkg →
    ∃ t, exec (.updStageFailedMsg lane h tag u) s = .next t ∧
      t.dev.upd.devs = s.dev.upd.devs.map (fun x => if x.pos = h.srcPos.val then { x with state := 9, reason := u.reason } else x) ∧
      Within [.hie, .journal, .upd, .freeCount] [Reg.pageUPD, Reg.pageTMP] s t) ∧
  (∀ (s : State) (lane : Fin 192) (h : TongsHead) (tag : TagCheck) (u : UpdateMsg), s.Takes h tag → s.AtManager h →
    u.pkg = s.dev.upd.img.pkg →
    ∃ t, exec (.updArmedMsg lane h tag u) s = .next t ∧
      t.dev.upd.devs = s.dev.upd.devs.map (fun x => if x.pos = h.srcPos.val then { x with state := 4, acked := true } else x) ∧
      Within [.hie, .journal, .upd, .freeCount] [Reg.pageUPD, Reg.pageTMP] s t) ∧
  (∀ (s : State) (lane : Fin 192) (h : TongsHead) (tag : TagCheck) (u : UpdateMsg), s.Takes h tag → s.AtManager h →
    u.pkg = s.dev.upd.img.pkg → s.dev.upd.img.state = 6 → s.dev.upd.img.coord = none →
    ∃ t, exec (.updFailMsg lane h tag u) s = .next t ∧ t.dev.upd.img.state = 7 ∧
      t.dev.upd.img.coord = some (s.dev.updFrame + s.dev.live Reg.UPD_LEAD 31 16, s.dev.updTp, true) ∧
      Within (.freeCount :: updParts) updPages s t) ∧
  (∀ (s : State) (lane : Fin 192) (h : TongsHead) (tag : TagCheck) (u : UpdateMsg), s.Takes h tag → s.AtManager h →
    u.pkg = s.dev.upd.img.pkg → s.dev.upd.img.state ≠ 3 →
    ∃ t, exec (.updVersionMsg lane h tag u) s = .next t ∧
      t.dev.upd.devs = s.dev.upd.devs.map (fun x => if x.pos = h.srcPos.val then
        { x with state := if u.ver = s.dev.newVer then 6 else 3, ver := u.ver } else x) ∧
      Within [.hie, .journal, .upd, .freeCount] [Reg.pageUPD, Reg.pageTMP] s t) ∧
  (∀ (s : State) (lane : Fin 192) (h : TongsHead) (tag : TagCheck) (u : UpdateMsg) (l : List (Nat × Nat)), s.Takes h tag →
    s.AtManager h → s.dev.roleConfirmed = true → s.dev.upd.img.decision = some (true, l) →
    ∃ t, exec (.updDecisionReqMsg lane h tag u) s = .next t ∧
      ((t.dev.peer h.srcPos).unacked.map fun x => x.msg.body) = [.update ⟨9, 0, 0, s.dev.upd.img.pkg, 0, 0, 0⟩] ∧
      Within [.hie, .journal, .outbox, .freeCount] [Reg.pageTMP] s t)

/-- R732 to R755: PWR_GOOD and RESET_N put the device in reset; its release latches the straps and runs the boot chain, which tries
the copies and slots in order and halts where none verifies; the Chart is chosen and state restored; a warm reset boots again; the
control cores and the PCI Express endpoint restart alone. -/
def Obligations.ResetsAndTheBootChain : Prop :=
  (∀ (s : State), s.dev.power.run = .held →
    ∃ t, exec .pwrGoodRise s = .next t ∧ t.dev.power.run = .held ∧ t.dev.power.good = true ∧
      t.dev.power.cause = s.dev.power.cause ∧ t.dev.journal.ring = s.dev.journal.ring ∧ t.dev.temper.ckpts = s.dev.temper.ckpts ∧
      t.dev.time = s.dev.time ∧ t.mem.dram = [] ∧ t.mem.host = s.mem.host ∧ t.pending = s.pending) ∧
  (∀ (s : State), s.dev.power.run = .off →
    ∃ t, exec .pwrGoodRise s = .next t ∧ t.dev.power = { s.dev.power with good := true } ∧ Leaves [.power] [] { s with mem := t.mem } t) ∧
  (∀ (s : State), s.Up →
    ∃ t, exec .pwrGoodLoss s = .next t ∧ t.dev.power.run = .held ∧ t.dev.power.good = false ∧ t.dev.power.cause = 2 ∧
      t.dev.journal.ring = s.dev.journal.ring ∧ t.dev.temper.ckpts = s.dev.temper.ckpts ∧ t.pending = s.pending ∧ t.mem = s.mem) ∧
  (∀ (s : State), s.dev.power.run = .off →
    ∃ t, exec .pwrGoodLoss s = .next t ∧ t.dev.power = { s.dev.power with good := false } ∧ Leaves [.power] [] s t) ∧
  (∀ (s : State), s.Up →
    ∃ t, exec .resetNAssert s = .next t ∧ t.dev.power.run = .held ∧ t.dev.power.good = s.dev.power.good ∧ t.dev.power.cause = 1 ∧
      t.dev.ptp.aonBase = some s.dev.time ∧ t.dev.journal.ring = s.dev.journal.ring ∧ t.dev.temper.ckpts = s.dev.temper.ckpts ∧
      t.pending = s.pending ∧ t.mem = s.mem) ∧
  (∀ (s : State), (s.dev.power.run = .off ∨ s.dev.power.run = .held) → exec .resetNAssert s = .next s) ∧
  (∀ (s : State) (x : Straps) (find : BootFind), s.dev.power.run = .held → s.dev.power.good = true → x.bootSrc = 0 →
    find.stageA = true → find.running = true →
    ∃ t, exec (.resetNRelease x find) s = .next t ∧ t.dev.power.run = .up ∧ t.dev.power.boot = 1 ∧
      (t.dev.rd Reg.SYS_BOOT_STAT).toNat = x.slotId * 65536 + b2n x.twinPref * 16777216 ∧
      t.dev.rd Reg.SYS_RESET_CAUSE = BitVec.ofNat 32 s.dev.power.cause ∧
      ((List.range 12).all fun i => decide (t.dev.rd (Reg.HAL_MEAS i) = find.meas.getD i 0)) = true ∧
      t.dev.fld Reg.SYS_BOOT_TIME 15 0 = min find.ms 65535 ∧ t.dev.flag Reg.TWN_STAT 3 = !x.twinPref ∧ t.pending = s.pending ∧
      t.mem = s.mem) ∧
  (∀ (s : State) (x : Straps) (find : BootFind), s.dev.power.run = .held → s.dev.power.good = true → x.bootSrc = 0 →
    find.stageA = false → find.stageB = true → find.running = false → find.previous = true →
    ∃ t, exec (.resetNRelease x find) s = .next t ∧ t.dev.power.run = .up ∧
      (t.dev.rd Reg.SYS_BOOT_STAT).toNat = 4 + 1 * 16 + x.slotId * 65536 + b2n x.twinPref * 16777216 ∧
      t.dev.flag (Reg.PG_STICKY Reg.pageSYS) 8 = true ∧ t.pending = s.pending ∧ t.mem = s.mem) ∧
  (∀ (s : State) (x : Straps) (find : BootFind), s.dev.power.run = .held → s.dev.power.good = true →
    find.stageA = false → find.stageB = false →
    ∃ t, exec (.resetNRelease x find) s = .next t ∧ t.dev.power.run = .halted ∧ t.dev.flag Reg.SYS_BOOT_STAT 6 = true ∧
      t.pending = s.pending ∧ t.mem = s.mem) ∧
  (∀ (s : State) (x : Straps) (find : BootFind), s.dev.power.good = false → exec (.resetNRelease x find) s = .next s) ∧
  (∀ (s : State) (ticks : Option Nat) (silent : List (Fin 8)), s.Up → s.dev.power.boot = 1 → s.dev.chartCopies = [] →
    ∃ t, exec (.chartChoose ticks silent) s = .next t ∧ t.dev.power.boot = 2 ∧ t.dev.hostif.chart = none ∧
      t.dev.flag Reg.SYS_BOOT_STAT 7 = true ∧ t.dev.flag (Reg.PG_STICKY Reg.pageSYS) 9 = true ∧ t.pending = s.pending ∧
      t.mem = s.mem) ∧
  (∀ (s : State) (ticks : Option Nat) (silent : List (Fin 8)) (n : Nat) (c : Chart), s.Up → s.dev.power.boot = 1 →
    s.dev.chartCopies = [(n, c)] →
    ∃ t, exec (.chartChoose ticks silent) s = .next t ∧ t.dev.power.boot = 2 ∧ t.dev.hostif.chart = some c ∧
      t.pending = s.pending ∧ t.mem = s.mem) ∧
  (∀ (s : State) (failed : List (Fin 8)) (ms : Nat), s.Up → s.dev.power.boot = 2 →
    ∃ t, exec (.restoreComplete failed ms) s = .next t ∧ t.dev.power.boot = 0 ∧ t.dev.fld Reg.SYS_BOOT_TIME 31 16 = min ms 65535 ∧
      t.dev.fld Reg.CRU_STAT 8 0 = 0x1FF ∧ t.pending = s.pending ∧ t.mem = s.mem) ∧
  (∀ (s : State) (find : BootFind) (w : Writer), s.Opens Reg.pageSYS 0x208 w → s.dev.fld Reg.SYS_BOOT_STAT 1 0 = 0 →
    find.stageA = true → find.running = true →
    ∃ t, exec (.sysResetWarm find w) s = .next t ∧ t.dev.power.run = .up ∧ t.dev.power.boot = 1 ∧ t.dev.rd Reg.SYS_RESET_CAUSE = 3 ∧
      t.dev.journal.ring = s.dev.journal.ring ∧ t.dev.hostif.sessions = List.replicate 8 false ∧ t.pending = s.pending ∧
      t.mem = s.mem) ∧
  (∀ (s : State) (w : Writer), s.Opens Reg.pageSYS 0x208 w → s.dev.power.cores = false →
    ∃ t, exec (.sysResetCores w) s = .next t ∧ t.dev.power.cores = true ∧ t.dev.rd Reg.SYS_RESET_CTRL = 0x80000004 ∧
      t.dev.hostif.sessions = List.replicate 8 false ∧ t.pending = s.pending ∧ t.mem = s.mem) ∧
  (∀ (s : State), s.Up → s.dev.power.cores = true →
    ∃ t, exec .coreRestartDone s = .next t ∧ t.dev.power = { s.dev.power with cores := false } ∧
      t.dev.flag Reg.SYS_RESET_CTRL 31 = false ∧ Leaves [.power] [Reg.SYS_RESET_CTRL] s t) ∧
  (∀ (s : State), s.Up → (s.dev.dram.flight.all fun x => x.2.master != 0) = true →
    ∃ t, exec .endpointReset s = .next t ∧ t.dev.hostif = { s.dev.hostif with msgEnable := false, msixTable := [], pba := 0 } ∧
      t.dev.flag Reg.SYS_RESET_CAUSE 8 = true ∧ Leaves [.hostif, .dram] [Reg.SYS_RESET_CAUSE] s t)
end

