-- ==== Sys2Proof/Laws/Bits.lean ====
section
/-!
SUPPORT. Laws of bit fields: reading a field after it is replaced, and a field or bit apart from the one replaced.
-/

namespace Sys2Proof.Machine

/-- Bit i of a field's mask: set from lo to hi. -/
theorem fieldMask_getLsbD (hi lo i : Nat) (h : lo ≤ hi) (h32 : hi < 32) :
    (fieldMask hi lo).getLsbD i = (decide (lo ≤ i) && decide (i ≤ hi)) := by
  unfold fieldMask
  rw [BitVec.getLsbD_ofNat]
  have h1 : (2 ^ (hi + 1 - lo) - 1) * 2 ^ lo = (2 ^ (hi + 1 - lo) - 1) <<< lo := by rw [Nat.shiftLeft_eq]
  rw [h1, Nat.testBit_shiftLeft, Nat.testBit_two_pow_sub_one]
  by_cases a : lo ≤ i <;> by_cases b : i ≤ hi <;> simp [a, b] <;> omega

/-- Bit i of a word with the field [hi:lo] replaced. -/
theorem setBits_getLsbD (w : Word) (hi lo v i : Nat) (h : lo ≤ hi) (h32 : hi < 32) :
    (setBits w hi lo v).getLsbD i = if lo ≤ i ∧ i ≤ hi then v.testBit (i - lo) else w.getLsbD i := by
  unfold setBits
  rw [BitVec.getLsbD_or, BitVec.getLsbD_and, BitVec.getLsbD_not, fieldMask_getLsbD hi lo i h h32, BitVec.getLsbD_ofNat]
  have h1 : (v % 2 ^ (hi + 1 - lo)) * 2 ^ lo = (v % 2 ^ (hi + 1 - lo)) <<< lo := by rw [Nat.shiftLeft_eq]
  rw [h1, Nat.testBit_shiftLeft, Nat.testBit_mod_two_pow]
  by_cases a : lo ≤ i
  · by_cases b : i ≤ hi
    · have e1 : decide (i < 32) = true := by simp; omega
      have e2 : decide (i - lo < hi + 1 - lo) = true := by simp; omega
      simp [a, b, e1, e2]
    · have e2 : decide (i - lo < hi + 1 - lo) = false := by simp; omega
      by_cases c : i < 32
      · simp [a, b, c, e2]
      · simp [a, b, e2, BitVec.getLsbD_of_ge w i (by omega)]
  · by_cases c : i < 32
    · simp [a, c]
    · simp [a, BitVec.getLsbD_of_ge w i (by omega)]

/-- The bits of a field's number. -/
theorem bits_testBit (w : Word) (hi lo i : Nat) :
    (bits w hi lo).testBit i = (decide (i < hi + 1 - lo) && w.getLsbD (lo + i)) := by
  unfold bits
  rw [Nat.testBit_mod_two_pow, ← Nat.shiftRight_eq_div_pow, Nat.testBit_shiftRight, BitVec.testBit_toNat]

/-- A field is less than two to its width. -/
theorem bits_lt (w : Word) (hi lo : Nat) : bits w hi lo < 2 ^ (hi + 1 - lo) := Nat.mod_lt _ (by positivity)

/-- A replaced field reads the value stored, modulo its width. -/
theorem bits_setBits_self (w : Word) (hi lo v : Nat) (h : lo ≤ hi) (h32 : hi < 32) :
    bits (setBits w hi lo v) hi lo = v % 2 ^ (hi + 1 - lo) := by
  apply Nat.eq_of_testBit_eq
  intro i
  rw [bits_testBit, setBits_getLsbD w hi lo v _ h h32, Nat.testBit_mod_two_pow]
  by_cases a : i < hi + 1 - lo
  · simp [a]; intro hh; omega
  · simp [a]

/-- Replacing a field leaves every field apart from it alone. -/
theorem bits_setBits_apart (w : Word) (hi lo v hi' lo' : Nat) (h : lo ≤ hi) (h32 : hi < 32)
    (ha : hi' < lo ∨ hi < lo') : bits (setBits w hi lo v) hi' lo' = bits w hi' lo' := by
  apply Nat.eq_of_testBit_eq
  intro i
  rw [bits_testBit, bits_testBit, setBits_getLsbD w hi lo v _ h h32]
  by_cases a : i < hi' + 1 - lo'
  · rw [if_neg (by omega)]
  · simp [a]

/-- The bit stored. -/
theorem bit_setBits_self (w : Word) (n : Nat) (b : Bool) (h : n < 32) : bit (setBits w n n (b2n b)) n = b := by
  unfold bit
  rw [setBits_getLsbD w n n _ _ le_rfl h]
  cases b <;> simp [b2n]

/-- Replacing a field leaves a bit apart from it alone. -/
theorem bit_setBits_apart (w : Word) (hi lo v n : Nat) (h : lo ≤ hi) (h32 : hi < 32) (ha : n < lo ∨ hi < n) :
    bit (setBits w hi lo v) n = bit w n := by
  unfold bit
  rw [setBits_getLsbD w hi lo v _ h h32, if_neg (by omega)]

/-- A one-bit field is its bit. -/
theorem bits_one (w : Word) (n : Nat) : bits w n n = b2n (bit w n) := by
  apply Nat.eq_of_testBit_eq
  intro i
  rw [bits_testBit]
  unfold bit b2n
  cases i with
  | zero => cases w.getLsbD n <;> simp
  | succ i => cases w.getLsbD n <;> simp [Nat.testBit_succ]

end Sys2Proof.Machine
end

