-- ==== Sys2Proof/Laws/Sparse.lean ====
section
/-!
SUPPORT. Laws of sparse storage: a read after a write gives the value written, a write leaves every other key alone,
and a write keeps the canonical form.
-/

namespace Sys2Proof.Machine.Sparse

variable {α : Type} [DecidableEq α] (dflt : Nat → α)

theorem get_filter_ne (l : List (Nat × α)) (k j : Nat) (h : j ≠ k) :
    get dflt (l.filter fun p => p.1 != k) j = get dflt l j := by
  induction l with
  | nil => rfl
  | cons p t ih =>
    obtain ⟨i, v⟩ := p
    by_cases hik : i = k
    · subst hik; simp [get, h, ih]
    · simp [hik, get, ih]

theorem get_filter_self (l : List (Nat × α)) (k : Nat) :
    get dflt (l.filter fun p => p.1 != k) k = dflt k := by
  induction l with
  | nil => rfl
  | cons p t ih =>
    obtain ⟨i, v⟩ := p
    by_cases hik : i = k
    · subst hik; simpa using ih
    · have : ¬ k = i := fun h => hik h.symm
      simp [hik, get, this, ih]

theorem get_insert_ne (l : List (Nat × α)) (k j : Nat) (v : α) (h : j ≠ k) :
    get dflt (insert k v l) j = get dflt l j := by
  induction l with
  | nil => simp [insert, get, h]
  | cons p t ih =>
    obtain ⟨i, w⟩ := p
    by_cases hki : k < i
    · simp [insert, hki, get, h]
    · simp [insert, hki, get, ih]

theorem get_insert_self (l : List (Nat × α)) (k : Nat) (v : α) (h : ∀ p ∈ l, p.1 ≠ k) :
    get dflt (insert k v l) k = v := by
  induction l with
  | nil => simp [insert, get]
  | cons p t ih =>
    obtain ⟨i, w⟩ := p
    have hi : k ≠ i := fun e => h (i, w) (by simp) e.symm
    have ht : ∀ p ∈ t, p.1 ≠ k := fun p hp => h p (by simp [hp])
    by_cases hki : k < i
    · simp [insert, hki, get]
    · simp [insert, hki, get, hi, ih ht]

/-- A read of the key written gives the value written. -/
@[simp] theorem get_set_self (l : List (Nat × α)) (k : Nat) (v : α) : get dflt (set dflt l k v) k = v := by
  unfold set
  by_cases hv : v = dflt k
  · simp only [hv, if_true]; exact get_filter_self dflt l k
  · simp only [hv, if_false]
    exact get_insert_self dflt _ k v (by intro p hp; simpa using (List.mem_filter.mp hp).2)

/-- A write leaves every other key alone. -/
theorem get_set_ne (l : List (Nat × α)) (k j : Nat) (v : α) (h : j ≠ k) :
    get dflt (set dflt l k v) j = get dflt l j := by
  unfold set
  by_cases hv : v = dflt k
  · simp only [hv, if_true]; exact get_filter_ne dflt l k j h
  · simp only [hv, if_false]; rw [get_insert_ne dflt _ k j v h, get_filter_ne dflt l k j h]

theorem wf_filter (l : List (Nat × α)) (q : Nat × α → Bool) (h : wf dflt l = true) :
    wf dflt (l.filter q) = true := by
  induction l with
  | nil => rfl
  | cons p t ih =>
    obtain ⟨i, v⟩ := p
    simp only [wf, Bool.and_eq_true, decide_eq_true_eq, List.all_eq_true] at h
    by_cases hq : q (i, v)
    · simp only [List.filter_cons, hq, if_true, wf, Bool.and_eq_true, decide_eq_true_eq, List.all_eq_true]
      exact ⟨⟨h.1.1, fun p hp => h.1.2 p (List.mem_of_mem_filter hp)⟩, ih h.2⟩
    · simp only [List.filter_cons, hq]; exact ih h.2

theorem mem_insert (l : List (Nat × α)) (k : Nat) (v : α) (p : Nat × α) (h : p ∈ insert k v l) :
    p = (k, v) ∨ p ∈ l := by
  induction l with
  | nil => simpa [insert] using h
  | cons q t ih =>
    obtain ⟨i, w⟩ := q
    by_cases hki : k < i
    · simp only [insert, hki, if_true] at h; simpa using h
    · simp only [insert, hki, if_false, List.mem_cons] at h
      rcases h with h | h
      · exact Or.inr (by simp [h])
      · rcases ih h with h | h
        · exact Or.inl h
        · exact Or.inr (by simp [h])

theorem wf_insert (l : List (Nat × α)) (k : Nat) (v : α) (hv : v ≠ dflt k) (hk : ∀ p ∈ l, p.1 ≠ k)
    (h : wf dflt l = true) : wf dflt (insert k v l) = true := by
  induction l with
  | nil => simp [insert, wf, hv]
  | cons q t ih =>
    obtain ⟨i, w⟩ := q
    have hi : i ≠ k := hk (i, w) (by simp)
    have ht : ∀ p ∈ t, p.1 ≠ k := fun p hp => hk p (by simp [hp])
    have h' := h
    simp only [wf, Bool.and_eq_true, decide_eq_true_eq, List.all_eq_true] at h
    by_cases hki : k < i
    · simp only [insert, hki, if_true]
      simp only [wf, Bool.and_eq_true, decide_eq_true_eq, List.all_eq_true, List.mem_cons]
      refine ⟨⟨hv, ?_⟩, h⟩
      rintro p (rfl | hp)
      · exact hki
      · exact lt_trans hki (h.1.2 p hp)
    · simp only [insert, hki, if_false]
      simp only [wf, Bool.and_eq_true, decide_eq_true_eq, List.all_eq_true]
      refine ⟨⟨h.1.1, ?_⟩, ih ht h.2⟩
      intro p hp
      rcases mem_insert t k v p hp with rfl | hp
      · show i < k
        omega
      · exact h.1.2 p hp

/-- A write keeps the canonical form. -/
theorem wf_set (l : List (Nat × α)) (k : Nat) (v : α) (h : wf dflt l = true) : wf dflt (set dflt l k v) = true := by
  unfold set
  by_cases hv : v = dflt k
  · simp only [hv, if_true]; exact wf_filter dflt l _ h
  · simp only [hv, if_false]
    exact wf_insert dflt _ k v hv (by intro p hp; simpa using (List.mem_filter.mp hp).2) (wf_filter dflt l _ h)

end Sys2Proof.Machine.Sparse
end

