-- ==== Sys2Proof/Laws/Regs.lean ====
section
/-!
SUPPORT. Laws of registers: a read after a write, fields and bits after a store, counters, and the canonical form of the
register file.
-/

namespace Sys2Proof.Machine

open Sys2Proof

variable (d : Dev)

/-- A read after a write: the word written at its address, and every other word as before. -/
theorem Dev.rd_wr (a b : Nat) (v : Word) : (d.wr a v).rd b = if b = a then v else d.rd b := by
  unfold Dev.rd Dev.wr
  by_cases h : b = a
  · subst h; simp
  · simp [h, Sparse.get_set_ne resetWord d.regs a b v h]

@[simp] theorem Dev.rd_wr_self (a : Nat) (v : Word) : (d.wr a v).rd a = v := by simp [Dev.rd_wr]

theorem Dev.rd_wr_ne (a b : Nat) (v : Word) (h : b ≠ a) : (d.wr a v).rd b = d.rd b := by simp [Dev.rd_wr, h]

theorem Dev.rd_wrNat (a b v : Nat) : (d.wrNat a v).rd b = if b = a then BitVec.ofNat 32 v else d.rd b := d.rd_wr a b _

theorem Dev.rd_setFld (a b hi lo v : Nat) :
    (d.setFld a hi lo v).rd b = if b = a then setBits (d.rd a) hi lo v else d.rd b := d.rd_wr a b _

theorem Dev.rd_setFlag (a b n : Nat) (x : Bool) :
    (d.setFlag a n x).rd b = if b = a then setBits (d.rd a) n n (b2n x) else d.rd b := d.rd_wr a b _

theorem Dev.rd_wrNat_ne (a b v : Nat) (h : b ≠ a) : (d.wrNat a v).rd b = d.rd b := d.rd_wr_ne a b _ h

theorem Dev.rd_setFld_ne (a b hi lo v : Nat) (h : b ≠ a) : (d.setFld a hi lo v).rd b = d.rd b := d.rd_wr_ne a b _ h

theorem Dev.rd_setFlag_ne (a b n : Nat) (x : Bool) (h : b ≠ a) : (d.setFlag a n x).rd b = d.rd b := d.rd_wr_ne a b _ h

theorem Dev.rd_bumpBy_ne (a b hi lo n : Nat) (h : b ≠ a) : (d.bumpBy a hi lo n).rd b = d.rd b := d.rd_wr_ne a b _ h

theorem Dev.rd_bump_ne (a b hi lo : Nat) (h : b ≠ a) : (d.bump a hi lo).rd b = d.rd b := d.rd_wr_ne a b _ h

theorem Dev.rd_wrSat_ne (a b : Nat) (v : Int) (h : b ≠ a) : (d.wrSat a v).rd b = d.rd b := d.rd_wr_ne a b _ h

/-! ### Fields and bits -/

/-- A field just stored. -/
theorem Dev.fld_setFld_self (a hi lo v : Nat) (h : lo ≤ hi) (h32 : hi < 32) :
    (d.setFld a hi lo v).fld a hi lo = v % 2 ^ (hi + 1 - lo) := by
  unfold Dev.fld; rw [d.rd_setFld, if_pos rfl]; exact bits_setBits_self _ hi lo v h h32

/-- A field of a word whose store was of a field apart from it. -/
theorem Dev.fld_setFld_apart (a hi lo v hi' lo' : Nat) (h : lo ≤ hi) (h32 : hi < 32) (ha : hi' < lo ∨ hi < lo') :
    (d.setFld a hi lo v).fld a hi' lo' = d.fld a hi' lo' := by
  unfold Dev.fld; rw [d.rd_setFld, if_pos rfl]; exact bits_setBits_apart _ hi lo v hi' lo' h h32 ha

/-- A field of another word. -/
theorem Dev.fld_setFld_ne (a b hi lo v hi' lo' : Nat) (h : b ≠ a) : (d.setFld a hi lo v).fld b hi' lo' = d.fld b hi' lo' := by
  unfold Dev.fld; rw [d.rd_setFld_ne a b hi lo v h]

/-- A bit just stored. -/
theorem Dev.flag_setFlag_self (a n : Nat) (x : Bool) (h : n < 32) : (d.setFlag a n x).flag a n = x := by
  unfold Dev.flag; rw [d.rd_setFlag, if_pos rfl]; exact bit_setBits_self _ n x h

/-- A bit apart from the bit stored. -/
theorem Dev.flag_setFlag_apart (a n m : Nat) (x : Bool) (h : n < 32) (ha : m ≠ n) :
    (d.setFlag a n x).flag a m = d.flag a m := by
  unfold Dev.flag; rw [d.rd_setFlag, if_pos rfl]; exact bit_setBits_apart _ n n _ m le_rfl h (by omega)

/-- A bit of another word. -/
theorem Dev.flag_setFlag_ne (a b n m : Nat) (x : Bool) (h : b ≠ a) : (d.setFlag a n x).flag b m = d.flag b m := by
  unfold Dev.flag; rw [d.rd_setFlag_ne a b n x h]

/-- A bit of a word after the store of a field apart from it. -/
theorem Dev.flag_setFld_apart (a hi lo v n : Nat) (h : lo ≤ hi) (h32 : hi < 32) (ha : n < lo ∨ hi < n) :
    (d.setFld a hi lo v).flag a n = d.flag a n := by
  unfold Dev.flag; rw [d.rd_setFld, if_pos rfl]; exact bit_setBits_apart _ hi lo v n h h32 ha

/-- A field of a word after the store of a bit apart from it. -/
theorem Dev.fld_setFlag_apart (a n hi lo : Nat) (x : Bool) (h : n < 32) (ha : hi < n ∨ n < lo) :
    (d.setFlag a n x).fld a hi lo = d.fld a hi lo := d.fld_setFld_apart a n n _ hi lo le_rfl h ha

/-- A saturating counter after an increment (a count never wraps). -/
theorem Dev.fld_bump_self (a hi lo : Nat) (h : lo ≤ hi) (h32 : hi < 32) :
    (d.bump a hi lo).fld a hi lo = min (d.fld a hi lo + 1) (2 ^ (hi + 1 - lo) - 1) := by
  unfold Dev.bump Dev.bumpBy
  rw [d.fld_setFld_self a hi lo _ h h32, Nat.mod_eq_of_lt]
  have : 0 < 2 ^ (hi + 1 - lo) := by positivity
  omega

/-- Both halves of a pair just stored. -/
theorem Dev.rd64_wr64 (lo hi v : Nat) (h : lo ≠ hi) (hv : v < 2 ^ 64) : (d.wr64 lo hi v).rd64 lo hi = v := by
  unfold Dev.rd64 Dev.wr64
  rw [Dev.rd_wrNat_ne _ hi lo _ h, Dev.rd_wrNat, Dev.rd_wrNat, if_pos rfl, if_pos rfl, BitVec.toNat_ofNat, BitVec.toNat_ofNat]
  omega

/-! ### The register file -/

/-- A write keeps the register file in canonical form. -/
theorem Dev.regs_wf_wr (a : Nat) (v : Word) (h : Sparse.wf resetWord d.regs = true) :
    Sparse.wf resetWord (d.wr a v).regs = true := Sparse.wf_set resetWord d.regs a v h

end Sys2Proof.Machine
end

