-- ==== Sys2Proof/Laws/State.lean ====
section
/-!
SUPPORT. One lemma per field of the device and shared operation that leaves it alone: register stores, what the device
sends, events with their sticky bits and interrupts. No proof needs to unfold a record update for them.
-/

namespace Sys2Proof.Machine

open Sys2Proof

variable (d : Dev)

/-! ### Register stores change the register file alone -/


@[simp] theorem Dev.wr_partH (a : Nat) (v : Word) : (d.wr a v).partH = d.partH := rfl
@[simp] theorem Dev.wr_time (a : Nat) (v : Word) : (d.wr a v).time = d.time := rfl
@[simp] theorem Dev.wr_timeRem (a : Nat) (v : Word) : (d.wr a v).timeRem = d.timeRem := rfl
@[simp] theorem Dev.wr_freeCount (a : Nat) (v : Word) : (d.wr a v).freeCount = d.freeCount := rfl
@[simp] theorem Dev.wr_outbox (a : Nat) (v : Word) : (d.wr a v).outbox = d.outbox := rfl
@[simp] theorem Dev.wr_hostif (a : Nat) (v : Word) : (d.wr a v).hostif = d.hostif := rfl
@[simp] theorem Dev.wr_evlog (a : Nat) (v : Word) : (d.wr a v).evlog = d.evlog := rfl
@[simp] theorem Dev.wr_bellows (a : Nat) (v : Word) : (d.wr a v).bellows = d.bellows := rfl
@[simp] theorem Dev.wr_ptp (a : Nat) (v : Word) : (d.wr a v).ptp = d.ptp := rfl
@[simp] theorem Dev.wr_lanes (a : Nat) (v : Word) : (d.wr a v).lanes = d.lanes := rfl
@[simp] theorem Dev.wr_fabLanes (a : Nat) (v : Word) : (d.wr a v).fabLanes = d.fabLanes := rfl
@[simp] theorem Dev.wr_anvil (a : Nat) (v : Word) : (d.wr a v).anvil = d.anvil := rfl
@[simp] theorem Dev.wr_audioIn (a : Nat) (v : Word) : (d.wr a v).audioIn = d.audioIn := rfl
@[simp] theorem Dev.wr_engines (a : Nat) (v : Word) : (d.wr a v).engines = d.engines := rfl
@[simp] theorem Dev.wr_journal (a : Nat) (v : Word) : (d.wr a v).journal = d.journal := rfl
@[simp] theorem Dev.wr_hie (a : Nat) (v : Word) : (d.wr a v).hie = d.hie := rfl
@[simp] theorem Dev.wr_sdiIn (a : Nat) (v : Word) : (d.wr a v).sdiIn = d.sdiIn := rfl
@[simp] theorem Dev.wr_sdiOut (a : Nat) (v : Word) : (d.wr a v).sdiOut = d.sdiOut := rfl
@[simp] theorem Dev.wr_audioOut (a : Nat) (v : Word) : (d.wr a v).audioOut = d.audioOut := rfl
@[simp] theorem Dev.wr_audioCount (a : Nat) (v : Word) : (d.wr a v).audioCount = d.audioCount := rfl
@[simp] theorem Dev.wr_media (a : Nat) (v : Word) : (d.wr a v).media = d.media := rfl
@[simp] theorem Dev.wr_fil (a : Nat) (v : Word) : (d.wr a v).fil = d.fil := rfl
@[simp] theorem Dev.wr_audio (a : Nat) (v : Word) : (d.wr a v).audio = d.audio := rfl
@[simp] theorem Dev.wr_apts (a : Nat) (v : Word) : (d.wr a v).apts = d.apts := rfl
@[simp] theorem Dev.wr_dram (a : Nat) (v : Word) : (d.wr a v).dram = d.dram := rfl
@[simp] theorem Dev.wr_hal (a : Nat) (v : Word) : (d.wr a v).hal = d.hal := rfl
@[simp] theorem Dev.wr_temper (a : Nat) (v : Word) : (d.wr a v).temper = d.temper := rfl
@[simp] theorem Dev.wr_upd (a : Nat) (v : Word) : (d.wr a v).upd = d.upd := rfl
@[simp] theorem Dev.wr_twin (a : Nat) (v : Word) : (d.wr a v).twin = d.twin := rfl
@[simp] theorem Dev.wr_power (a : Nat) (v : Word) : (d.wr a v).power = d.power := rfl

@[simp] theorem Dev.wrNat_partH (a v : Nat) : (d.wrNat a v).partH = d.partH := rfl
@[simp] theorem Dev.wrNat_time (a v : Nat) : (d.wrNat a v).time = d.time := rfl
@[simp] theorem Dev.wrNat_timeRem (a v : Nat) : (d.wrNat a v).timeRem = d.timeRem := rfl
@[simp] theorem Dev.wrNat_freeCount (a v : Nat) : (d.wrNat a v).freeCount = d.freeCount := rfl
@[simp] theorem Dev.wrNat_outbox (a v : Nat) : (d.wrNat a v).outbox = d.outbox := rfl
@[simp] theorem Dev.wrNat_hostif (a v : Nat) : (d.wrNat a v).hostif = d.hostif := rfl
@[simp] theorem Dev.wrNat_evlog (a v : Nat) : (d.wrNat a v).evlog = d.evlog := rfl
@[simp] theorem Dev.wrNat_bellows (a v : Nat) : (d.wrNat a v).bellows = d.bellows := rfl
@[simp] theorem Dev.wrNat_ptp (a v : Nat) : (d.wrNat a v).ptp = d.ptp := rfl
@[simp] theorem Dev.wrNat_lanes (a v : Nat) : (d.wrNat a v).lanes = d.lanes := rfl
@[simp] theorem Dev.wrNat_fabLanes (a v : Nat) : (d.wrNat a v).fabLanes = d.fabLanes := rfl
@[simp] theorem Dev.wrNat_anvil (a v : Nat) : (d.wrNat a v).anvil = d.anvil := rfl
@[simp] theorem Dev.wrNat_audioIn (a v : Nat) : (d.wrNat a v).audioIn = d.audioIn := rfl
@[simp] theorem Dev.wrNat_engines (a v : Nat) : (d.wrNat a v).engines = d.engines := rfl
@[simp] theorem Dev.wrNat_journal (a v : Nat) : (d.wrNat a v).journal = d.journal := rfl
@[simp] theorem Dev.wrNat_hie (a v : Nat) : (d.wrNat a v).hie = d.hie := rfl
@[simp] theorem Dev.wrNat_sdiIn (a v : Nat) : (d.wrNat a v).sdiIn = d.sdiIn := rfl
@[simp] theorem Dev.wrNat_sdiOut (a v : Nat) : (d.wrNat a v).sdiOut = d.sdiOut := rfl
@[simp] theorem Dev.wrNat_audioOut (a v : Nat) : (d.wrNat a v).audioOut = d.audioOut := rfl
@[simp] theorem Dev.wrNat_audioCount (a v : Nat) : (d.wrNat a v).audioCount = d.audioCount := rfl
@[simp] theorem Dev.wrNat_media (a v : Nat) : (d.wrNat a v).media = d.media := rfl
@[simp] theorem Dev.wrNat_fil (a v : Nat) : (d.wrNat a v).fil = d.fil := rfl
@[simp] theorem Dev.wrNat_audio (a v : Nat) : (d.wrNat a v).audio = d.audio := rfl
@[simp] theorem Dev.wrNat_apts (a v : Nat) : (d.wrNat a v).apts = d.apts := rfl
@[simp] theorem Dev.wrNat_dram (a v : Nat) : (d.wrNat a v).dram = d.dram := rfl
@[simp] theorem Dev.wrNat_hal (a v : Nat) : (d.wrNat a v).hal = d.hal := rfl
@[simp] theorem Dev.wrNat_temper (a v : Nat) : (d.wrNat a v).temper = d.temper := rfl
@[simp] theorem Dev.wrNat_upd (a v : Nat) : (d.wrNat a v).upd = d.upd := rfl
@[simp] theorem Dev.wrNat_twin (a v : Nat) : (d.wrNat a v).twin = d.twin := rfl
@[simp] theorem Dev.wrNat_power (a v : Nat) : (d.wrNat a v).power = d.power := rfl

@[simp] theorem Dev.wrSat_partH (a : Nat) (v : Int) : (d.wrSat a v).partH = d.partH := rfl
@[simp] theorem Dev.wrSat_time (a : Nat) (v : Int) : (d.wrSat a v).time = d.time := rfl
@[simp] theorem Dev.wrSat_timeRem (a : Nat) (v : Int) : (d.wrSat a v).timeRem = d.timeRem := rfl
@[simp] theorem Dev.wrSat_freeCount (a : Nat) (v : Int) : (d.wrSat a v).freeCount = d.freeCount := rfl
@[simp] theorem Dev.wrSat_outbox (a : Nat) (v : Int) : (d.wrSat a v).outbox = d.outbox := rfl
@[simp] theorem Dev.wrSat_hostif (a : Nat) (v : Int) : (d.wrSat a v).hostif = d.hostif := rfl
@[simp] theorem Dev.wrSat_evlog (a : Nat) (v : Int) : (d.wrSat a v).evlog = d.evlog := rfl
@[simp] theorem Dev.wrSat_bellows (a : Nat) (v : Int) : (d.wrSat a v).bellows = d.bellows := rfl
@[simp] theorem Dev.wrSat_ptp (a : Nat) (v : Int) : (d.wrSat a v).ptp = d.ptp := rfl
@[simp] theorem Dev.wrSat_lanes (a : Nat) (v : Int) : (d.wrSat a v).lanes = d.lanes := rfl
@[simp] theorem Dev.wrSat_fabLanes (a : Nat) (v : Int) : (d.wrSat a v).fabLanes = d.fabLanes := rfl
@[simp] theorem Dev.wrSat_anvil (a : Nat) (v : Int) : (d.wrSat a v).anvil = d.anvil := rfl
@[simp] theorem Dev.wrSat_audioIn (a : Nat) (v : Int) : (d.wrSat a v).audioIn = d.audioIn := rfl
@[simp] theorem Dev.wrSat_engines (a : Nat) (v : Int) : (d.wrSat a v).engines = d.engines := rfl
@[simp] theorem Dev.wrSat_journal (a : Nat) (v : Int) : (d.wrSat a v).journal = d.journal := rfl
@[simp] theorem Dev.wrSat_hie (a : Nat) (v : Int) : (d.wrSat a v).hie = d.hie := rfl
@[simp] theorem Dev.wrSat_sdiIn (a : Nat) (v : Int) : (d.wrSat a v).sdiIn = d.sdiIn := rfl
@[simp] theorem Dev.wrSat_sdiOut (a : Nat) (v : Int) : (d.wrSat a v).sdiOut = d.sdiOut := rfl
@[simp] theorem Dev.wrSat_audioOut (a : Nat) (v : Int) : (d.wrSat a v).audioOut = d.audioOut := rfl
@[simp] theorem Dev.wrSat_audioCount (a : Nat) (v : Int) : (d.wrSat a v).audioCount = d.audioCount := rfl
@[simp] theorem Dev.wrSat_media (a : Nat) (v : Int) : (d.wrSat a v).media = d.media := rfl
@[simp] theorem Dev.wrSat_fil (a : Nat) (v : Int) : (d.wrSat a v).fil = d.fil := rfl
@[simp] theorem Dev.wrSat_audio (a : Nat) (v : Int) : (d.wrSat a v).audio = d.audio := rfl
@[simp] theorem Dev.wrSat_apts (a : Nat) (v : Int) : (d.wrSat a v).apts = d.apts := rfl
@[simp] theorem Dev.wrSat_dram (a : Nat) (v : Int) : (d.wrSat a v).dram = d.dram := rfl
@[simp] theorem Dev.wrSat_hal (a : Nat) (v : Int) : (d.wrSat a v).hal = d.hal := rfl
@[simp] theorem Dev.wrSat_temper (a : Nat) (v : Int) : (d.wrSat a v).temper = d.temper := rfl
@[simp] theorem Dev.wrSat_upd (a : Nat) (v : Int) : (d.wrSat a v).upd = d.upd := rfl
@[simp] theorem Dev.wrSat_twin (a : Nat) (v : Int) : (d.wrSat a v).twin = d.twin := rfl
@[simp] theorem Dev.wrSat_power (a : Nat) (v : Int) : (d.wrSat a v).power = d.power := rfl

@[simp] theorem Dev.setFld_partH (a hi lo v : Nat) : (d.setFld a hi lo v).partH = d.partH := rfl
@[simp] theorem Dev.setFld_time (a hi lo v : Nat) : (d.setFld a hi lo v).time = d.time := rfl
@[simp] theorem Dev.setFld_timeRem (a hi lo v : Nat) : (d.setFld a hi lo v).timeRem = d.timeRem := rfl
@[simp] theorem Dev.setFld_freeCount (a hi lo v : Nat) : (d.setFld a hi lo v).freeCount = d.freeCount := rfl
@[simp] theorem Dev.setFld_outbox (a hi lo v : Nat) : (d.setFld a hi lo v).outbox = d.outbox := rfl
@[simp] theorem Dev.setFld_hostif (a hi lo v : Nat) : (d.setFld a hi lo v).hostif = d.hostif := rfl
@[simp] theorem Dev.setFld_evlog (a hi lo v : Nat) : (d.setFld a hi lo v).evlog = d.evlog := rfl
@[simp] theorem Dev.setFld_bellows (a hi lo v : Nat) : (d.setFld a hi lo v).bellows = d.bellows := rfl
@[simp] theorem Dev.setFld_ptp (a hi lo v : Nat) : (d.setFld a hi lo v).ptp = d.ptp := rfl
@[simp] theorem Dev.setFld_lanes (a hi lo v : Nat) : (d.setFld a hi lo v).lanes = d.lanes := rfl
@[simp] theorem Dev.setFld_fabLanes (a hi lo v : Nat) : (d.setFld a hi lo v).fabLanes = d.fabLanes := rfl
@[simp] theorem Dev.setFld_anvil (a hi lo v : Nat) : (d.setFld a hi lo v).anvil = d.anvil := rfl
@[simp] theorem Dev.setFld_audioIn (a hi lo v : Nat) : (d.setFld a hi lo v).audioIn = d.audioIn := rfl
@[simp] theorem Dev.setFld_engines (a hi lo v : Nat) : (d.setFld a hi lo v).engines = d.engines := rfl
@[simp] theorem Dev.setFld_journal (a hi lo v : Nat) : (d.setFld a hi lo v).journal = d.journal := rfl
@[simp] theorem Dev.setFld_hie (a hi lo v : Nat) : (d.setFld a hi lo v).hie = d.hie := rfl
@[simp] theorem Dev.setFld_sdiIn (a hi lo v : Nat) : (d.setFld a hi lo v).sdiIn = d.sdiIn := rfl
@[simp] theorem Dev.setFld_sdiOut (a hi lo v : Nat) : (d.setFld a hi lo v).sdiOut = d.sdiOut := rfl
@[simp] theorem Dev.setFld_audioOut (a hi lo v : Nat) : (d.setFld a hi lo v).audioOut = d.audioOut := rfl
@[simp] theorem Dev.setFld_audioCount (a hi lo v : Nat) : (d.setFld a hi lo v).audioCount = d.audioCount := rfl
@[simp] theorem Dev.setFld_media (a hi lo v : Nat) : (d.setFld a hi lo v).media = d.media := rfl
@[simp] theorem Dev.setFld_fil (a hi lo v : Nat) : (d.setFld a hi lo v).fil = d.fil := rfl
@[simp] theorem Dev.setFld_audio (a hi lo v : Nat) : (d.setFld a hi lo v).audio = d.audio := rfl
@[simp] theorem Dev.setFld_apts (a hi lo v : Nat) : (d.setFld a hi lo v).apts = d.apts := rfl
@[simp] theorem Dev.setFld_dram (a hi lo v : Nat) : (d.setFld a hi lo v).dram = d.dram := rfl
@[simp] theorem Dev.setFld_hal (a hi lo v : Nat) : (d.setFld a hi lo v).hal = d.hal := rfl
@[simp] theorem Dev.setFld_temper (a hi lo v : Nat) : (d.setFld a hi lo v).temper = d.temper := rfl
@[simp] theorem Dev.setFld_upd (a hi lo v : Nat) : (d.setFld a hi lo v).upd = d.upd := rfl
@[simp] theorem Dev.setFld_twin (a hi lo v : Nat) : (d.setFld a hi lo v).twin = d.twin := rfl
@[simp] theorem Dev.setFld_power (a hi lo v : Nat) : (d.setFld a hi lo v).power = d.power := rfl

@[simp] theorem Dev.setFlag_partH (a n : Nat) (x : Bool) : (d.setFlag a n x).partH = d.partH := rfl
@[simp] theorem Dev.setFlag_time (a n : Nat) (x : Bool) : (d.setFlag a n x).time = d.time := rfl
@[simp] theorem Dev.setFlag_timeRem (a n : Nat) (x : Bool) : (d.setFlag a n x).timeRem = d.timeRem := rfl
@[simp] theorem Dev.setFlag_freeCount (a n : Nat) (x : Bool) : (d.setFlag a n x).freeCount = d.freeCount := rfl
@[simp] theorem Dev.setFlag_outbox (a n : Nat) (x : Bool) : (d.setFlag a n x).outbox = d.outbox := rfl
@[simp] theorem Dev.setFlag_hostif (a n : Nat) (x : Bool) : (d.setFlag a n x).hostif = d.hostif := rfl
@[simp] theorem Dev.setFlag_evlog (a n : Nat) (x : Bool) : (d.setFlag a n x).evlog = d.evlog := rfl
@[simp] theorem Dev.setFlag_bellows (a n : Nat) (x : Bool) : (d.setFlag a n x).bellows = d.bellows := rfl
@[simp] theorem Dev.setFlag_ptp (a n : Nat) (x : Bool) : (d.setFlag a n x).ptp = d.ptp := rfl
@[simp] theorem Dev.setFlag_lanes (a n : Nat) (x : Bool) : (d.setFlag a n x).lanes = d.lanes := rfl
@[simp] theorem Dev.setFlag_fabLanes (a n : Nat) (x : Bool) : (d.setFlag a n x).fabLanes = d.fabLanes := rfl
@[simp] theorem Dev.setFlag_anvil (a n : Nat) (x : Bool) : (d.setFlag a n x).anvil = d.anvil := rfl
@[simp] theorem Dev.setFlag_audioIn (a n : Nat) (x : Bool) : (d.setFlag a n x).audioIn = d.audioIn := rfl
@[simp] theorem Dev.setFlag_engines (a n : Nat) (x : Bool) : (d.setFlag a n x).engines = d.engines := rfl
@[simp] theorem Dev.setFlag_journal (a n : Nat) (x : Bool) : (d.setFlag a n x).journal = d.journal := rfl
@[simp] theorem Dev.setFlag_hie (a n : Nat) (x : Bool) : (d.setFlag a n x).hie = d.hie := rfl
@[simp] theorem Dev.setFlag_sdiIn (a n : Nat) (x : Bool) : (d.setFlag a n x).sdiIn = d.sdiIn := rfl
@[simp] theorem Dev.setFlag_sdiOut (a n : Nat) (x : Bool) : (d.setFlag a n x).sdiOut = d.sdiOut := rfl
@[simp] theorem Dev.setFlag_audioOut (a n : Nat) (x : Bool) : (d.setFlag a n x).audioOut = d.audioOut := rfl
@[simp] theorem Dev.setFlag_audioCount (a n : Nat) (x : Bool) : (d.setFlag a n x).audioCount = d.audioCount := rfl
@[simp] theorem Dev.setFlag_media (a n : Nat) (x : Bool) : (d.setFlag a n x).media = d.media := rfl
@[simp] theorem Dev.setFlag_fil (a n : Nat) (x : Bool) : (d.setFlag a n x).fil = d.fil := rfl
@[simp] theorem Dev.setFlag_audio (a n : Nat) (x : Bool) : (d.setFlag a n x).audio = d.audio := rfl
@[simp] theorem Dev.setFlag_apts (a n : Nat) (x : Bool) : (d.setFlag a n x).apts = d.apts := rfl
@[simp] theorem Dev.setFlag_dram (a n : Nat) (x : Bool) : (d.setFlag a n x).dram = d.dram := rfl
@[simp] theorem Dev.setFlag_hal (a n : Nat) (x : Bool) : (d.setFlag a n x).hal = d.hal := rfl
@[simp] theorem Dev.setFlag_temper (a n : Nat) (x : Bool) : (d.setFlag a n x).temper = d.temper := rfl
@[simp] theorem Dev.setFlag_upd (a n : Nat) (x : Bool) : (d.setFlag a n x).upd = d.upd := rfl
@[simp] theorem Dev.setFlag_twin (a n : Nat) (x : Bool) : (d.setFlag a n x).twin = d.twin := rfl
@[simp] theorem Dev.setFlag_power (a n : Nat) (x : Bool) : (d.setFlag a n x).power = d.power := rfl

@[simp] theorem Dev.bumpBy_partH (a hi lo n : Nat) : (d.bumpBy a hi lo n).partH = d.partH := rfl
@[simp] theorem Dev.bumpBy_time (a hi lo n : Nat) : (d.bumpBy a hi lo n).time = d.time := rfl
@[simp] theorem Dev.bumpBy_timeRem (a hi lo n : Nat) : (d.bumpBy a hi lo n).timeRem = d.timeRem := rfl
@[simp] theorem Dev.bumpBy_freeCount (a hi lo n : Nat) : (d.bumpBy a hi lo n).freeCount = d.freeCount := rfl
@[simp] theorem Dev.bumpBy_outbox (a hi lo n : Nat) : (d.bumpBy a hi lo n).outbox = d.outbox := rfl
@[simp] theorem Dev.bumpBy_hostif (a hi lo n : Nat) : (d.bumpBy a hi lo n).hostif = d.hostif := rfl
@[simp] theorem Dev.bumpBy_evlog (a hi lo n : Nat) : (d.bumpBy a hi lo n).evlog = d.evlog := rfl
@[simp] theorem Dev.bumpBy_bellows (a hi lo n : Nat) : (d.bumpBy a hi lo n).bellows = d.bellows := rfl
@[simp] theorem Dev.bumpBy_ptp (a hi lo n : Nat) : (d.bumpBy a hi lo n).ptp = d.ptp := rfl
@[simp] theorem Dev.bumpBy_lanes (a hi lo n : Nat) : (d.bumpBy a hi lo n).lanes = d.lanes := rfl
@[simp] theorem Dev.bumpBy_fabLanes (a hi lo n : Nat) : (d.bumpBy a hi lo n).fabLanes = d.fabLanes := rfl
@[simp] theorem Dev.bumpBy_anvil (a hi lo n : Nat) : (d.bumpBy a hi lo n).anvil = d.anvil := rfl
@[simp] theorem Dev.bumpBy_audioIn (a hi lo n : Nat) : (d.bumpBy a hi lo n).audioIn = d.audioIn := rfl
@[simp] theorem Dev.bumpBy_engines (a hi lo n : Nat) : (d.bumpBy a hi lo n).engines = d.engines := rfl
@[simp] theorem Dev.bumpBy_journal (a hi lo n : Nat) : (d.bumpBy a hi lo n).journal = d.journal := rfl
@[simp] theorem Dev.bumpBy_hie (a hi lo n : Nat) : (d.bumpBy a hi lo n).hie = d.hie := rfl
@[simp] theorem Dev.bumpBy_sdiIn (a hi lo n : Nat) : (d.bumpBy a hi lo n).sdiIn = d.sdiIn := rfl
@[simp] theorem Dev.bumpBy_sdiOut (a hi lo n : Nat) : (d.bumpBy a hi lo n).sdiOut = d.sdiOut := rfl
@[simp] theorem Dev.bumpBy_audioOut (a hi lo n : Nat) : (d.bumpBy a hi lo n).audioOut = d.audioOut := rfl
@[simp] theorem Dev.bumpBy_audioCount (a hi lo n : Nat) : (d.bumpBy a hi lo n).audioCount = d.audioCount := rfl
@[simp] theorem Dev.bumpBy_media (a hi lo n : Nat) : (d.bumpBy a hi lo n).media = d.media := rfl
@[simp] theorem Dev.bumpBy_fil (a hi lo n : Nat) : (d.bumpBy a hi lo n).fil = d.fil := rfl
@[simp] theorem Dev.bumpBy_audio (a hi lo n : Nat) : (d.bumpBy a hi lo n).audio = d.audio := rfl
@[simp] theorem Dev.bumpBy_apts (a hi lo n : Nat) : (d.bumpBy a hi lo n).apts = d.apts := rfl
@[simp] theorem Dev.bumpBy_dram (a hi lo n : Nat) : (d.bumpBy a hi lo n).dram = d.dram := rfl
@[simp] theorem Dev.bumpBy_hal (a hi lo n : Nat) : (d.bumpBy a hi lo n).hal = d.hal := rfl
@[simp] theorem Dev.bumpBy_temper (a hi lo n : Nat) : (d.bumpBy a hi lo n).temper = d.temper := rfl
@[simp] theorem Dev.bumpBy_upd (a hi lo n : Nat) : (d.bumpBy a hi lo n).upd = d.upd := rfl
@[simp] theorem Dev.bumpBy_twin (a hi lo n : Nat) : (d.bumpBy a hi lo n).twin = d.twin := rfl
@[simp] theorem Dev.bumpBy_power (a hi lo n : Nat) : (d.bumpBy a hi lo n).power = d.power := rfl

@[simp] theorem Dev.bump_partH (a hi lo : Nat) : (d.bump a hi lo).partH = d.partH := rfl
@[simp] theorem Dev.bump_time (a hi lo : Nat) : (d.bump a hi lo).time = d.time := rfl
@[simp] theorem Dev.bump_timeRem (a hi lo : Nat) : (d.bump a hi lo).timeRem = d.timeRem := rfl
@[simp] theorem Dev.bump_freeCount (a hi lo : Nat) : (d.bump a hi lo).freeCount = d.freeCount := rfl
@[simp] theorem Dev.bump_outbox (a hi lo : Nat) : (d.bump a hi lo).outbox = d.outbox := rfl
@[simp] theorem Dev.bump_hostif (a hi lo : Nat) : (d.bump a hi lo).hostif = d.hostif := rfl
@[simp] theorem Dev.bump_evlog (a hi lo : Nat) : (d.bump a hi lo).evlog = d.evlog := rfl
@[simp] theorem Dev.bump_bellows (a hi lo : Nat) : (d.bump a hi lo).bellows = d.bellows := rfl
@[simp] theorem Dev.bump_ptp (a hi lo : Nat) : (d.bump a hi lo).ptp = d.ptp := rfl
@[simp] theorem Dev.bump_lanes (a hi lo : Nat) : (d.bump a hi lo).lanes = d.lanes := rfl
@[simp] theorem Dev.bump_fabLanes (a hi lo : Nat) : (d.bump a hi lo).fabLanes = d.fabLanes := rfl
@[simp] theorem Dev.bump_anvil (a hi lo : Nat) : (d.bump a hi lo).anvil = d.anvil := rfl
@[simp] theorem Dev.bump_audioIn (a hi lo : Nat) : (d.bump a hi lo).audioIn = d.audioIn := rfl
@[simp] theorem Dev.bump_engines (a hi lo : Nat) : (d.bump a hi lo).engines = d.engines := rfl
@[simp] theorem Dev.bump_journal (a hi lo : Nat) : (d.bump a hi lo).journal = d.journal := rfl
@[simp] theorem Dev.bump_hie (a hi lo : Nat) : (d.bump a hi lo).hie = d.hie := rfl
@[simp] theorem Dev.bump_sdiIn (a hi lo : Nat) : (d.bump a hi lo).sdiIn = d.sdiIn := rfl
@[simp] theorem Dev.bump_sdiOut (a hi lo : Nat) : (d.bump a hi lo).sdiOut = d.sdiOut := rfl
@[simp] theorem Dev.bump_audioOut (a hi lo : Nat) : (d.bump a hi lo).audioOut = d.audioOut := rfl
@[simp] theorem Dev.bump_audioCount (a hi lo : Nat) : (d.bump a hi lo).audioCount = d.audioCount := rfl
@[simp] theorem Dev.bump_media (a hi lo : Nat) : (d.bump a hi lo).media = d.media := rfl
@[simp] theorem Dev.bump_fil (a hi lo : Nat) : (d.bump a hi lo).fil = d.fil := rfl
@[simp] theorem Dev.bump_audio (a hi lo : Nat) : (d.bump a hi lo).audio = d.audio := rfl
@[simp] theorem Dev.bump_apts (a hi lo : Nat) : (d.bump a hi lo).apts = d.apts := rfl
@[simp] theorem Dev.bump_dram (a hi lo : Nat) : (d.bump a hi lo).dram = d.dram := rfl
@[simp] theorem Dev.bump_hal (a hi lo : Nat) : (d.bump a hi lo).hal = d.hal := rfl
@[simp] theorem Dev.bump_temper (a hi lo : Nat) : (d.bump a hi lo).temper = d.temper := rfl
@[simp] theorem Dev.bump_upd (a hi lo : Nat) : (d.bump a hi lo).upd = d.upd := rfl
@[simp] theorem Dev.bump_twin (a hi lo : Nat) : (d.bump a hi lo).twin = d.twin := rfl
@[simp] theorem Dev.bump_power (a hi lo : Nat) : (d.bump a hi lo).power = d.power := rfl

@[simp] theorem Dev.wr64_partH (lo hi v : Nat) : (d.wr64 lo hi v).partH = d.partH := rfl
@[simp] theorem Dev.wr64_time (lo hi v : Nat) : (d.wr64 lo hi v).time = d.time := rfl
@[simp] theorem Dev.wr64_timeRem (lo hi v : Nat) : (d.wr64 lo hi v).timeRem = d.timeRem := rfl
@[simp] theorem Dev.wr64_freeCount (lo hi v : Nat) : (d.wr64 lo hi v).freeCount = d.freeCount := rfl
@[simp] theorem Dev.wr64_outbox (lo hi v : Nat) : (d.wr64 lo hi v).outbox = d.outbox := rfl
@[simp] theorem Dev.wr64_hostif (lo hi v : Nat) : (d.wr64 lo hi v).hostif = d.hostif := rfl
@[simp] theorem Dev.wr64_evlog (lo hi v : Nat) : (d.wr64 lo hi v).evlog = d.evlog := rfl
@[simp] theorem Dev.wr64_bellows (lo hi v : Nat) : (d.wr64 lo hi v).bellows = d.bellows := rfl
@[simp] theorem Dev.wr64_ptp (lo hi v : Nat) : (d.wr64 lo hi v).ptp = d.ptp := rfl
@[simp] theorem Dev.wr64_lanes (lo hi v : Nat) : (d.wr64 lo hi v).lanes = d.lanes := rfl
@[simp] theorem Dev.wr64_fabLanes (lo hi v : Nat) : (d.wr64 lo hi v).fabLanes = d.fabLanes := rfl
@[simp] theorem Dev.wr64_anvil (lo hi v : Nat) : (d.wr64 lo hi v).anvil = d.anvil := rfl
@[simp] theorem Dev.wr64_audioIn (lo hi v : Nat) : (d.wr64 lo hi v).audioIn = d.audioIn := rfl
@[simp] theorem Dev.wr64_engines (lo hi v : Nat) : (d.wr64 lo hi v).engines = d.engines := rfl
@[simp] theorem Dev.wr64_journal (lo hi v : Nat) : (d.wr64 lo hi v).journal = d.journal := rfl
@[simp] theorem Dev.wr64_hie (lo hi v : Nat) : (d.wr64 lo hi v).hie = d.hie := rfl
@[simp] theorem Dev.wr64_sdiIn (lo hi v : Nat) : (d.wr64 lo hi v).sdiIn = d.sdiIn := rfl
@[simp] theorem Dev.wr64_sdiOut (lo hi v : Nat) : (d.wr64 lo hi v).sdiOut = d.sdiOut := rfl
@[simp] theorem Dev.wr64_audioOut (lo hi v : Nat) : (d.wr64 lo hi v).audioOut = d.audioOut := rfl
@[simp] theorem Dev.wr64_audioCount (lo hi v : Nat) : (d.wr64 lo hi v).audioCount = d.audioCount := rfl
@[simp] theorem Dev.wr64_media (lo hi v : Nat) : (d.wr64 lo hi v).media = d.media := rfl
@[simp] theorem Dev.wr64_fil (lo hi v : Nat) : (d.wr64 lo hi v).fil = d.fil := rfl
@[simp] theorem Dev.wr64_audio (lo hi v : Nat) : (d.wr64 lo hi v).audio = d.audio := rfl
@[simp] theorem Dev.wr64_apts (lo hi v : Nat) : (d.wr64 lo hi v).apts = d.apts := rfl
@[simp] theorem Dev.wr64_dram (lo hi v : Nat) : (d.wr64 lo hi v).dram = d.dram := rfl
@[simp] theorem Dev.wr64_hal (lo hi v : Nat) : (d.wr64 lo hi v).hal = d.hal := rfl
@[simp] theorem Dev.wr64_temper (lo hi v : Nat) : (d.wr64 lo hi v).temper = d.temper := rfl
@[simp] theorem Dev.wr64_upd (lo hi v : Nat) : (d.wr64 lo hi v).upd = d.upd := rfl
@[simp] theorem Dev.wr64_twin (lo hi v : Nat) : (d.wr64 lo hi v).twin = d.twin := rfl
@[simp] theorem Dev.wr64_power (lo hi v : Nat) : (d.wr64 lo hi v).power = d.power := rfl

@[simp] theorem Dev.wrParams_partH (a mask v : Nat) : (d.wrParams a mask v).partH = d.partH := rfl
@[simp] theorem Dev.wrParams_time (a mask v : Nat) : (d.wrParams a mask v).time = d.time := rfl
@[simp] theorem Dev.wrParams_timeRem (a mask v : Nat) : (d.wrParams a mask v).timeRem = d.timeRem := rfl
@[simp] theorem Dev.wrParams_freeCount (a mask v : Nat) : (d.wrParams a mask v).freeCount = d.freeCount := rfl
@[simp] theorem Dev.wrParams_outbox (a mask v : Nat) : (d.wrParams a mask v).outbox = d.outbox := rfl
@[simp] theorem Dev.wrParams_hostif (a mask v : Nat) : (d.wrParams a mask v).hostif = d.hostif := rfl
@[simp] theorem Dev.wrParams_evlog (a mask v : Nat) : (d.wrParams a mask v).evlog = d.evlog := rfl
@[simp] theorem Dev.wrParams_bellows (a mask v : Nat) : (d.wrParams a mask v).bellows = d.bellows := rfl
@[simp] theorem Dev.wrParams_ptp (a mask v : Nat) : (d.wrParams a mask v).ptp = d.ptp := rfl
@[simp] theorem Dev.wrParams_lanes (a mask v : Nat) : (d.wrParams a mask v).lanes = d.lanes := rfl
@[simp] theorem Dev.wrParams_fabLanes (a mask v : Nat) : (d.wrParams a mask v).fabLanes = d.fabLanes := rfl
@[simp] theorem Dev.wrParams_anvil (a mask v : Nat) : (d.wrParams a mask v).anvil = d.anvil := rfl
@[simp] theorem Dev.wrParams_audioIn (a mask v : Nat) : (d.wrParams a mask v).audioIn = d.audioIn := rfl
@[simp] theorem Dev.wrParams_engines (a mask v : Nat) : (d.wrParams a mask v).engines = d.engines := rfl
@[simp] theorem Dev.wrParams_journal (a mask v : Nat) : (d.wrParams a mask v).journal = d.journal := rfl
@[simp] theorem Dev.wrParams_hie (a mask v : Nat) : (d.wrParams a mask v).hie = d.hie := rfl
@[simp] theorem Dev.wrParams_sdiIn (a mask v : Nat) : (d.wrParams a mask v).sdiIn = d.sdiIn := rfl
@[simp] theorem Dev.wrParams_sdiOut (a mask v : Nat) : (d.wrParams a mask v).sdiOut = d.sdiOut := rfl
@[simp] theorem Dev.wrParams_audioOut (a mask v : Nat) : (d.wrParams a mask v).audioOut = d.audioOut := rfl
@[simp] theorem Dev.wrParams_audioCount (a mask v : Nat) : (d.wrParams a mask v).audioCount = d.audioCount := rfl
@[simp] theorem Dev.wrParams_media (a mask v : Nat) : (d.wrParams a mask v).media = d.media := rfl
@[simp] theorem Dev.wrParams_fil (a mask v : Nat) : (d.wrParams a mask v).fil = d.fil := rfl
@[simp] theorem Dev.wrParams_audio (a mask v : Nat) : (d.wrParams a mask v).audio = d.audio := rfl
@[simp] theorem Dev.wrParams_apts (a mask v : Nat) : (d.wrParams a mask v).apts = d.apts := rfl
@[simp] theorem Dev.wrParams_dram (a mask v : Nat) : (d.wrParams a mask v).dram = d.dram := rfl
@[simp] theorem Dev.wrParams_hal (a mask v : Nat) : (d.wrParams a mask v).hal = d.hal := rfl
@[simp] theorem Dev.wrParams_temper (a mask v : Nat) : (d.wrParams a mask v).temper = d.temper := rfl
@[simp] theorem Dev.wrParams_upd (a mask v : Nat) : (d.wrParams a mask v).upd = d.upd := rfl
@[simp] theorem Dev.wrParams_twin (a mask v : Nat) : (d.wrParams a mask v).twin = d.twin := rfl
@[simp] theorem Dev.wrParams_power (a mask v : Nat) : (d.wrParams a mask v).power = d.power := rfl

/-! ### Sending changes the outbox alone, and using a free value their count -/

@[simp] theorem Dev.send_regs (o : Out) : (d.send o).regs = d.regs := rfl
@[simp] theorem Dev.send_partH (o : Out) : (d.send o).partH = d.partH := rfl
@[simp] theorem Dev.send_time (o : Out) : (d.send o).time = d.time := rfl
@[simp] theorem Dev.send_timeRem (o : Out) : (d.send o).timeRem = d.timeRem := rfl
@[simp] theorem Dev.send_freeCount (o : Out) : (d.send o).freeCount = d.freeCount := rfl
@[simp] theorem Dev.send_hostif (o : Out) : (d.send o).hostif = d.hostif := rfl
@[simp] theorem Dev.send_evlog (o : Out) : (d.send o).evlog = d.evlog := rfl
@[simp] theorem Dev.send_bellows (o : Out) : (d.send o).bellows = d.bellows := rfl
@[simp] theorem Dev.send_ptp (o : Out) : (d.send o).ptp = d.ptp := rfl
@[simp] theorem Dev.send_lanes (o : Out) : (d.send o).lanes = d.lanes := rfl
@[simp] theorem Dev.send_fabLanes (o : Out) : (d.send o).fabLanes = d.fabLanes := rfl
@[simp] theorem Dev.send_anvil (o : Out) : (d.send o).anvil = d.anvil := rfl
@[simp] theorem Dev.send_audioIn (o : Out) : (d.send o).audioIn = d.audioIn := rfl
@[simp] theorem Dev.send_engines (o : Out) : (d.send o).engines = d.engines := rfl
@[simp] theorem Dev.send_journal (o : Out) : (d.send o).journal = d.journal := rfl
@[simp] theorem Dev.send_hie (o : Out) : (d.send o).hie = d.hie := rfl
@[simp] theorem Dev.send_sdiIn (o : Out) : (d.send o).sdiIn = d.sdiIn := rfl
@[simp] theorem Dev.send_sdiOut (o : Out) : (d.send o).sdiOut = d.sdiOut := rfl
@[simp] theorem Dev.send_audioOut (o : Out) : (d.send o).audioOut = d.audioOut := rfl
@[simp] theorem Dev.send_audioCount (o : Out) : (d.send o).audioCount = d.audioCount := rfl
@[simp] theorem Dev.send_media (o : Out) : (d.send o).media = d.media := rfl
@[simp] theorem Dev.send_fil (o : Out) : (d.send o).fil = d.fil := rfl
@[simp] theorem Dev.send_audio (o : Out) : (d.send o).audio = d.audio := rfl
@[simp] theorem Dev.send_apts (o : Out) : (d.send o).apts = d.apts := rfl
@[simp] theorem Dev.send_dram (o : Out) : (d.send o).dram = d.dram := rfl
@[simp] theorem Dev.send_hal (o : Out) : (d.send o).hal = d.hal := rfl
@[simp] theorem Dev.send_temper (o : Out) : (d.send o).temper = d.temper := rfl
@[simp] theorem Dev.send_upd (o : Out) : (d.send o).upd = d.upd := rfl
@[simp] theorem Dev.send_twin (o : Out) : (d.send o).twin = d.twin := rfl
@[simp] theorem Dev.send_power (o : Out) : (d.send o).power = d.power := rfl

@[simp] theorem Dev.useFree_regs : (d.useFree).regs = d.regs := rfl
@[simp] theorem Dev.useFree_partH : (d.useFree).partH = d.partH := rfl
@[simp] theorem Dev.useFree_time : (d.useFree).time = d.time := rfl
@[simp] theorem Dev.useFree_timeRem : (d.useFree).timeRem = d.timeRem := rfl
@[simp] theorem Dev.useFree_outbox : (d.useFree).outbox = d.outbox := rfl
@[simp] theorem Dev.useFree_hostif : (d.useFree).hostif = d.hostif := rfl
@[simp] theorem Dev.useFree_evlog : (d.useFree).evlog = d.evlog := rfl
@[simp] theorem Dev.useFree_bellows : (d.useFree).bellows = d.bellows := rfl
@[simp] theorem Dev.useFree_ptp : (d.useFree).ptp = d.ptp := rfl
@[simp] theorem Dev.useFree_lanes : (d.useFree).lanes = d.lanes := rfl
@[simp] theorem Dev.useFree_fabLanes : (d.useFree).fabLanes = d.fabLanes := rfl
@[simp] theorem Dev.useFree_anvil : (d.useFree).anvil = d.anvil := rfl
@[simp] theorem Dev.useFree_audioIn : (d.useFree).audioIn = d.audioIn := rfl
@[simp] theorem Dev.useFree_engines : (d.useFree).engines = d.engines := rfl
@[simp] theorem Dev.useFree_journal : (d.useFree).journal = d.journal := rfl
@[simp] theorem Dev.useFree_hie : (d.useFree).hie = d.hie := rfl
@[simp] theorem Dev.useFree_sdiIn : (d.useFree).sdiIn = d.sdiIn := rfl
@[simp] theorem Dev.useFree_sdiOut : (d.useFree).sdiOut = d.sdiOut := rfl
@[simp] theorem Dev.useFree_audioOut : (d.useFree).audioOut = d.audioOut := rfl
@[simp] theorem Dev.useFree_audioCount : (d.useFree).audioCount = d.audioCount := rfl
@[simp] theorem Dev.useFree_media : (d.useFree).media = d.media := rfl
@[simp] theorem Dev.useFree_fil : (d.useFree).fil = d.fil := rfl
@[simp] theorem Dev.useFree_audio : (d.useFree).audio = d.audio := rfl
@[simp] theorem Dev.useFree_apts : (d.useFree).apts = d.apts := rfl
@[simp] theorem Dev.useFree_dram : (d.useFree).dram = d.dram := rfl
@[simp] theorem Dev.useFree_hal : (d.useFree).hal = d.hal := rfl
@[simp] theorem Dev.useFree_temper : (d.useFree).temper = d.temper := rfl
@[simp] theorem Dev.useFree_upd : (d.useFree).upd = d.upd := rfl
@[simp] theorem Dev.useFree_twin : (d.useFree).twin = d.twin := rfl
@[simp] theorem Dev.useFree_power : (d.useFree).power = d.power := rfl

/-! ### Sticky bits, events and interrupts change registers, the event log, the interrupts and the outbox alone -/

/-- What every one of these operations may change: `e` differs from `d` in no other part. -/
def Dev.eventStep (d e : Dev) : Prop :=
  e = { d with regs := e.regs, evlog := e.evlog, hostif := e.hostif, outbox := e.outbox }

theorem Dev.eventStep_refl : d.eventStep d := rfl

theorem Dev.eventStep_trans {d e f : Dev} (h : d.eventStep e) (g : e.eventStep f) : d.eventStep f := by
  unfold Dev.eventStep at *; rw [g, h]

theorem Dev.eventStep.partH_eq {d e : Dev} (h : d.eventStep e) : e.partH = d.partH := by unfold Dev.eventStep at h; rw [h]
theorem Dev.eventStep.time_eq {d e : Dev} (h : d.eventStep e) : e.time = d.time := by unfold Dev.eventStep at h; rw [h]
theorem Dev.eventStep.timeRem_eq {d e : Dev} (h : d.eventStep e) : e.timeRem = d.timeRem := by unfold Dev.eventStep at h; rw [h]
theorem Dev.eventStep.freeCount_eq {d e : Dev} (h : d.eventStep e) : e.freeCount = d.freeCount := by unfold Dev.eventStep at h; rw [h]
theorem Dev.eventStep.bellows_eq {d e : Dev} (h : d.eventStep e) : e.bellows = d.bellows := by unfold Dev.eventStep at h; rw [h]
theorem Dev.eventStep.ptp_eq {d e : Dev} (h : d.eventStep e) : e.ptp = d.ptp := by unfold Dev.eventStep at h; rw [h]
theorem Dev.eventStep.lanes_eq {d e : Dev} (h : d.eventStep e) : e.lanes = d.lanes := by unfold Dev.eventStep at h; rw [h]
theorem Dev.eventStep.fabLanes_eq {d e : Dev} (h : d.eventStep e) : e.fabLanes = d.fabLanes := by unfold Dev.eventStep at h; rw [h]
theorem Dev.eventStep.anvil_eq {d e : Dev} (h : d.eventStep e) : e.anvil = d.anvil := by unfold Dev.eventStep at h; rw [h]
theorem Dev.eventStep.audioIn_eq {d e : Dev} (h : d.eventStep e) : e.audioIn = d.audioIn := by unfold Dev.eventStep at h; rw [h]
theorem Dev.eventStep.engines_eq {d e : Dev} (h : d.eventStep e) : e.engines = d.engines := by unfold Dev.eventStep at h; rw [h]
theorem Dev.eventStep.journal_eq {d e : Dev} (h : d.eventStep e) : e.journal = d.journal := by unfold Dev.eventStep at h; rw [h]
theorem Dev.eventStep.hie_eq {d e : Dev} (h : d.eventStep e) : e.hie = d.hie := by unfold Dev.eventStep at h; rw [h]
theorem Dev.eventStep.sdiIn_eq {d e : Dev} (h : d.eventStep e) : e.sdiIn = d.sdiIn := by unfold Dev.eventStep at h; rw [h]
theorem Dev.eventStep.sdiOut_eq {d e : Dev} (h : d.eventStep e) : e.sdiOut = d.sdiOut := by unfold Dev.eventStep at h; rw [h]
theorem Dev.eventStep.audioOut_eq {d e : Dev} (h : d.eventStep e) : e.audioOut = d.audioOut := by unfold Dev.eventStep at h; rw [h]
theorem Dev.eventStep.audioCount_eq {d e : Dev} (h : d.eventStep e) : e.audioCount = d.audioCount := by unfold Dev.eventStep at h; rw [h]
theorem Dev.eventStep.media_eq {d e : Dev} (h : d.eventStep e) : e.media = d.media := by unfold Dev.eventStep at h; rw [h]
theorem Dev.eventStep.fil_eq {d e : Dev} (h : d.eventStep e) : e.fil = d.fil := by unfold Dev.eventStep at h; rw [h]
theorem Dev.eventStep.audio_eq {d e : Dev} (h : d.eventStep e) : e.audio = d.audio := by unfold Dev.eventStep at h; rw [h]
theorem Dev.eventStep.apts_eq {d e : Dev} (h : d.eventStep e) : e.apts = d.apts := by unfold Dev.eventStep at h; rw [h]
theorem Dev.eventStep.dram_eq {d e : Dev} (h : d.eventStep e) : e.dram = d.dram := by unfold Dev.eventStep at h; rw [h]
theorem Dev.eventStep.hal_eq {d e : Dev} (h : d.eventStep e) : e.hal = d.hal := by unfold Dev.eventStep at h; rw [h]
theorem Dev.eventStep.temper_eq {d e : Dev} (h : d.eventStep e) : e.temper = d.temper := by unfold Dev.eventStep at h; rw [h]
theorem Dev.eventStep.upd_eq {d e : Dev} (h : d.eventStep e) : e.upd = d.upd := by unfold Dev.eventStep at h; rw [h]
theorem Dev.eventStep.twin_eq {d e : Dev} (h : d.eventStep e) : e.twin = d.twin := by unfold Dev.eventStep at h; rw [h]
theorem Dev.eventStep.power_eq {d e : Dev} (h : d.eventStep e) : e.power = d.power := by unfold Dev.eventStep at h; rw [h]

theorem Dev.eventStep_ite {c : Prop} [Decidable c] {x y : Dev} (hx : d.eventStep x) (hy : d.eventStep y) :
    d.eventStep (if c then x else y) := by split <;> assumption

theorem Dev.setPba_step (v : Nat) (b : Bool) : d.eventStep (d.setPba v b) := rfl

theorem Dev.setFlag_step (a n : Nat) (x : Bool) : d.eventStep (d.setFlag a n x) := rfl

theorem Dev.bump_step (a hi lo : Nat) : d.eventStep (d.bump a hi lo) := rfl

theorem Dev.wrNat_step (a v : Nat) : d.eventStep (d.wrNat a v) := rfl

theorem Dev.msixDue_step (v : Nat) : d.eventStep (d.msixDue v) := by unfold Dev.msixDue; split <;> rfl

theorem Dev.irqUpdate_step (page : Nat) (again : Bool) : d.eventStep (d.irqUpdate page again) := by
  unfold Dev.irqUpdate; dsimp only
  split
  · rfl
  · split
    · exact Dev.eventStep_trans (by rfl) (Dev.msixDue_step _ _)
    · rfl

theorem Dev.stickyOnly_step (page n : Nat) : d.eventStep (d.stickyOnly page n) :=
  Dev.eventStep_trans (d.setFlag_step _ _ _) (Dev.irqUpdate_step _ _ _)

theorem Dev.statusIrq_step (page n : Nat) : d.eventStep (d.statusIrq page n) := by
  unfold Dev.statusIrq; split
  · exact Dev.eventStep_trans (d.setFlag_step _ _ _) (Dev.irqUpdate_step _ _ _)
  · rfl

theorem Dev.logCode_step (page code arg tp : Nat) : d.eventStep (d.logCode page code arg tp) := by
  unfold Dev.logCode; dsimp only
  refine d.eventStep_ite d.eventStep_refl (d.eventStep_ite (d.bump_step _ _ _) ?_)
  exact Dev.eventStep_trans (Dev.eventStep_trans (e := { d with evlog := _ }) (by rfl) (Dev.wrNat_step _ _ _)) (Dev.stickyOnly_step _ _ _)

theorem Dev.logEvent_step (page num arg : Nat) : d.eventStep (d.logEvent page num arg) := d.logCode_step _ _ _ _

theorem Dev.raiseLog_step (page n arg : Nat) : d.eventStep (d.raiseLog page n arg) :=
  Dev.eventStep_trans (d.stickyOnly_step _ _) (Dev.logEvent_step _ _ _ _)

theorem Dev.raise_step (page n arg : Nat) : d.eventStep (d.raise page n arg) := by
  unfold Dev.raise; split
  · rfl
  · exact d.raiseLog_step _ _ _

theorem Dev.raiseEntryLog_step (page e n arg : Nat) : d.eventStep (d.raiseEntryLog page e n arg) := by
  unfold Dev.raiseEntryLog; split
  · rfl
  · exact Dev.eventStep_trans (Dev.eventStep_trans (d.setFlag_step _ _ _) (Dev.irqUpdate_step _ _ _)) (Dev.logCode_step _ _ _ _ _)

theorem Dev.raiseEntry_step (page e n arg : Nat) : d.eventStep (d.raiseEntry page e n arg) := by
  unfold Dev.raiseEntry; split
  · rfl
  · split
    · rfl
    · exact d.raiseEntryLog_step _ _ _ _

theorem Dev.ownerViol_step (page off : Nat) (w : Writer) : d.eventStep (d.ownerViol page off w) := by
  have h : d.eventStep ((d.bump Reg.SYS_OWNER_VIOL_CNT 15 0).wrNat Reg.SYS_OWNER_VIOL_LAST
      (page + (off / 4) * 0x10000 + w.cls.code * 0x10000000)) :=
    Dev.eventStep_trans (d.bump_step _ _ _) (Dev.wrNat_step _ _ _)
  exact d.eventStep_ite (Dev.eventStep_trans h (Dev.logEvent_step _ _ _ _)) (Dev.eventStep_trans h (Dev.raiseLog_step _ _ _ _))


@[simp] theorem Dev.irqUpdate_partH (page : Nat) (again : Bool) : (d.irqUpdate page again).partH = d.partH := (d.irqUpdate_step page again).partH_eq
@[simp] theorem Dev.irqUpdate_time (page : Nat) (again : Bool) : (d.irqUpdate page again).time = d.time := (d.irqUpdate_step page again).time_eq
@[simp] theorem Dev.irqUpdate_timeRem (page : Nat) (again : Bool) : (d.irqUpdate page again).timeRem = d.timeRem := (d.irqUpdate_step page again).timeRem_eq
@[simp] theorem Dev.irqUpdate_freeCount (page : Nat) (again : Bool) : (d.irqUpdate page again).freeCount = d.freeCount := (d.irqUpdate_step page again).freeCount_eq
@[simp] theorem Dev.irqUpdate_bellows (page : Nat) (again : Bool) : (d.irqUpdate page again).bellows = d.bellows := (d.irqUpdate_step page again).bellows_eq
@[simp] theorem Dev.irqUpdate_ptp (page : Nat) (again : Bool) : (d.irqUpdate page again).ptp = d.ptp := (d.irqUpdate_step page again).ptp_eq
@[simp] theorem Dev.irqUpdate_lanes (page : Nat) (again : Bool) : (d.irqUpdate page again).lanes = d.lanes := (d.irqUpdate_step page again).lanes_eq
@[simp] theorem Dev.irqUpdate_fabLanes (page : Nat) (again : Bool) : (d.irqUpdate page again).fabLanes = d.fabLanes := (d.irqUpdate_step page again).fabLanes_eq
@[simp] theorem Dev.irqUpdate_anvil (page : Nat) (again : Bool) : (d.irqUpdate page again).anvil = d.anvil := (d.irqUpdate_step page again).anvil_eq
@[simp] theorem Dev.irqUpdate_audioIn (page : Nat) (again : Bool) : (d.irqUpdate page again).audioIn = d.audioIn := (d.irqUpdate_step page again).audioIn_eq
@[simp] theorem Dev.irqUpdate_engines (page : Nat) (again : Bool) : (d.irqUpdate page again).engines = d.engines := (d.irqUpdate_step page again).engines_eq
@[simp] theorem Dev.irqUpdate_journal (page : Nat) (again : Bool) : (d.irqUpdate page again).journal = d.journal := (d.irqUpdate_step page again).journal_eq
@[simp] theorem Dev.irqUpdate_hie (page : Nat) (again : Bool) : (d.irqUpdate page again).hie = d.hie := (d.irqUpdate_step page again).hie_eq
@[simp] theorem Dev.irqUpdate_sdiIn (page : Nat) (again : Bool) : (d.irqUpdate page again).sdiIn = d.sdiIn := (d.irqUpdate_step page again).sdiIn_eq
@[simp] theorem Dev.irqUpdate_sdiOut (page : Nat) (again : Bool) : (d.irqUpdate page again).sdiOut = d.sdiOut := (d.irqUpdate_step page again).sdiOut_eq
@[simp] theorem Dev.irqUpdate_audioOut (page : Nat) (again : Bool) : (d.irqUpdate page again).audioOut = d.audioOut := (d.irqUpdate_step page again).audioOut_eq
@[simp] theorem Dev.irqUpdate_audioCount (page : Nat) (again : Bool) : (d.irqUpdate page again).audioCount = d.audioCount := (d.irqUpdate_step page again).audioCount_eq
@[simp] theorem Dev.irqUpdate_media (page : Nat) (again : Bool) : (d.irqUpdate page again).media = d.media := (d.irqUpdate_step page again).media_eq
@[simp] theorem Dev.irqUpdate_fil (page : Nat) (again : Bool) : (d.irqUpdate page again).fil = d.fil := (d.irqUpdate_step page again).fil_eq
@[simp] theorem Dev.irqUpdate_audio (page : Nat) (again : Bool) : (d.irqUpdate page again).audio = d.audio := (d.irqUpdate_step page again).audio_eq
@[simp] theorem Dev.irqUpdate_apts (page : Nat) (again : Bool) : (d.irqUpdate page again).apts = d.apts := (d.irqUpdate_step page again).apts_eq
@[simp] theorem Dev.irqUpdate_dram (page : Nat) (again : Bool) : (d.irqUpdate page again).dram = d.dram := (d.irqUpdate_step page again).dram_eq
@[simp] theorem Dev.irqUpdate_hal (page : Nat) (again : Bool) : (d.irqUpdate page again).hal = d.hal := (d.irqUpdate_step page again).hal_eq
@[simp] theorem Dev.irqUpdate_temper (page : Nat) (again : Bool) : (d.irqUpdate page again).temper = d.temper := (d.irqUpdate_step page again).temper_eq
@[simp] theorem Dev.irqUpdate_upd (page : Nat) (again : Bool) : (d.irqUpdate page again).upd = d.upd := (d.irqUpdate_step page again).upd_eq
@[simp] theorem Dev.irqUpdate_twin (page : Nat) (again : Bool) : (d.irqUpdate page again).twin = d.twin := (d.irqUpdate_step page again).twin_eq
@[simp] theorem Dev.irqUpdate_power (page : Nat) (again : Bool) : (d.irqUpdate page again).power = d.power := (d.irqUpdate_step page again).power_eq

@[simp] theorem Dev.stickyOnly_partH (page n : Nat) : (d.stickyOnly page n).partH = d.partH := (d.stickyOnly_step page n).partH_eq
@[simp] theorem Dev.stickyOnly_time (page n : Nat) : (d.stickyOnly page n).time = d.time := (d.stickyOnly_step page n).time_eq
@[simp] theorem Dev.stickyOnly_timeRem (page n : Nat) : (d.stickyOnly page n).timeRem = d.timeRem := (d.stickyOnly_step page n).timeRem_eq
@[simp] theorem Dev.stickyOnly_freeCount (page n : Nat) : (d.stickyOnly page n).freeCount = d.freeCount := (d.stickyOnly_step page n).freeCount_eq
@[simp] theorem Dev.stickyOnly_bellows (page n : Nat) : (d.stickyOnly page n).bellows = d.bellows := (d.stickyOnly_step page n).bellows_eq
@[simp] theorem Dev.stickyOnly_ptp (page n : Nat) : (d.stickyOnly page n).ptp = d.ptp := (d.stickyOnly_step page n).ptp_eq
@[simp] theorem Dev.stickyOnly_lanes (page n : Nat) : (d.stickyOnly page n).lanes = d.lanes := (d.stickyOnly_step page n).lanes_eq
@[simp] theorem Dev.stickyOnly_fabLanes (page n : Nat) : (d.stickyOnly page n).fabLanes = d.fabLanes := (d.stickyOnly_step page n).fabLanes_eq
@[simp] theorem Dev.stickyOnly_anvil (page n : Nat) : (d.stickyOnly page n).anvil = d.anvil := (d.stickyOnly_step page n).anvil_eq
@[simp] theorem Dev.stickyOnly_audioIn (page n : Nat) : (d.stickyOnly page n).audioIn = d.audioIn := (d.stickyOnly_step page n).audioIn_eq
@[simp] theorem Dev.stickyOnly_engines (page n : Nat) : (d.stickyOnly page n).engines = d.engines := (d.stickyOnly_step page n).engines_eq
@[simp] theorem Dev.stickyOnly_journal (page n : Nat) : (d.stickyOnly page n).journal = d.journal := (d.stickyOnly_step page n).journal_eq
@[simp] theorem Dev.stickyOnly_hie (page n : Nat) : (d.stickyOnly page n).hie = d.hie := (d.stickyOnly_step page n).hie_eq
@[simp] theorem Dev.stickyOnly_sdiIn (page n : Nat) : (d.stickyOnly page n).sdiIn = d.sdiIn := (d.stickyOnly_step page n).sdiIn_eq
@[simp] theorem Dev.stickyOnly_sdiOut (page n : Nat) : (d.stickyOnly page n).sdiOut = d.sdiOut := (d.stickyOnly_step page n).sdiOut_eq
@[simp] theorem Dev.stickyOnly_audioOut (page n : Nat) : (d.stickyOnly page n).audioOut = d.audioOut := (d.stickyOnly_step page n).audioOut_eq
@[simp] theorem Dev.stickyOnly_audioCount (page n : Nat) : (d.stickyOnly page n).audioCount = d.audioCount := (d.stickyOnly_step page n).audioCount_eq
@[simp] theorem Dev.stickyOnly_media (page n : Nat) : (d.stickyOnly page n).media = d.media := (d.stickyOnly_step page n).media_eq
@[simp] theorem Dev.stickyOnly_fil (page n : Nat) : (d.stickyOnly page n).fil = d.fil := (d.stickyOnly_step page n).fil_eq
@[simp] theorem Dev.stickyOnly_audio (page n : Nat) : (d.stickyOnly page n).audio = d.audio := (d.stickyOnly_step page n).audio_eq
@[simp] theorem Dev.stickyOnly_apts (page n : Nat) : (d.stickyOnly page n).apts = d.apts := (d.stickyOnly_step page n).apts_eq
@[simp] theorem Dev.stickyOnly_dram (page n : Nat) : (d.stickyOnly page n).dram = d.dram := (d.stickyOnly_step page n).dram_eq
@[simp] theorem Dev.stickyOnly_hal (page n : Nat) : (d.stickyOnly page n).hal = d.hal := (d.stickyOnly_step page n).hal_eq
@[simp] theorem Dev.stickyOnly_temper (page n : Nat) : (d.stickyOnly page n).temper = d.temper := (d.stickyOnly_step page n).temper_eq
@[simp] theorem Dev.stickyOnly_upd (page n : Nat) : (d.stickyOnly page n).upd = d.upd := (d.stickyOnly_step page n).upd_eq
@[simp] theorem Dev.stickyOnly_twin (page n : Nat) : (d.stickyOnly page n).twin = d.twin := (d.stickyOnly_step page n).twin_eq
@[simp] theorem Dev.stickyOnly_power (page n : Nat) : (d.stickyOnly page n).power = d.power := (d.stickyOnly_step page n).power_eq

@[simp] theorem Dev.statusIrq_partH (page n : Nat) : (d.statusIrq page n).partH = d.partH := (d.statusIrq_step page n).partH_eq
@[simp] theorem Dev.statusIrq_time (page n : Nat) : (d.statusIrq page n).time = d.time := (d.statusIrq_step page n).time_eq
@[simp] theorem Dev.statusIrq_timeRem (page n : Nat) : (d.statusIrq page n).timeRem = d.timeRem := (d.statusIrq_step page n).timeRem_eq
@[simp] theorem Dev.statusIrq_freeCount (page n : Nat) : (d.statusIrq page n).freeCount = d.freeCount := (d.statusIrq_step page n).freeCount_eq
@[simp] theorem Dev.statusIrq_bellows (page n : Nat) : (d.statusIrq page n).bellows = d.bellows := (d.statusIrq_step page n).bellows_eq
@[simp] theorem Dev.statusIrq_ptp (page n : Nat) : (d.statusIrq page n).ptp = d.ptp := (d.statusIrq_step page n).ptp_eq
@[simp] theorem Dev.statusIrq_lanes (page n : Nat) : (d.statusIrq page n).lanes = d.lanes := (d.statusIrq_step page n).lanes_eq
@[simp] theorem Dev.statusIrq_fabLanes (page n : Nat) : (d.statusIrq page n).fabLanes = d.fabLanes := (d.statusIrq_step page n).fabLanes_eq
@[simp] theorem Dev.statusIrq_anvil (page n : Nat) : (d.statusIrq page n).anvil = d.anvil := (d.statusIrq_step page n).anvil_eq
@[simp] theorem Dev.statusIrq_audioIn (page n : Nat) : (d.statusIrq page n).audioIn = d.audioIn := (d.statusIrq_step page n).audioIn_eq
@[simp] theorem Dev.statusIrq_engines (page n : Nat) : (d.statusIrq page n).engines = d.engines := (d.statusIrq_step page n).engines_eq
@[simp] theorem Dev.statusIrq_journal (page n : Nat) : (d.statusIrq page n).journal = d.journal := (d.statusIrq_step page n).journal_eq
@[simp] theorem Dev.statusIrq_hie (page n : Nat) : (d.statusIrq page n).hie = d.hie := (d.statusIrq_step page n).hie_eq
@[simp] theorem Dev.statusIrq_sdiIn (page n : Nat) : (d.statusIrq page n).sdiIn = d.sdiIn := (d.statusIrq_step page n).sdiIn_eq
@[simp] theorem Dev.statusIrq_sdiOut (page n : Nat) : (d.statusIrq page n).sdiOut = d.sdiOut := (d.statusIrq_step page n).sdiOut_eq
@[simp] theorem Dev.statusIrq_audioOut (page n : Nat) : (d.statusIrq page n).audioOut = d.audioOut := (d.statusIrq_step page n).audioOut_eq
@[simp] theorem Dev.statusIrq_audioCount (page n : Nat) : (d.statusIrq page n).audioCount = d.audioCount := (d.statusIrq_step page n).audioCount_eq
@[simp] theorem Dev.statusIrq_media (page n : Nat) : (d.statusIrq page n).media = d.media := (d.statusIrq_step page n).media_eq
@[simp] theorem Dev.statusIrq_fil (page n : Nat) : (d.statusIrq page n).fil = d.fil := (d.statusIrq_step page n).fil_eq
@[simp] theorem Dev.statusIrq_audio (page n : Nat) : (d.statusIrq page n).audio = d.audio := (d.statusIrq_step page n).audio_eq
@[simp] theorem Dev.statusIrq_apts (page n : Nat) : (d.statusIrq page n).apts = d.apts := (d.statusIrq_step page n).apts_eq
@[simp] theorem Dev.statusIrq_dram (page n : Nat) : (d.statusIrq page n).dram = d.dram := (d.statusIrq_step page n).dram_eq
@[simp] theorem Dev.statusIrq_hal (page n : Nat) : (d.statusIrq page n).hal = d.hal := (d.statusIrq_step page n).hal_eq
@[simp] theorem Dev.statusIrq_temper (page n : Nat) : (d.statusIrq page n).temper = d.temper := (d.statusIrq_step page n).temper_eq
@[simp] theorem Dev.statusIrq_upd (page n : Nat) : (d.statusIrq page n).upd = d.upd := (d.statusIrq_step page n).upd_eq
@[simp] theorem Dev.statusIrq_twin (page n : Nat) : (d.statusIrq page n).twin = d.twin := (d.statusIrq_step page n).twin_eq
@[simp] theorem Dev.statusIrq_power (page n : Nat) : (d.statusIrq page n).power = d.power := (d.statusIrq_step page n).power_eq

@[simp] theorem Dev.logCode_partH (page code arg tp : Nat) : (d.logCode page code arg tp).partH = d.partH := (d.logCode_step page code arg tp).partH_eq
@[simp] theorem Dev.logCode_time (page code arg tp : Nat) : (d.logCode page code arg tp).time = d.time := (d.logCode_step page code arg tp).time_eq
@[simp] theorem Dev.logCode_timeRem (page code arg tp : Nat) : (d.logCode page code arg tp).timeRem = d.timeRem := (d.logCode_step page code arg tp).timeRem_eq
@[simp] theorem Dev.logCode_freeCount (page code arg tp : Nat) : (d.logCode page code arg tp).freeCount = d.freeCount := (d.logCode_step page code arg tp).freeCount_eq
@[simp] theorem Dev.logCode_bellows (page code arg tp : Nat) : (d.logCode page code arg tp).bellows = d.bellows := (d.logCode_step page code arg tp).bellows_eq
@[simp] theorem Dev.logCode_ptp (page code arg tp : Nat) : (d.logCode page code arg tp).ptp = d.ptp := (d.logCode_step page code arg tp).ptp_eq
@[simp] theorem Dev.logCode_lanes (page code arg tp : Nat) : (d.logCode page code arg tp).lanes = d.lanes := (d.logCode_step page code arg tp).lanes_eq
@[simp] theorem Dev.logCode_fabLanes (page code arg tp : Nat) : (d.logCode page code arg tp).fabLanes = d.fabLanes := (d.logCode_step page code arg tp).fabLanes_eq
@[simp] theorem Dev.logCode_anvil (page code arg tp : Nat) : (d.logCode page code arg tp).anvil = d.anvil := (d.logCode_step page code arg tp).anvil_eq
@[simp] theorem Dev.logCode_audioIn (page code arg tp : Nat) : (d.logCode page code arg tp).audioIn = d.audioIn := (d.logCode_step page code arg tp).audioIn_eq
@[simp] theorem Dev.logCode_engines (page code arg tp : Nat) : (d.logCode page code arg tp).engines = d.engines := (d.logCode_step page code arg tp).engines_eq
@[simp] theorem Dev.logCode_journal (page code arg tp : Nat) : (d.logCode page code arg tp).journal = d.journal := (d.logCode_step page code arg tp).journal_eq
@[simp] theorem Dev.logCode_hie (page code arg tp : Nat) : (d.logCode page code arg tp).hie = d.hie := (d.logCode_step page code arg tp).hie_eq
@[simp] theorem Dev.logCode_sdiIn (page code arg tp : Nat) : (d.logCode page code arg tp).sdiIn = d.sdiIn := (d.logCode_step page code arg tp).sdiIn_eq
@[simp] theorem Dev.logCode_sdiOut (page code arg tp : Nat) : (d.logCode page code arg tp).sdiOut = d.sdiOut := (d.logCode_step page code arg tp).sdiOut_eq
@[simp] theorem Dev.logCode_audioOut (page code arg tp : Nat) : (d.logCode page code arg tp).audioOut = d.audioOut := (d.logCode_step page code arg tp).audioOut_eq
@[simp] theorem Dev.logCode_audioCount (page code arg tp : Nat) : (d.logCode page code arg tp).audioCount = d.audioCount := (d.logCode_step page code arg tp).audioCount_eq
@[simp] theorem Dev.logCode_media (page code arg tp : Nat) : (d.logCode page code arg tp).media = d.media := (d.logCode_step page code arg tp).media_eq
@[simp] theorem Dev.logCode_fil (page code arg tp : Nat) : (d.logCode page code arg tp).fil = d.fil := (d.logCode_step page code arg tp).fil_eq
@[simp] theorem Dev.logCode_audio (page code arg tp : Nat) : (d.logCode page code arg tp).audio = d.audio := (d.logCode_step page code arg tp).audio_eq
@[simp] theorem Dev.logCode_apts (page code arg tp : Nat) : (d.logCode page code arg tp).apts = d.apts := (d.logCode_step page code arg tp).apts_eq
@[simp] theorem Dev.logCode_dram (page code arg tp : Nat) : (d.logCode page code arg tp).dram = d.dram := (d.logCode_step page code arg tp).dram_eq
@[simp] theorem Dev.logCode_hal (page code arg tp : Nat) : (d.logCode page code arg tp).hal = d.hal := (d.logCode_step page code arg tp).hal_eq
@[simp] theorem Dev.logCode_temper (page code arg tp : Nat) : (d.logCode page code arg tp).temper = d.temper := (d.logCode_step page code arg tp).temper_eq
@[simp] theorem Dev.logCode_upd (page code arg tp : Nat) : (d.logCode page code arg tp).upd = d.upd := (d.logCode_step page code arg tp).upd_eq
@[simp] theorem Dev.logCode_twin (page code arg tp : Nat) : (d.logCode page code arg tp).twin = d.twin := (d.logCode_step page code arg tp).twin_eq
@[simp] theorem Dev.logCode_power (page code arg tp : Nat) : (d.logCode page code arg tp).power = d.power := (d.logCode_step page code arg tp).power_eq

@[simp] theorem Dev.logEvent_partH (page num arg : Nat) : (d.logEvent page num arg).partH = d.partH := (d.logEvent_step page num arg).partH_eq
@[simp] theorem Dev.logEvent_time (page num arg : Nat) : (d.logEvent page num arg).time = d.time := (d.logEvent_step page num arg).time_eq
@[simp] theorem Dev.logEvent_timeRem (page num arg : Nat) : (d.logEvent page num arg).timeRem = d.timeRem := (d.logEvent_step page num arg).timeRem_eq
@[simp] theorem Dev.logEvent_freeCount (page num arg : Nat) : (d.logEvent page num arg).freeCount = d.freeCount := (d.logEvent_step page num arg).freeCount_eq
@[simp] theorem Dev.logEvent_bellows (page num arg : Nat) : (d.logEvent page num arg).bellows = d.bellows := (d.logEvent_step page num arg).bellows_eq
@[simp] theorem Dev.logEvent_ptp (page num arg : Nat) : (d.logEvent page num arg).ptp = d.ptp := (d.logEvent_step page num arg).ptp_eq
@[simp] theorem Dev.logEvent_lanes (page num arg : Nat) : (d.logEvent page num arg).lanes = d.lanes := (d.logEvent_step page num arg).lanes_eq
@[simp] theorem Dev.logEvent_fabLanes (page num arg : Nat) : (d.logEvent page num arg).fabLanes = d.fabLanes := (d.logEvent_step page num arg).fabLanes_eq
@[simp] theorem Dev.logEvent_anvil (page num arg : Nat) : (d.logEvent page num arg).anvil = d.anvil := (d.logEvent_step page num arg).anvil_eq
@[simp] theorem Dev.logEvent_audioIn (page num arg : Nat) : (d.logEvent page num arg).audioIn = d.audioIn := (d.logEvent_step page num arg).audioIn_eq
@[simp] theorem Dev.logEvent_engines (page num arg : Nat) : (d.logEvent page num arg).engines = d.engines := (d.logEvent_step page num arg).engines_eq
@[simp] theorem Dev.logEvent_journal (page num arg : Nat) : (d.logEvent page num arg).journal = d.journal := (d.logEvent_step page num arg).journal_eq
@[simp] theorem Dev.logEvent_hie (page num arg : Nat) : (d.logEvent page num arg).hie = d.hie := (d.logEvent_step page num arg).hie_eq
@[simp] theorem Dev.logEvent_sdiIn (page num arg : Nat) : (d.logEvent page num arg).sdiIn = d.sdiIn := (d.logEvent_step page num arg).sdiIn_eq
@[simp] theorem Dev.logEvent_sdiOut (page num arg : Nat) : (d.logEvent page num arg).sdiOut = d.sdiOut := (d.logEvent_step page num arg).sdiOut_eq
@[simp] theorem Dev.logEvent_audioOut (page num arg : Nat) : (d.logEvent page num arg).audioOut = d.audioOut := (d.logEvent_step page num arg).audioOut_eq
@[simp] theorem Dev.logEvent_audioCount (page num arg : Nat) : (d.logEvent page num arg).audioCount = d.audioCount := (d.logEvent_step page num arg).audioCount_eq
@[simp] theorem Dev.logEvent_media (page num arg : Nat) : (d.logEvent page num arg).media = d.media := (d.logEvent_step page num arg).media_eq
@[simp] theorem Dev.logEvent_fil (page num arg : Nat) : (d.logEvent page num arg).fil = d.fil := (d.logEvent_step page num arg).fil_eq
@[simp] theorem Dev.logEvent_audio (page num arg : Nat) : (d.logEvent page num arg).audio = d.audio := (d.logEvent_step page num arg).audio_eq
@[simp] theorem Dev.logEvent_apts (page num arg : Nat) : (d.logEvent page num arg).apts = d.apts := (d.logEvent_step page num arg).apts_eq
@[simp] theorem Dev.logEvent_dram (page num arg : Nat) : (d.logEvent page num arg).dram = d.dram := (d.logEvent_step page num arg).dram_eq
@[simp] theorem Dev.logEvent_hal (page num arg : Nat) : (d.logEvent page num arg).hal = d.hal := (d.logEvent_step page num arg).hal_eq
@[simp] theorem Dev.logEvent_temper (page num arg : Nat) : (d.logEvent page num arg).temper = d.temper := (d.logEvent_step page num arg).temper_eq
@[simp] theorem Dev.logEvent_upd (page num arg : Nat) : (d.logEvent page num arg).upd = d.upd := (d.logEvent_step page num arg).upd_eq
@[simp] theorem Dev.logEvent_twin (page num arg : Nat) : (d.logEvent page num arg).twin = d.twin := (d.logEvent_step page num arg).twin_eq
@[simp] theorem Dev.logEvent_power (page num arg : Nat) : (d.logEvent page num arg).power = d.power := (d.logEvent_step page num arg).power_eq

@[simp] theorem Dev.raiseLog_partH (page n arg : Nat) : (d.raiseLog page n arg).partH = d.partH := (d.raiseLog_step page n arg).partH_eq
@[simp] theorem Dev.raiseLog_time (page n arg : Nat) : (d.raiseLog page n arg).time = d.time := (d.raiseLog_step page n arg).time_eq
@[simp] theorem Dev.raiseLog_timeRem (page n arg : Nat) : (d.raiseLog page n arg).timeRem = d.timeRem := (d.raiseLog_step page n arg).timeRem_eq
@[simp] theorem Dev.raiseLog_freeCount (page n arg : Nat) : (d.raiseLog page n arg).freeCount = d.freeCount := (d.raiseLog_step page n arg).freeCount_eq
@[simp] theorem Dev.raiseLog_bellows (page n arg : Nat) : (d.raiseLog page n arg).bellows = d.bellows := (d.raiseLog_step page n arg).bellows_eq
@[simp] theorem Dev.raiseLog_ptp (page n arg : Nat) : (d.raiseLog page n arg).ptp = d.ptp := (d.raiseLog_step page n arg).ptp_eq
@[simp] theorem Dev.raiseLog_lanes (page n arg : Nat) : (d.raiseLog page n arg).lanes = d.lanes := (d.raiseLog_step page n arg).lanes_eq
@[simp] theorem Dev.raiseLog_fabLanes (page n arg : Nat) : (d.raiseLog page n arg).fabLanes = d.fabLanes := (d.raiseLog_step page n arg).fabLanes_eq
@[simp] theorem Dev.raiseLog_anvil (page n arg : Nat) : (d.raiseLog page n arg).anvil = d.anvil := (d.raiseLog_step page n arg).anvil_eq
@[simp] theorem Dev.raiseLog_audioIn (page n arg : Nat) : (d.raiseLog page n arg).audioIn = d.audioIn := (d.raiseLog_step page n arg).audioIn_eq
@[simp] theorem Dev.raiseLog_engines (page n arg : Nat) : (d.raiseLog page n arg).engines = d.engines := (d.raiseLog_step page n arg).engines_eq
@[simp] theorem Dev.raiseLog_journal (page n arg : Nat) : (d.raiseLog page n arg).journal = d.journal := (d.raiseLog_step page n arg).journal_eq
@[simp] theorem Dev.raiseLog_hie (page n arg : Nat) : (d.raiseLog page n arg).hie = d.hie := (d.raiseLog_step page n arg).hie_eq
@[simp] theorem Dev.raiseLog_sdiIn (page n arg : Nat) : (d.raiseLog page n arg).sdiIn = d.sdiIn := (d.raiseLog_step page n arg).sdiIn_eq
@[simp] theorem Dev.raiseLog_sdiOut (page n arg : Nat) : (d.raiseLog page n arg).sdiOut = d.sdiOut := (d.raiseLog_step page n arg).sdiOut_eq
@[simp] theorem Dev.raiseLog_audioOut (page n arg : Nat) : (d.raiseLog page n arg).audioOut = d.audioOut := (d.raiseLog_step page n arg).audioOut_eq
@[simp] theorem Dev.raiseLog_audioCount (page n arg : Nat) : (d.raiseLog page n arg).audioCount = d.audioCount := (d.raiseLog_step page n arg).audioCount_eq
@[simp] theorem Dev.raiseLog_media (page n arg : Nat) : (d.raiseLog page n arg).media = d.media := (d.raiseLog_step page n arg).media_eq
@[simp] theorem Dev.raiseLog_fil (page n arg : Nat) : (d.raiseLog page n arg).fil = d.fil := (d.raiseLog_step page n arg).fil_eq
@[simp] theorem Dev.raiseLog_audio (page n arg : Nat) : (d.raiseLog page n arg).audio = d.audio := (d.raiseLog_step page n arg).audio_eq
@[simp] theorem Dev.raiseLog_apts (page n arg : Nat) : (d.raiseLog page n arg).apts = d.apts := (d.raiseLog_step page n arg).apts_eq
@[simp] theorem Dev.raiseLog_dram (page n arg : Nat) : (d.raiseLog page n arg).dram = d.dram := (d.raiseLog_step page n arg).dram_eq
@[simp] theorem Dev.raiseLog_hal (page n arg : Nat) : (d.raiseLog page n arg).hal = d.hal := (d.raiseLog_step page n arg).hal_eq
@[simp] theorem Dev.raiseLog_temper (page n arg : Nat) : (d.raiseLog page n arg).temper = d.temper := (d.raiseLog_step page n arg).temper_eq
@[simp] theorem Dev.raiseLog_upd (page n arg : Nat) : (d.raiseLog page n arg).upd = d.upd := (d.raiseLog_step page n arg).upd_eq
@[simp] theorem Dev.raiseLog_twin (page n arg : Nat) : (d.raiseLog page n arg).twin = d.twin := (d.raiseLog_step page n arg).twin_eq
@[simp] theorem Dev.raiseLog_power (page n arg : Nat) : (d.raiseLog page n arg).power = d.power := (d.raiseLog_step page n arg).power_eq

@[simp] theorem Dev.raise_partH (page n arg : Nat) : (d.raise page n arg).partH = d.partH := (d.raise_step page n arg).partH_eq
@[simp] theorem Dev.raise_time (page n arg : Nat) : (d.raise page n arg).time = d.time := (d.raise_step page n arg).time_eq
@[simp] theorem Dev.raise_timeRem (page n arg : Nat) : (d.raise page n arg).timeRem = d.timeRem := (d.raise_step page n arg).timeRem_eq
@[simp] theorem Dev.raise_freeCount (page n arg : Nat) : (d.raise page n arg).freeCount = d.freeCount := (d.raise_step page n arg).freeCount_eq
@[simp] theorem Dev.raise_bellows (page n arg : Nat) : (d.raise page n arg).bellows = d.bellows := (d.raise_step page n arg).bellows_eq
@[simp] theorem Dev.raise_ptp (page n arg : Nat) : (d.raise page n arg).ptp = d.ptp := (d.raise_step page n arg).ptp_eq
@[simp] theorem Dev.raise_lanes (page n arg : Nat) : (d.raise page n arg).lanes = d.lanes := (d.raise_step page n arg).lanes_eq
@[simp] theorem Dev.raise_fabLanes (page n arg : Nat) : (d.raise page n arg).fabLanes = d.fabLanes := (d.raise_step page n arg).fabLanes_eq
@[simp] theorem Dev.raise_anvil (page n arg : Nat) : (d.raise page n arg).anvil = d.anvil := (d.raise_step page n arg).anvil_eq
@[simp] theorem Dev.raise_audioIn (page n arg : Nat) : (d.raise page n arg).audioIn = d.audioIn := (d.raise_step page n arg).audioIn_eq
@[simp] theorem Dev.raise_engines (page n arg : Nat) : (d.raise page n arg).engines = d.engines := (d.raise_step page n arg).engines_eq
@[simp] theorem Dev.raise_journal (page n arg : Nat) : (d.raise page n arg).journal = d.journal := (d.raise_step page n arg).journal_eq
@[simp] theorem Dev.raise_hie (page n arg : Nat) : (d.raise page n arg).hie = d.hie := (d.raise_step page n arg).hie_eq
@[simp] theorem Dev.raise_sdiIn (page n arg : Nat) : (d.raise page n arg).sdiIn = d.sdiIn := (d.raise_step page n arg).sdiIn_eq
@[simp] theorem Dev.raise_sdiOut (page n arg : Nat) : (d.raise page n arg).sdiOut = d.sdiOut := (d.raise_step page n arg).sdiOut_eq
@[simp] theorem Dev.raise_audioOut (page n arg : Nat) : (d.raise page n arg).audioOut = d.audioOut := (d.raise_step page n arg).audioOut_eq
@[simp] theorem Dev.raise_audioCount (page n arg : Nat) : (d.raise page n arg).audioCount = d.audioCount := (d.raise_step page n arg).audioCount_eq
@[simp] theorem Dev.raise_media (page n arg : Nat) : (d.raise page n arg).media = d.media := (d.raise_step page n arg).media_eq
@[simp] theorem Dev.raise_fil (page n arg : Nat) : (d.raise page n arg).fil = d.fil := (d.raise_step page n arg).fil_eq
@[simp] theorem Dev.raise_audio (page n arg : Nat) : (d.raise page n arg).audio = d.audio := (d.raise_step page n arg).audio_eq
@[simp] theorem Dev.raise_apts (page n arg : Nat) : (d.raise page n arg).apts = d.apts := (d.raise_step page n arg).apts_eq
@[simp] theorem Dev.raise_dram (page n arg : Nat) : (d.raise page n arg).dram = d.dram := (d.raise_step page n arg).dram_eq
@[simp] theorem Dev.raise_hal (page n arg : Nat) : (d.raise page n arg).hal = d.hal := (d.raise_step page n arg).hal_eq
@[simp] theorem Dev.raise_temper (page n arg : Nat) : (d.raise page n arg).temper = d.temper := (d.raise_step page n arg).temper_eq
@[simp] theorem Dev.raise_upd (page n arg : Nat) : (d.raise page n arg).upd = d.upd := (d.raise_step page n arg).upd_eq
@[simp] theorem Dev.raise_twin (page n arg : Nat) : (d.raise page n arg).twin = d.twin := (d.raise_step page n arg).twin_eq
@[simp] theorem Dev.raise_power (page n arg : Nat) : (d.raise page n arg).power = d.power := (d.raise_step page n arg).power_eq

@[simp] theorem Dev.raiseEntryLog_partH (page e n arg : Nat) : (d.raiseEntryLog page e n arg).partH = d.partH := (d.raiseEntryLog_step page e n arg).partH_eq
@[simp] theorem Dev.raiseEntryLog_time (page e n arg : Nat) : (d.raiseEntryLog page e n arg).time = d.time := (d.raiseEntryLog_step page e n arg).time_eq
@[simp] theorem Dev.raiseEntryLog_timeRem (page e n arg : Nat) : (d.raiseEntryLog page e n arg).timeRem = d.timeRem := (d.raiseEntryLog_step page e n arg).timeRem_eq
@[simp] theorem Dev.raiseEntryLog_freeCount (page e n arg : Nat) : (d.raiseEntryLog page e n arg).freeCount = d.freeCount := (d.raiseEntryLog_step page e n arg).freeCount_eq
@[simp] theorem Dev.raiseEntryLog_bellows (page e n arg : Nat) : (d.raiseEntryLog page e n arg).bellows = d.bellows := (d.raiseEntryLog_step page e n arg).bellows_eq
@[simp] theorem Dev.raiseEntryLog_ptp (page e n arg : Nat) : (d.raiseEntryLog page e n arg).ptp = d.ptp := (d.raiseEntryLog_step page e n arg).ptp_eq
@[simp] theorem Dev.raiseEntryLog_lanes (page e n arg : Nat) : (d.raiseEntryLog page e n arg).lanes = d.lanes := (d.raiseEntryLog_step page e n arg).lanes_eq
@[simp] theorem Dev.raiseEntryLog_fabLanes (page e n arg : Nat) : (d.raiseEntryLog page e n arg).fabLanes = d.fabLanes := (d.raiseEntryLog_step page e n arg).fabLanes_eq
@[simp] theorem Dev.raiseEntryLog_anvil (page e n arg : Nat) : (d.raiseEntryLog page e n arg).anvil = d.anvil := (d.raiseEntryLog_step page e n arg).anvil_eq
@[simp] theorem Dev.raiseEntryLog_audioIn (page e n arg : Nat) : (d.raiseEntryLog page e n arg).audioIn = d.audioIn := (d.raiseEntryLog_step page e n arg).audioIn_eq
@[simp] theorem Dev.raiseEntryLog_engines (page e n arg : Nat) : (d.raiseEntryLog page e n arg).engines = d.engines := (d.raiseEntryLog_step page e n arg).engines_eq
@[simp] theorem Dev.raiseEntryLog_journal (page e n arg : Nat) : (d.raiseEntryLog page e n arg).journal = d.journal := (d.raiseEntryLog_step page e n arg).journal_eq
@[simp] theorem Dev.raiseEntryLog_hie (page e n arg : Nat) : (d.raiseEntryLog page e n arg).hie = d.hie := (d.raiseEntryLog_step page e n arg).hie_eq
@[simp] theorem Dev.raiseEntryLog_sdiIn (page e n arg : Nat) : (d.raiseEntryLog page e n arg).sdiIn = d.sdiIn := (d.raiseEntryLog_step page e n arg).sdiIn_eq
@[simp] theorem Dev.raiseEntryLog_sdiOut (page e n arg : Nat) : (d.raiseEntryLog page e n arg).sdiOut = d.sdiOut := (d.raiseEntryLog_step page e n arg).sdiOut_eq
@[simp] theorem Dev.raiseEntryLog_audioOut (page e n arg : Nat) : (d.raiseEntryLog page e n arg).audioOut = d.audioOut := (d.raiseEntryLog_step page e n arg).audioOut_eq
@[simp] theorem Dev.raiseEntryLog_audioCount (page e n arg : Nat) : (d.raiseEntryLog page e n arg).audioCount = d.audioCount := (d.raiseEntryLog_step page e n arg).audioCount_eq
@[simp] theorem Dev.raiseEntryLog_media (page e n arg : Nat) : (d.raiseEntryLog page e n arg).media = d.media := (d.raiseEntryLog_step page e n arg).media_eq
@[simp] theorem Dev.raiseEntryLog_fil (page e n arg : Nat) : (d.raiseEntryLog page e n arg).fil = d.fil := (d.raiseEntryLog_step page e n arg).fil_eq
@[simp] theorem Dev.raiseEntryLog_audio (page e n arg : Nat) : (d.raiseEntryLog page e n arg).audio = d.audio := (d.raiseEntryLog_step page e n arg).audio_eq
@[simp] theorem Dev.raiseEntryLog_apts (page e n arg : Nat) : (d.raiseEntryLog page e n arg).apts = d.apts := (d.raiseEntryLog_step page e n arg).apts_eq
@[simp] theorem Dev.raiseEntryLog_dram (page e n arg : Nat) : (d.raiseEntryLog page e n arg).dram = d.dram := (d.raiseEntryLog_step page e n arg).dram_eq
@[simp] theorem Dev.raiseEntryLog_hal (page e n arg : Nat) : (d.raiseEntryLog page e n arg).hal = d.hal := (d.raiseEntryLog_step page e n arg).hal_eq
@[simp] theorem Dev.raiseEntryLog_temper (page e n arg : Nat) : (d.raiseEntryLog page e n arg).temper = d.temper := (d.raiseEntryLog_step page e n arg).temper_eq
@[simp] theorem Dev.raiseEntryLog_upd (page e n arg : Nat) : (d.raiseEntryLog page e n arg).upd = d.upd := (d.raiseEntryLog_step page e n arg).upd_eq
@[simp] theorem Dev.raiseEntryLog_twin (page e n arg : Nat) : (d.raiseEntryLog page e n arg).twin = d.twin := (d.raiseEntryLog_step page e n arg).twin_eq
@[simp] theorem Dev.raiseEntryLog_power (page e n arg : Nat) : (d.raiseEntryLog page e n arg).power = d.power := (d.raiseEntryLog_step page e n arg).power_eq

@[simp] theorem Dev.raiseEntry_partH (page e n arg : Nat) : (d.raiseEntry page e n arg).partH = d.partH := (d.raiseEntry_step page e n arg).partH_eq
@[simp] theorem Dev.raiseEntry_time (page e n arg : Nat) : (d.raiseEntry page e n arg).time = d.time := (d.raiseEntry_step page e n arg).time_eq
@[simp] theorem Dev.raiseEntry_timeRem (page e n arg : Nat) : (d.raiseEntry page e n arg).timeRem = d.timeRem := (d.raiseEntry_step page e n arg).timeRem_eq
@[simp] theorem Dev.raiseEntry_freeCount (page e n arg : Nat) : (d.raiseEntry page e n arg).freeCount = d.freeCount := (d.raiseEntry_step page e n arg).freeCount_eq
@[simp] theorem Dev.raiseEntry_bellows (page e n arg : Nat) : (d.raiseEntry page e n arg).bellows = d.bellows := (d.raiseEntry_step page e n arg).bellows_eq
@[simp] theorem Dev.raiseEntry_ptp (page e n arg : Nat) : (d.raiseEntry page e n arg).ptp = d.ptp := (d.raiseEntry_step page e n arg).ptp_eq
@[simp] theorem Dev.raiseEntry_lanes (page e n arg : Nat) : (d.raiseEntry page e n arg).lanes = d.lanes := (d.raiseEntry_step page e n arg).lanes_eq
@[simp] theorem Dev.raiseEntry_fabLanes (page e n arg : Nat) : (d.raiseEntry page e n arg).fabLanes = d.fabLanes := (d.raiseEntry_step page e n arg).fabLanes_eq
@[simp] theorem Dev.raiseEntry_anvil (page e n arg : Nat) : (d.raiseEntry page e n arg).anvil = d.anvil := (d.raiseEntry_step page e n arg).anvil_eq
@[simp] theorem Dev.raiseEntry_audioIn (page e n arg : Nat) : (d.raiseEntry page e n arg).audioIn = d.audioIn := (d.raiseEntry_step page e n arg).audioIn_eq
@[simp] theorem Dev.raiseEntry_engines (page e n arg : Nat) : (d.raiseEntry page e n arg).engines = d.engines := (d.raiseEntry_step page e n arg).engines_eq
@[simp] theorem Dev.raiseEntry_journal (page e n arg : Nat) : (d.raiseEntry page e n arg).journal = d.journal := (d.raiseEntry_step page e n arg).journal_eq
@[simp] theorem Dev.raiseEntry_hie (page e n arg : Nat) : (d.raiseEntry page e n arg).hie = d.hie := (d.raiseEntry_step page e n arg).hie_eq
@[simp] theorem Dev.raiseEntry_sdiIn (page e n arg : Nat) : (d.raiseEntry page e n arg).sdiIn = d.sdiIn := (d.raiseEntry_step page e n arg).sdiIn_eq
@[simp] theorem Dev.raiseEntry_sdiOut (page e n arg : Nat) : (d.raiseEntry page e n arg).sdiOut = d.sdiOut := (d.raiseEntry_step page e n arg).sdiOut_eq
@[simp] theorem Dev.raiseEntry_audioOut (page e n arg : Nat) : (d.raiseEntry page e n arg).audioOut = d.audioOut := (d.raiseEntry_step page e n arg).audioOut_eq
@[simp] theorem Dev.raiseEntry_audioCount (page e n arg : Nat) : (d.raiseEntry page e n arg).audioCount = d.audioCount := (d.raiseEntry_step page e n arg).audioCount_eq
@[simp] theorem Dev.raiseEntry_media (page e n arg : Nat) : (d.raiseEntry page e n arg).media = d.media := (d.raiseEntry_step page e n arg).media_eq
@[simp] theorem Dev.raiseEntry_fil (page e n arg : Nat) : (d.raiseEntry page e n arg).fil = d.fil := (d.raiseEntry_step page e n arg).fil_eq
@[simp] theorem Dev.raiseEntry_audio (page e n arg : Nat) : (d.raiseEntry page e n arg).audio = d.audio := (d.raiseEntry_step page e n arg).audio_eq
@[simp] theorem Dev.raiseEntry_apts (page e n arg : Nat) : (d.raiseEntry page e n arg).apts = d.apts := (d.raiseEntry_step page e n arg).apts_eq
@[simp] theorem Dev.raiseEntry_dram (page e n arg : Nat) : (d.raiseEntry page e n arg).dram = d.dram := (d.raiseEntry_step page e n arg).dram_eq
@[simp] theorem Dev.raiseEntry_hal (page e n arg : Nat) : (d.raiseEntry page e n arg).hal = d.hal := (d.raiseEntry_step page e n arg).hal_eq
@[simp] theorem Dev.raiseEntry_temper (page e n arg : Nat) : (d.raiseEntry page e n arg).temper = d.temper := (d.raiseEntry_step page e n arg).temper_eq
@[simp] theorem Dev.raiseEntry_upd (page e n arg : Nat) : (d.raiseEntry page e n arg).upd = d.upd := (d.raiseEntry_step page e n arg).upd_eq
@[simp] theorem Dev.raiseEntry_twin (page e n arg : Nat) : (d.raiseEntry page e n arg).twin = d.twin := (d.raiseEntry_step page e n arg).twin_eq
@[simp] theorem Dev.raiseEntry_power (page e n arg : Nat) : (d.raiseEntry page e n arg).power = d.power := (d.raiseEntry_step page e n arg).power_eq

@[simp] theorem Dev.ownerViol_partH (page off : Nat) (w : Writer) : (d.ownerViol page off w).partH = d.partH := (d.ownerViol_step page off w).partH_eq
@[simp] theorem Dev.ownerViol_time (page off : Nat) (w : Writer) : (d.ownerViol page off w).time = d.time := (d.ownerViol_step page off w).time_eq
@[simp] theorem Dev.ownerViol_timeRem (page off : Nat) (w : Writer) : (d.ownerViol page off w).timeRem = d.timeRem := (d.ownerViol_step page off w).timeRem_eq
@[simp] theorem Dev.ownerViol_freeCount (page off : Nat) (w : Writer) : (d.ownerViol page off w).freeCount = d.freeCount := (d.ownerViol_step page off w).freeCount_eq
@[simp] theorem Dev.ownerViol_bellows (page off : Nat) (w : Writer) : (d.ownerViol page off w).bellows = d.bellows := (d.ownerViol_step page off w).bellows_eq
@[simp] theorem Dev.ownerViol_ptp (page off : Nat) (w : Writer) : (d.ownerViol page off w).ptp = d.ptp := (d.ownerViol_step page off w).ptp_eq
@[simp] theorem Dev.ownerViol_lanes (page off : Nat) (w : Writer) : (d.ownerViol page off w).lanes = d.lanes := (d.ownerViol_step page off w).lanes_eq
@[simp] theorem Dev.ownerViol_fabLanes (page off : Nat) (w : Writer) : (d.ownerViol page off w).fabLanes = d.fabLanes := (d.ownerViol_step page off w).fabLanes_eq
@[simp] theorem Dev.ownerViol_anvil (page off : Nat) (w : Writer) : (d.ownerViol page off w).anvil = d.anvil := (d.ownerViol_step page off w).anvil_eq
@[simp] theorem Dev.ownerViol_audioIn (page off : Nat) (w : Writer) : (d.ownerViol page off w).audioIn = d.audioIn := (d.ownerViol_step page off w).audioIn_eq
@[simp] theorem Dev.ownerViol_engines (page off : Nat) (w : Writer) : (d.ownerViol page off w).engines = d.engines := (d.ownerViol_step page off w).engines_eq
@[simp] theorem Dev.ownerViol_journal (page off : Nat) (w : Writer) : (d.ownerViol page off w).journal = d.journal := (d.ownerViol_step page off w).journal_eq
@[simp] theorem Dev.ownerViol_hie (page off : Nat) (w : Writer) : (d.ownerViol page off w).hie = d.hie := (d.ownerViol_step page off w).hie_eq
@[simp] theorem Dev.ownerViol_sdiIn (page off : Nat) (w : Writer) : (d.ownerViol page off w).sdiIn = d.sdiIn := (d.ownerViol_step page off w).sdiIn_eq
@[simp] theorem Dev.ownerViol_sdiOut (page off : Nat) (w : Writer) : (d.ownerViol page off w).sdiOut = d.sdiOut := (d.ownerViol_step page off w).sdiOut_eq
@[simp] theorem Dev.ownerViol_audioOut (page off : Nat) (w : Writer) : (d.ownerViol page off w).audioOut = d.audioOut := (d.ownerViol_step page off w).audioOut_eq
@[simp] theorem Dev.ownerViol_audioCount (page off : Nat) (w : Writer) : (d.ownerViol page off w).audioCount = d.audioCount := (d.ownerViol_step page off w).audioCount_eq
@[simp] theorem Dev.ownerViol_media (page off : Nat) (w : Writer) : (d.ownerViol page off w).media = d.media := (d.ownerViol_step page off w).media_eq
@[simp] theorem Dev.ownerViol_fil (page off : Nat) (w : Writer) : (d.ownerViol page off w).fil = d.fil := (d.ownerViol_step page off w).fil_eq
@[simp] theorem Dev.ownerViol_audio (page off : Nat) (w : Writer) : (d.ownerViol page off w).audio = d.audio := (d.ownerViol_step page off w).audio_eq
@[simp] theorem Dev.ownerViol_apts (page off : Nat) (w : Writer) : (d.ownerViol page off w).apts = d.apts := (d.ownerViol_step page off w).apts_eq
@[simp] theorem Dev.ownerViol_dram (page off : Nat) (w : Writer) : (d.ownerViol page off w).dram = d.dram := (d.ownerViol_step page off w).dram_eq
@[simp] theorem Dev.ownerViol_hal (page off : Nat) (w : Writer) : (d.ownerViol page off w).hal = d.hal := (d.ownerViol_step page off w).hal_eq
@[simp] theorem Dev.ownerViol_temper (page off : Nat) (w : Writer) : (d.ownerViol page off w).temper = d.temper := (d.ownerViol_step page off w).temper_eq
@[simp] theorem Dev.ownerViol_upd (page off : Nat) (w : Writer) : (d.ownerViol page off w).upd = d.upd := (d.ownerViol_step page off w).upd_eq
@[simp] theorem Dev.ownerViol_twin (page off : Nat) (w : Writer) : (d.ownerViol page off w).twin = d.twin := (d.ownerViol_step page off w).twin_eq
@[simp] theorem Dev.ownerViol_power (page off : Nat) (w : Writer) : (d.ownerViol page off w).power = d.power := (d.ownerViol_step page off w).power_eq

end Sys2Proof.Machine
end

