-- ==== Sys2Proof/Laws/Events.lean ====
section
/-!
SUPPORT. Which registers an event can change, and the sticky bit it leaves set.
-/

namespace Sys2Proof.Machine

open Sys2Proof

variable (d : Dev)

/-- The registers that every event may change: EVT_NEW of the SYS page, the event write position and the drop count. -/
def evtRegs : List Nat := [Reg.PG_STICKY Reg.pageSYS, Reg.SYS_EVT_WR, Reg.TMP_EVT_DROP]

/-- Interrupts change no register. -/
@[simp] theorem Dev.msixDue_rd (v a : Nat) : (d.msixDue v).rd a = d.rd a := by unfold Dev.msixDue; split <;> rfl

@[simp] theorem Dev.irqUpdate_rd (page a : Nat) (again : Bool) : (d.irqUpdate page again).rd a = d.rd a := by
  unfold Dev.irqUpdate; dsimp only
  split
  · rfl
  · split
    · rw [Dev.msixDue_rd]; rfl
    · rfl

theorem Dev.stickyOnly_rd (page n a : Nat) (h : a ≠ Reg.PG_STICKY page) : (d.stickyOnly page n).rd a = d.rd a := by
  unfold Dev.stickyOnly; rw [Dev.irqUpdate_rd, Dev.rd_setFlag_ne _ _ _ _ _ h]

theorem Dev.statusIrq_rd (page n a : Nat) (h : a ≠ Reg.PG_IRQ_FORCE page) : (d.statusIrq page n).rd a = d.rd a := by
  unfold Dev.statusIrq; split
  · rw [Dev.irqUpdate_rd, Dev.rd_setFlag_ne _ _ _ _ _ h]
  · rfl

/-- What an event can do: nothing in a sealed journal, count a drop, or be logged and set EVT_NEW. -/
theorem Dev.logCode_cases (page code arg tp : Nat) :
    d.logCode page code arg tp = d ∨ d.logCode page code arg tp = d.bump Reg.TMP_EVT_DROP 15 0 ∨
    ∃ x : EventLog, d.logCode page code arg tp = (({ d with evlog := x } : Dev).wrNat Reg.SYS_EVT_WR
      ((d.rd Reg.SYS_EVT_WR).toNat + 1)).stickyOnly Reg.pageSYS 7 := by
  unfold Dev.logCode
  by_cases h : d.fld Reg.TMP_STAT 1 0 = 3
  · left; rw [if_pos h]
  · right; rw [if_neg h]; dsimp only
    generalize (if d.nowNs / 1000000000 = d.evlog.second then d.evlog.inSecond else 0) = cnt
    by_cases g : cnt ≥ 16384
    · left; rw [if_pos g]
    · right; rw [if_neg g]; exact ⟨_, rfl⟩

theorem Dev.logCode_rd (page code arg tp a : Nat) (h : a ∉ evtRegs) : (d.logCode page code arg tp).rd a = d.rd a := by
  simp only [evtRegs, List.mem_cons, List.not_mem_nil, or_false, not_or] at h
  rcases d.logCode_cases page code arg tp with e | e | ⟨x, e⟩ <;> rw [e]
  · exact Dev.rd_bump_ne _ _ _ _ _ h.2.2
  · rw [Dev.stickyOnly_rd _ _ _ _ h.1, Dev.rd_wrNat_ne _ _ _ _ h.2.1]; rfl

theorem Dev.logEvent_rd (page num arg a : Nat) (h : a ∉ evtRegs) : (d.logEvent page num arg).rd a = d.rd a :=
  d.logCode_rd _ _ _ _ a h

theorem Dev.raiseLog_rd (page n arg a : Nat) (hp : a ≠ Reg.PG_STICKY page) (h : a ∉ evtRegs) :
    (d.raiseLog page n arg).rd a = d.rd a := by
  unfold Dev.raiseLog; rw [Dev.logEvent_rd _ _ _ _ _ h, Dev.stickyOnly_rd _ _ _ _ hp]

/-- A sticky bit with its event leaves every register alone but the page's PG_STICKY and those of the event log. -/
theorem Dev.raise_rd (page n arg a : Nat) (hp : a ≠ Reg.PG_STICKY page) (h : a ∉ evtRegs) :
    (d.raise page n arg).rd a = d.rd a := by
  unfold Dev.raise; split
  · rfl
  · exact d.raiseLog_rd page n arg a hp h

theorem Dev.raiseEntryLog_rd (page e n arg a : Nat) (hp : some a ≠ entryStickyAddr page e) (h : a ∉ evtRegs) :
    (d.raiseEntryLog page e n arg).rd a = d.rd a := by
  unfold Dev.raiseEntryLog; split
  · rfl
  · rename_i b hb
    rw [Dev.logCode_rd _ _ _ _ _ _ h, Dev.irqUpdate_rd, Dev.rd_setFlag_ne]
    rintro rfl; exact hp hb.symm

theorem Dev.raiseEntry_rd (page e n arg a : Nat) (hp : some a ≠ entryStickyAddr page e) (h : a ∉ evtRegs) :
    (d.raiseEntry page e n arg).rd a = d.rd a := by
  unfold Dev.raiseEntry; split
  · rfl
  · split
    · rfl
    · exact d.raiseEntryLog_rd page e n arg a hp h

/-- No sticky bit is lost by an event: the bits of a page's PG_STICKY that were set stay set. -/
theorem Dev.stickyOnly_flag (page n a m : Nat) (hn : n < 32) (hs : d.flag a m = true) :
    (d.stickyOnly page n).flag a m = true := by
  unfold Dev.stickyOnly Dev.flag; rw [Dev.irqUpdate_rd]
  by_cases h : a = Reg.PG_STICKY page
  · by_cases e : m = n
    · subst h e; exact d.flag_setFlag_self _ _ _ hn
    · subst h; exact (d.flag_setFlag_apart _ n m true hn e).trans hs
  · exact (congrArg (fun w => bit w m) (d.rd_setFlag_ne _ _ n true h)).trans hs

theorem Dev.logCode_flag_sticky (page code arg tp p m : Nat) (h1 : Reg.PG_STICKY p ≠ Reg.SYS_EVT_WR)
    (h2 : Reg.PG_STICKY p ≠ Reg.TMP_EVT_DROP) (hs : d.flag (Reg.PG_STICKY p) m = true) :
    (d.logCode page code arg tp).flag (Reg.PG_STICKY p) m = true := by
  rcases d.logCode_cases page code arg tp with e | e | ⟨x, e⟩ <;> rw [e]
  · exact hs
  · unfold Dev.flag; rw [Dev.rd_bump_ne _ _ _ _ _ h2]; exact hs
  · refine Dev.stickyOnly_flag _ _ _ _ _ (by omega) ?_
    unfold Dev.flag; rw [Dev.rd_wrNat_ne _ _ _ _ h1]; exact hs

/-- PG_STICKY is at 0x014 of its page: no event log register is one. -/
theorem PG_STICKY_ne (p : Nat) : Reg.PG_STICKY p ≠ Reg.SYS_EVT_WR ∧ Reg.PG_STICKY p ≠ Reg.TMP_EVT_DROP := by
  constructor <;> (simp only [Reg.PG_STICKY, Reg.SYS_EVT_WR, Reg.TMP_EVT_DROP]; omega)

/-- After its condition is reported, the sticky bit reads 1 (R137). -/
theorem Dev.raise_flag_self (page n arg : Nat) (hn : n < 32) :
    (d.raise page n arg).flag (Reg.PG_STICKY page) n = true := by
  unfold Dev.raise; split
  · assumption
  · refine Dev.logCode_flag_sticky _ _ _ _ _ _ _ (PG_STICKY_ne page).1 (PG_STICKY_ne page).2 ?_
    unfold Dev.stickyOnly Dev.flag; rw [Dev.irqUpdate_rd]; exact d.flag_setFlag_self _ _ _ hn

end Sys2Proof.Machine
end

