-- ==== Sys2Proof/Laws/Memory.lean ====
section
/-!
SUPPORT. Laws of DRAM and host memory: a byte written reads back, every other byte is as before, and every operation keeps the
canonical form.
-/

namespace Sys2Proof.Machine

open Sys2Proof

@[simp] theorem Mem.byte_setByte_self (m : Mem) (dram : Bool) (a : Nat) (v : Byte) : (m.setByte dram a v).byte dram a = v := by
  cases dram <;> simp [Mem.byte, Mem.setByte]

/-- A write of one byte leaves every other byte of that memory alone. -/
theorem Mem.byte_setByte_ne (m : Mem) (dram : Bool) (a b : Nat) (v : Byte) (h : b ≠ a) :
    (m.setByte dram a v).byte dram b = m.byte dram b := by
  cases dram <;> simp [Mem.byte, Mem.setByte, Sparse.get_set_ne _ _ _ _ _ h]

/-- A write of one memory leaves the other alone. -/
theorem Mem.byte_setByte_other (m : Mem) (dram other : Bool) (a b : Nat) (v : Byte) (h : other ≠ dram) :
    (m.setByte dram a v).byte other b = m.byte other b := by
  cases dram <;> cases other <;> simp_all [Mem.byte, Mem.setByte]

/-- A write of bytes leaves every byte outside them alone. -/
theorem Mem.byte_setBytes_ne (dram : Bool) (l : List Byte) (m : Mem) (a b : Nat) (h : b < a ∨ a + l.length ≤ b) :
    (m.setBytes dram a l).byte dram b = m.byte dram b := by
  induction l generalizing m a with
  | nil => rfl
  | cons x t ih =>
    simp only [List.length_cons] at h
    rw [Mem.setBytes, ih _ _ (by omega), Mem.byte_setByte_ne _ _ _ _ _ (by omega)]

/-- A write of bytes reads back. -/
theorem Mem.byte_setBytes (dram : Bool) (l : List Byte) (m : Mem) (a i : Nat) (h : i < l.length) :
    (m.setBytes dram a l).byte dram (a + i) = l[i] := by
  induction l generalizing m a i with
  | nil => simp at h
  | cons x t ih =>
    rw [Mem.setBytes]
    cases i with
    | zero => rw [Nat.add_zero, Mem.byte_setBytes_ne _ _ _ _ _ (by omega)]; simp
    | succ i =>
      have := ih (m.setByte dram a x) (a + 1) i (by simpa using h)
      simpa [Nat.add_assoc, Nat.add_comm 1 i] using this

theorem Mem.wf_setByte (m : Mem) (dram : Bool) (a : Nat) (v : Byte) (h : m.wf = true) : (m.setByte dram a v).wf = true := by
  simp only [Mem.wf, Bool.and_eq_true] at *
  cases dram <;> simp [Mem.setByte, Sparse.wf_set, h.1, h.2]

theorem Mem.wf_setBytes (dram : Bool) (l : List Byte) (m : Mem) (a : Nat) (h : m.wf = true) : (m.setBytes dram a l).wf = true := by
  induction l generalizing m a with
  | nil => exact h
  | cons x t ih => exact ih _ _ (m.wf_setByte dram a x h)

theorem Mem.wf_hostWrote (cells : List Host.Cell) (m : Mem) (h : m.wf = true) : (m.hostWrote cells).wf = true := by
  induction cells generalizing m with
  | nil => exact h
  | cons x t ih => exact ih _ (m.wf_setByte false x.1 x.2 h)

/-- A cold start finds nothing in DRAM. -/
theorem Mem.wf_noDram (m : Mem) (h : m.wf = true) : ({ m with dram := [] } : Mem).wf = true := by
  simp only [Mem.wf, Bool.and_eq_true] at *
  exact ⟨rfl, h.2⟩

/-- The memory right after reset is in canonical form. -/
theorem State.reset_mem_wf : State.reset.mem.wf = true := rfl

end Sys2Proof.Machine
end

