-- ==== Sys2Proof/Laws/Ops.lean ====
section
/-!
SUPPORT. What each way of lifting an effect to the machine does to a device that answers, and to one that does not.
-/

namespace Sys2Proof.Machine

open Sys2Proof

variable {s : State}

theorem State.onDev_up (h : s.Up) (f : Dev → Dev) : s.onDev f = .next { s with dev := f s.dev } := by
  simp [State.onDev, Dev.whenUp, h]

theorem State.onDevHost_up (h : s.Up) (cells : List Host.Cell) (f : Mem → Dev → Dev) :
    s.onDevHost cells f = .next { s with dev := f (s.mem.hostWrote cells) s.dev, mem := s.mem.hostWrote cells } := by
  simp [State.onDevHost, Dev.whenUp, h]

theorem State.onBoth_up (h : s.Up) (f : Dev → Mem → Dev × Mem) :
    s.onBoth f = .next { s with dev := (f s.dev s.mem).1, mem := (f s.dev s.mem).2 } := by
  simp [State.onBoth, h]

theorem State.onDev_down (h : ¬ s.Up) (f : Dev → Dev) : s.onDev f = .next s := by
  simp [State.onDev, Dev.whenUp, h]

theorem State.onBoth_down (h : ¬ s.Up) (f : Dev → Mem → Dev × Mem) : s.onBoth f = .next s := by
  simp [State.onBoth, h]

theorem State.onDevHost_down (h : ¬ s.Up) (cells : List Host.Cell) (f : Mem → Dev → Dev) :
    s.onDevHost cells f = .next { s with mem := s.mem.hostWrote cells } := by
  simp [State.onDevHost, Dev.whenUp, h]

/-- A write that reaches its register has its effect. -/
theorem Dev.gated_open (d : Dev) {page off : Nat} {w : Writer} (h : d.gate page off w = .open_) (f : Dev → Dev) :
    d.gated page off w f = f d := by simp [Dev.gated, h]

/-- A write that opens is of a page in use. -/
theorem Dev.gate_inUse (d : Dev) {page off : Nat} {w : Writer} (h : d.gate page off w = .open_) : pageInUse page = true := by
  unfold Dev.gate at h
  cases hn : pageInUse page
  · simp [hn] at h
  · rfl

/-- A command whose operands can be carried has its effect. -/
theorem guarded_ok {ok : Bool} (h : ok = true) (o : Host.Outcome State Fault Refusal) : guarded ok o = o := by simp [guarded, h]

/-! ### Frames -/

theorem Leaves.refl (parts : List Part) (regs : List Nat) (s : State) : Leaves parts regs s s :=
  ⟨rfl, rfl, rfl, fun p _ => by cases p <;> simp [Part.same], fun _ _ => rfl⟩

theorem Leaves.mono {p q : List Part} {r l : List Nat} {s t : State} (h : Leaves p r s t) (hp : ∀ x ∈ p, x ∈ q)
    (hr : ∀ x ∈ r, x ∈ l) : Leaves q l s t :=
  ⟨h.1, h.2.1, h.2.2.1, fun x hx => h.2.2.2.1 x fun g => hx (hp x g), fun a ha => h.2.2.2.2 a fun g => ha (hr a g)⟩

theorem Leaves.trans {p : List Part} {r : List Nat} {s t u : State} (h : Leaves p r s t) (g : Leaves p r t u) : Leaves p r s u := by
  refine ⟨g.1.trans h.1, g.2.1.trans h.2.1, g.2.2.1.trans h.2.2.1, fun x hx => ?_, fun a ha => (g.2.2.2.2 a ha).trans (h.2.2.2.2 a ha)⟩
  have h1 := h.2.2.2.1 x hx
  have g1 := g.2.2.2.1 x hx
  cases x <;> simp_all [Part.same]

/-- A device that differs from `d` in registers alone. -/
theorem Leaves.ofRegs {s : State} {e : Dev} {r : List Nat} (h : e = { s.dev with regs := e.regs })
    (hr : ∀ a, a ∉ r → e.rd a = s.dev.rd a) : Leaves [] r s { s with dev := e } := by
  refine ⟨rfl, rfl, ?_, fun p _ => ?_, hr⟩
  · show e.partH = s.dev.partH; rw [h]
  · show p.same s.dev e
    rw [h]; cases p <;> first | exact ⟨rfl, rfl⟩ | rfl

/-- A device that an event step leads to. -/
theorem Leaves.ofEvent {s : State} {e : Dev} {r : List Nat} (h : s.dev.eventStep e) (hr : ∀ a, a ∉ r → e.rd a = s.dev.rd a) :
    Leaves eventParts r s { s with dev := e } := by
  refine ⟨rfl, rfl, h.partH_eq, fun p hp => ?_, hr⟩
  show p.same s.dev e
  unfold Dev.eventStep at h
  generalize e.regs = r1 at h
  generalize e.evlog = r2 at h
  generalize e.hostif = r3 at h
  generalize e.outbox = r4 at h
  subst h
  cases p <;> first | exact ⟨rfl, rfl⟩ | rfl | exact absurd (by simp [eventParts]) hp

end Sys2Proof.Machine
end

