-- ==== Sys2Proof/Tests/Slice0.lean ====
section
/-!
SUPPORT. Tests: for every statement with hypotheses a state and operands that meet them; one term that `wellFormed` refuses for each
of its checks; and small runs of one step whose expected results stand in the spec.
-/

open Sys2Proof Sys2Proof.Machine

-- one theorem at a time: the runs of a step take memory
set_option Elab.async false

namespace Sys2Proof.Tests

/-- A device that runs, with these register words. -/
def upWith (l : List (Nat × Nat)) : State :=
  { State.reset with dev := l.foldl (fun d p => d.wrNat p.1 p.2) { Dev.reset with power := { Dev.reset.power with run := .up } } }

/-- Change the device of a state. -/
def on (s : State) (f : Dev → Dev) : State := { s with dev := f s.dev }

/-- A running device at position 5 with this HIE_ROLE, a hierarchy key and epoch 4, whose peer 3 was last acted on at SEQ 9. -/
def tongsWith (role : Nat) (l : List (Nat × Nat)) (x : Peer := Peer.reset) : State :=
  on (upWith ([(Reg.HAL_STAT, 1), (Reg.HIE_ROLE, role), (Reg.HIE_EPOCH, 4), (Reg.TWN_STAT, 0)] ++ l)) fun d =>
    ({ d with hal := { d.hal with hierKeys := 1 } } : Dev).setPeer 3 { x with heard := true, acted := 9 }

/-- HIE_ROLE of a worker whose manager is at position 3, and of the manager. -/
def asWorker : Nat := 10293
def asManager : Nat := 10324

/-- The head of a message from position 3. -/
def head3 (seq : Nat) : TongsHead := ⟨false, false, 3, 0, 5, 4, seq, 0⟩

/-- A HEALTH body. -/
def health3 : Health := ⟨2, true, false, 0, true, 2, 6, false, 0, 0, 1, 0, 4, 0, 0, 0, 0, 0, false, false, 0, 0, 0, 0⟩

end Sys2Proof.Tests

open Sys2Proof.Tests

/-- A running device with two commands waiting. -/
def waiting : State := { upWith [] with pending := [.slewEnd, .timeStep] }

/-- A running device whose DDR_CH page 3 belongs to FIRMWARE. -/
def owned : State := upWith [(Reg.PG_OWNER 0x17, 2), (Reg.TWN_STAT, 0)]

/-- A device held in reset. -/
def heldDev : State := on State.reset fun d => d.onPower fun p => { p with run := .held }

/-- Every clause of `Obligations.AStepRunsTheFrontCommand` with a hypothesis has a state and operands that meet it. -/
theorem test_AStepRunsTheFrontCommand_met :
    (∃ (c : Instr) (l : List Instr) (s : State), s.pending = c :: l) ∧ (∃ (s : State), s.pending = [] ∧ s.Up) ∧
      ∃ (s : State), s.pending = [] ∧ ¬ s.Up :=
  ⟨⟨.slewEnd, [.timeStep], waiting, rfl⟩, ⟨State.reset, by decide⟩, ⟨heldDev, by decide⟩⟩

/-- Every clause of `Obligations.ResetLeavesTheDirectoryValues` with a hypothesis has registers that meet it, the last ones among them. -/
theorem test_ResetLeavesTheDirectoryValues_met :
    (∃ (page off : Nat), 0 < page ∧ (page < 0x1C0 ∨ 0x1C3 < page) ∧ 0x00C ≤ off ∧ off < 0x800 ∧ (regRow page off).isSome = true) ∧
      ∃ (n : Nat), 192 ≤ n ∧ n < 196 :=
  ⟨⟨0xA1F, 0x00C, by decide +kernel⟩, ⟨195, by decide⟩⟩

/-- `Obligations.EveryStepKeepsMemoryCanonical` has a step from a canonical state. -/
theorem test_EveryStepKeepsMemoryCanonical_met : ∃ (s t : State), s.Canonical ∧ step s = .next t :=
  ⟨State.reset, _, by decide, rfl⟩

/-- `Obligations.WritesOfNonOwnersAreIgnored` has a write of a non-owner, on a page whose owner can change and on the directory. -/
theorem test_WritesOfNonOwnersAreIgnored_met :
    (∃ (s : State) (c : Instr) (page off : Nat) (w : Writer), regTarget c = some (page, off, w) ∧ s.Up ∧
        s.dev.gate page off w = .violation) ∧
      ∃ (s : State) (c : Instr) (w : Writer), regTarget c = some (0, 0x040, w) ∧ s.Up ∧ s.dev.gate 0 0x040 w = .violation :=
  ⟨⟨owned, .snapshotFreeze 0x17 .pcie, 0x17, 0x028, .pcie, by decide +kernel⟩,
    ⟨owned, .registerWrite 0x40 5 ⟨.firmware, 0⟩, ⟨.firmware, 0⟩, by decide +kernel⟩⟩

/-- Every clause of `Obligations.CommandsThatFindNoAnswer` has a state and a command that meet it. -/
theorem test_CommandsThatFindNoAnswer_met :
    (∃ (s : State) (c : Instr) (page off : Nat) (w : Writer), regTarget c = some (page, off, w) ∧ s.Up ∧ pageInUse page = false) ∧
      (∃ (s : State) (c : Instr) (page off : Nat) (w : Writer), regTarget c = some (page, off, w) ∧ s.Up ∧
        s.dev.gate page off w = .standby) ∧
      ∃ (s t : State) (c : Instr), ¬ s.Up ∧ actsAlways c = false ∧ exec c s = .next t :=
  ⟨⟨State.reset, .softReset 0x3FFF .pcie, 0x3FFF, 0x00C, .pcie, by decide +kernel⟩,
    ⟨upWith [(Reg.TWN_STAT, 3)], .take .pcie, Reg.pageTAKECMD, 0x054, .pcie, by decide +kernel⟩, ⟨heldDev, _, .slewEnd, by decide, by decide, rfl⟩⟩

/-- Every clause of `Obligations.EveryCommandCompletes` with a hypothesis has a state and a command that meet it. -/
theorem test_EveryCommandCompletes_met :
    (∃ (s : State) (port : Fin 24) (p len : Nat) (keep : Bool), wellFormed (.dramRequest port p len none keep) = true ∧
        p < s.dev.dramGeo.bytes) ∧
      (∃ (s : State) (port : Fin 24) (p len : Nat) (keep : Bool), wellFormed (.dramRequest port p len none keep) = true ∧
        s.dev.dramGeo.bytes ≤ p) ∧
      (∃ (c : Instr), wellFormed c = false) ∧ ∃ (s t : State) (c : Instr), storesMemory c = false ∧ exec c s = .next t :=
  ⟨⟨upWith [(Reg.DDR_CFG + 0x800, 257)], 23, 0, 32, false, by decide +kernel⟩, ⟨State.reset, 0, 2 ^ 40, 32, false, by decide +kernel⟩, ⟨.registerWrite 3 0 .pcie, rfl⟩,
    ⟨State.reset, _, .slewEnd, rfl, rfl⟩⟩

/-- Every clause of `Obligations.CandidatesAreMeasuredAndDisqualified` has a state and operands that meet it. -/
theorem test_CandidatesAreMeasuredAndDisqualified_met :
    (∃ (s : State) (_n : Fin 4) (_phase : Int) (_freq : Int), s.Up) ∧
    (∃ (s : State) (n : Fin 4) (kind : PulseKind) (_phase : Int) (_freq : Int), s.Up ∧ kind ≠ .inPlace ∧ s.dev.rankOf n ≠ 15 ∧ (s.dev.qualified n = true)) ∧
    (∃ (s : State) (_phase : Int) (_freq : Int), s.Up) ∧
    (∃ (s : State) (c : RefClock), s.Up ∧ s.dev.rankOf c.cand ≠ 15 ∧ (s.dev.qualified c.cand = true)) ∧
    (∃ (s : State) (c : RefClock), s.Up ∧ s.dev.rankOf c.cand ≠ 15 ∧ (s.dev.qualified c.cand = true)) ∧
    (∃ (s : State) (c : Fin 8), s.Up ∧ s.dev.rankOf c ≠ 15 ∧ (s.dev.qualified c = false)) :=
  ⟨⟨upWith [], 3, -5, 7, by decide +kernel⟩,
    ⟨upWith [(Reg.REF_CAND_STAT 3, 0x10), (Reg.REF_CAND_CTRL 3 + 0x800, 0)], 3, .extra, 0, 0, by decide +kernel, by decide +kernel, by decide +kernel, by decide +kernel⟩,
    ⟨upWith [], -5, 7, by decide +kernel⟩,
    ⟨upWith [(Reg.REF_CAND_STAT 5, 0x10), (Reg.REF_CAND_CTRL 5 + 0x800, 0)], .freqIn, by decide +kernel, by decide +kernel, by decide +kernel⟩,
    ⟨upWith [(Reg.REF_CAND_STAT 0, 0x10), (Reg.REF_CAND_CTRL 0 + 0x800, 14)], .refin 0, by decide +kernel, by decide +kernel, by decide +kernel⟩,
    ⟨upWith [(Reg.REF_CAND_CTRL 7 + 0x800, 0)], 7, by decide +kernel, by decide +kernel, by decide +kernel⟩⟩

/-- Every clause of `Obligations.TheBellowsFollowsItsReference` has a state and operands that meet it. -/
theorem test_TheBellowsFollowsItsReference_met :
    (∃ (s : State) (c : Fin 8) (_phase : Int) (freq : Int), s.Up ∧ (s.dev.candAllowed c = true) ∧ (s.dev.qualified c = false) ∧ (s.dev.bellows.slew = none) ∧ (s.dev.bellows.cands.length = 8) ∧ -50000000 ≤ s.dev.corrNow + freq ∧ s.dev.corrNow + freq ≤ 50000000) ∧
    (∃ (s : State) (c : Fin 8), s.Up ∧ ((s.dev.cand c).holdoffRun = true)) ∧
    (∃ (s : State) (e : Int) (a : Nat), s.Up ∧ (s.dev.bellows.slew = some e) ∧ (s.dev.activeCand = some a) ∧ (s.dev.qualified a = true) ∧ s.dev.rankOf a ≠ 15 ∧ (s.dev.liveFlag Reg.REF_CTRL 0 = false)) ∧
    (∃ (s : State) (e : Int), s.Up ∧ (s.dev.bellows.stepDue = some e) ∧ 0 ≤ (s.dev.time : Int) + e * 16384) ∧
    (∃ (s : State) (a : Nat) (_phase : Int), s.Up ∧ (s.dev.activeCand = some a) ∧ s.dev.belState ≠ belLost ∧ (s.dev.liveFlag Reg.REF_CTRL 1 = false) ∧ (s.dev.bellows.slew = none) ∧ ((a = 4 → s.dev.flag Reg.PTP_STATE 0 = false))) ∧
    (∃ (s : State) (a : Nat), s.Up ∧ (s.dev.activeCand = some a) ∧ (s.dev.belState = belAcquiring) ∧ (s.dev.bellows.slew = none) ∧ (s.dev.bellows.stepDue = none)) ∧
    (∃ (s : State), s.Up ∧ (s.dev.bellows.hoAvg.isSome = true)) ∧
    (∃ (s : State) (w : Writer), s.Opens Reg.pageREF 0x068 w) :=
  ⟨⟨upWith [(Reg.REF_CAND_CTRL 0 + 0x800, 0)], 0, 5, 50000000, by decide +kernel, by decide +kernel, by decide +kernel, by decide +kernel, by decide +kernel, by decide +kernel, by decide +kernel⟩,
    ⟨on (upWith []) (fun d => d.setCand 7 { Cand.reset with holdoffRun := true }), 7, by decide +kernel, by decide +kernel⟩,
    ⟨on (upWith [(Reg.REF_STATE, 0x180), (Reg.REF_CAND_STAT 0, 0x30), (Reg.REF_CAND_CTRL 0 + 0x800, 0), (Reg.REF_CTRL + 0x800, 0)]) (fun d => { d with bellows := { d.bellows with slew := some 4 } }), 4, 0, by decide +kernel, by decide +kernel, by decide +kernel, by decide +kernel, by decide +kernel, by decide +kernel⟩,
    ⟨on (upWith []) (fun d => { d with time := 16384, bellows := { d.bellows with stepDue := some (-1) } }), -1, by decide +kernel, by decide +kernel, by decide +kernel⟩,
    ⟨upWith [(Reg.REF_STATE, 0x82)], 0, 9, by decide +kernel, by decide +kernel, by decide +kernel, by decide +kernel, by decide +kernel, by decide +kernel⟩,
    ⟨upWith [(Reg.REF_STATE, 0x81)], 0, by decide +kernel, by decide +kernel, by decide +kernel, by decide +kernel, by decide +kernel⟩,
    ⟨on (upWith []) (fun d => { d with bellows := { d.bellows with hoAvg := some 0 } }), by decide +kernel, by decide +kernel⟩,
    ⟨upWith [(Reg.REF_STATE, 0x200)], .pcie, by decide +kernel⟩⟩

/-- Every clause of `Obligations.OscillatorSoftwareAndPpsOut` has a state and operands that meet it. -/
theorem test_OscillatorSoftwareAndPpsOut_met :
    (∃ (s : State), s.Up ∧ (s.dev.belState = belHoldover) ∧ s.dev.fld Reg.REF_HO_CTRL 15 0 ≠ 0) ∧
    (∃ (s : State), s.Up) ∧
    (∃ (s : State), s.Up ∧ (s.dev.belState = belLost)) ∧
    (∃ (s : State) (a : Fin 8) (b : Fin 8), s.Up ∧ (s.dev.qualified a = true) ∧ (s.dev.qualified b = true) ∧ (s.dev.rankOf a = s.dev.rankOf b) ∧ a ≠ b ∧ s.dev.fld Reg.REF_DISAGREE 15 0 * 1000 < ((s.dev.cand a).freq - (s.dev.cand b).freq).natAbs) ∧
    (∃ (s : State) (_phase : Int), s.Up ∧ (s.dev.liveFlag Reg.REF_CTRL 1 = true)) ∧
    (∃ (s : State) (w : Writer) (_v : Word), s.Opens Reg.pageREF 0x05C w) ∧
    (∃ (s : State), s.Up ∧ (s.dev.flag Reg.REF_PPS_OUT 31 = true) ∧ (s.dev.bellows.ppsLast = none)) :=
  ⟨⟨upWith [(Reg.REF_STATE, 3)], by decide +kernel, by decide +kernel, by decide +kernel⟩,
    ⟨upWith [(Reg.REF_STATE, 0x92)], by decide +kernel⟩,
    ⟨upWith [(Reg.REF_STATE, 0x204)], by decide +kernel, by decide +kernel⟩,
    ⟨on (upWith [(Reg.REF_CAND_STAT 0, 0x10), (Reg.REF_CAND_STAT 1, 0x10)]) (fun d => d.setCand 1 { Cand.reset with freq := 50001 }), 1, 0, by decide +kernel, by decide +kernel, by decide +kernel, by decide +kernel, by decide +kernel, by decide +kernel⟩,
    ⟨upWith [(Reg.REF_CTRL + 0x800, 2)], 4, by decide +kernel, by decide +kernel⟩,
    ⟨upWith [], .pcie, 0x7FFFFFFF, by decide +kernel⟩,
    ⟨upWith [(Reg.REF_PPS_OUT, 0x80000000)], by decide +kernel, by decide +kernel, by decide +kernel⟩⟩

/-- Every clause of `Obligations.PtpServiceKeepsTime` has a state and operands that meet it. -/
theorem test_PtpServiceKeepsTime_met :
    (∃ (s : State), s.Up ∧ (s.dev.hostif.sysFrozen = none) ∧ ((s.dev.hostif.frozen.any fun f => f.page == Reg.pagePTP) = false)) ∧
    (∃ (s : State) (p : Fin 16) (_ingress : Int) (_origin : Int) (_correction : Int) (_logSync : Int), s.Up ∧ (s.dev.flag Reg.PTP_STATE 8 = true) ∧ (s.dev.fld Reg.PTP_STATE 7 4 = p.val) ∧ (s.dev.ptpPortOn p = true)) ∧
    (∃ (s : State) (p : Fin 16) (_t1 : Int) (_t2 : Int) (_t3 : Int) (_t4 : Int), s.Up ∧ (s.dev.flag Reg.PTP_STATE 8 = true) ∧ (s.dev.fld Reg.PTP_STATE 7 4 = p.val) ∧ (s.dev.ptpPortOn p = true)) ∧
    (∃ (s : State) (p : Fin 16) (a : Announce), s.Up ∧ (s.dev.ptpPortOn p = true) ∧ (a.domain = s.dev.live Reg.PTP_DS 7 0) ∧ p.val < s.dev.ptp.announce.length ∧ (s.dev.ptp.announce.getD p none = none)) ∧
    (∃ (s : State) (p : Fin 16), s.Up ∧ (s.dev.ptpPortOn p = true)) ∧
    (∃ (s : State) (p : Fin 16), s.Up ∧ (s.dev.ptpPortOn p = true) ∧ (s.dev.fld (Reg.PTP_PORT_STAT p) 3 0 = 6)) ∧
    (∃ (s : State) (p : Fin 16), s.Up ∧ (s.dev.ptpPortOn p = true) ∧ (s.dev.fld (Reg.PTP_PORT_STAT p) 3 0 = 9)) ∧
    (∃ (s : State) (_v : Word), s.Up ∧ (s.dev.belState = belLocked) ∧ s.dev.fld Reg.PWR_STATE 2 0 ≤ 2) ∧
    (∃ (s : State), s.Up ∧ (s.dev.isWorker = true) ∧ (s.dev.flag Reg.PTP_TT_STAT 12 = true) ∧ (s.dev.ptp.ttT1 = none)) ∧
    (∃ (s : State) (_lane : Fin 192) (_t1 : Int) (_ingress : Int), s.Up ∧ (s.dev.isTimeParent = true)) ∧
    (∃ (s : State) (lane : Nat) (a : Int) (rest : List (Nat × Int)), s.Up ∧ (s.dev.ptp.ttLanes = (lane, a) :: rest) ∧ lane < 192 ∧ (s.dev.rxState lane = rxLocked)) :=
  ⟨⟨upWith [], by decide +kernel, by decide +kernel, by decide +kernel⟩,
    ⟨upWith [(Reg.PTP_STATE, 0x1F0), (Reg.PTP_CTRL + 0x800, 9), (Reg.PTP_PORT_CFG 15 + 0x800, 0x80000100)], 15, 100, 3, 4, 1, by decide +kernel, by decide +kernel, by decide +kernel, by decide +kernel⟩,
    ⟨upWith [(Reg.PTP_STATE, 0x100), (Reg.PTP_CTRL + 0x800, 1), (Reg.PTP_PORT_CFG 0 + 0x800, 0x80000100)], 0, 1, 4, 5, 7, by decide +kernel, by decide +kernel, by decide +kernel, by decide +kernel⟩,
    ⟨upWith [(Reg.PTP_CTRL + 0x800, 1), (Reg.PTP_PORT_CFG 15 + 0x800, 0x80000100)], 15, ⟨127, 1, 6, 0, 0, 1, 5, 1, 9, 0, false⟩, by decide +kernel, by decide +kernel, by decide +kernel, by decide +kernel, by decide +kernel⟩,
    ⟨upWith [(Reg.PTP_CTRL + 0x800, 1), (Reg.PTP_PORT_CFG 0 + 0x800, 0x80000100)], 0, by decide +kernel, by decide +kernel⟩,
    ⟨upWith [(Reg.PTP_CTRL + 0x800, 1), (Reg.PTP_PORT_CFG 0 + 0x800, 0x80000100), (Reg.PTP_PORT_STAT 0, 6)], 0, by decide +kernel, by decide +kernel, by decide +kernel⟩,
    ⟨upWith [(Reg.PTP_CTRL + 0x800, 1), (Reg.PTP_PORT_CFG 0 + 0x800, 0x80000100), (Reg.PTP_PORT_STAT 0, 9)], 0, by decide +kernel, by decide +kernel, by decide +kernel⟩,
    ⟨upWith [(Reg.REF_STATE, 2)], 0x12345, by decide +kernel, by decide +kernel, by decide +kernel⟩,
    ⟨upWith [(Reg.HIE_ROLE, 1), (Reg.PTP_TT_STAT, 0x10BF)], by decide +kernel, by decide +kernel, by decide +kernel, by decide +kernel⟩,
    ⟨upWith [(Reg.HIE_ROLE, 4)], 191, 5, 9, by decide +kernel, by decide +kernel⟩,
    ⟨on (upWith [(Reg.LN_STAT 191, 4)]) (fun d => { d with ptp := { d.ptp with ttLanes := [(191, 0)] } }), 191, 0, [], by decide +kernel, by decide +kernel, by decide +kernel, by decide +kernel⟩⟩

/-- Every clause of `Obligations.TransmitTimestampsArePopped` has a state and operands that meet it. -/
theorem test_TransmitTimestampsArePopped_met :
    (∃ (s : State) (m : Fin 193) (w : Writer) (e : TsqEntry) (rest : List TsqEntry), s.Opens (0x300 + m.val) 0x404 w ∧ (s.dev.macActive m = true) ∧ (s.dev.tsqOf m = e :: rest)) ∧
    (∃ (s : State) (m : Fin 193) (w : Writer), s.Opens (0x300 + m.val) 0x404 w ∧ (s.dev.macActive m = true) ∧ (s.dev.tsqOf m = [])) :=
  ⟨⟨on (upWith []) (fun d => d.setTsq 192 [⟨7, 2 ^ 40⟩]), 192, .pcie, ⟨7, 2 ^ 40⟩, [], by decide +kernel, by decide +kernel, by decide +kernel⟩,
    ⟨upWith [(Reg.MAC_TSQ_TAG 192, 0x10007), (Reg.MAC_TSQ_NS_LO 192, 9)], 192, .pcie, by decide +kernel, by decide +kernel, by decide +kernel⟩⟩

/-- Every clause of `Obligations.RegisterWriteStores` has a state and operands that meet it. -/
theorem test_RegisterWriteStores_met :
    (∃ (s : State) (a : Nat) (_v : Word) (w : Writer) (r : RegRow), (bar0Word a = true) ∧ s.Opens (a / 0x1000) (a % 0x1000) w ∧ (actsOnWrite a = false) ∧ (s.dev.macIdle (a / 0x1000) = false) ∧ (regRow (a / 0x1000) (a % 0x1000) = some r) ∧ (r.rw = 0) ∧ (s.dev.mirrorReg (a / 0x1000) (a % 0x1000) = false) ∧ (s.dev.armed (a / 0x1000) = false)) ∧
    (∃ (s : State) (a : Nat) (v : Word) (w : Writer), a ∈ [Reg.SYS_BAR2_BASE_HI, Reg.SYS_CENSUS_ADDR_HI, Reg.SYS_CENSUS_LIMIT, Reg.SYS_CHART_ADDR_LO, Reg.SYS_CHART_ADDR_HI, Reg.SYS_IRQN_MASK_LO, Reg.SYS_IRQN_MASK_HI, Reg.CRU_LIB_ADDR_HI, Reg.UPD_CHUNK_ADDR_HI] ∧ ((a = Reg.SYS_BAR2_BASE_HI → v.toNat % 2 = 0)) ∧ s.Opens (a / 0x1000) (a % 0x1000) w) ∧
    (∃ (s : State) (a : Nat) (_v : Word) (w : Writer) (r : RegRow), (bar0Word a = true) ∧ s.Opens (a / 0x1000) (a % 0x1000) w ∧ (actsOnWrite a = false) ∧ (s.dev.macIdle (a / 0x1000) = false) ∧ (regRow (a / 0x1000) (a % 0x1000) = some r) ∧ (r.rw = 0) ∧ r.sh % 2 ^ 32 ≠ 0 ∧ (s.dev.mirrorReg (a / 0x1000) (a % 0x1000) = false) ∧ (s.dev.armed (a / 0x1000) = true)) :=
  ⟨⟨upWith [], 0x2040, 5, .pcie, ⟨0x40, 0, 1, 0, 1, 1, 0, 0, 0x73, 0⟩, by decide +kernel, by decide +kernel, by decide +kernel, by decide +kernel, by decide +kernel, by decide +kernel, by decide +kernel, by decide +kernel⟩,
    ⟨upWith [], Reg.SYS_CENSUS_LIMIT, 77, .pcie, by decide +kernel, by decide +kernel, by decide +kernel⟩,
    ⟨on (upWith []) (fun d => d.setCommits [⟨2, some 3, false, false, [], []⟩]), 0x2040, 5, .pcie, ⟨0x40, 0, 1, 0, 1, 1, 0, 0, 0x73, 0⟩, by decide +kernel, by decide +kernel, by decide +kernel, by decide +kernel, by decide +kernel, by decide +kernel, by decide +kernel, by decide +kernel, by decide +kernel⟩⟩

/-- Every clause of `Obligations.StickyWritesClearOnes` has a state and operands that meet it. -/
theorem test_StickyWritesClearOnes_met :
    (∃ (s : State) (page : Nat) (_v : Word) (w : Writer), s.Opens page 0x014 w) ∧
    (∃ (s : State) (page : Nat) (_v : Word) (w : Writer), s.Opens page 0x018 w) ∧
    (∃ (s : State) (k : Fin 2048) (_v : Word) (w : Writer), s.Opens (0x600 + k.val / 16) (0x140 + k.val % 16 * 0x60) w) ∧
    (∃ (s : State) (r : Fin 4096) (_v : Word) (w : Writer), s.Opens (0x800 + r.val / 16) (0x154 + r.val % 16 * 0x60) w) :=
  ⟨⟨upWith [(Reg.PG_STICKY 2, 5)], 2, 4, .pcie, by decide +kernel⟩,
    ⟨upWith [], 2, 5, .pcie, by decide +kernel⟩,
    ⟨on (upWith [(Reg.TAKE_DST_STICKY 17, 9)]) (fun d => d.setDst 17 { d.dst 17 with latched := true }), 17, 8, .pcie, by decide +kernel⟩,
    ⟨upWith [(Reg.FLW_RX_STICKY 4095, 1)], 4095, 1, .pcie, by decide +kernel⟩⟩

/-- Every clause of `Obligations.MsixMessagesAreHeldAndSent` has a state and operands that meet it. -/
theorem test_MsixMessagesAreHeldAndSent_met :
    (∃ (s : State) (_en : Bool), s.Up) ∧
    (∃ (s : State), s.Up) ∧
    (∃ (s : State) (_i : Fin 256) (_v : Word), s.Up ∧ (s.dev.hostif.linkUp = true)) ∧
    (∃ (s : State) (n : Fin 64), s.Up ∧ n.val ≠ 0 ∧ (s.dev.hostif.linkUp = true) ∧ (s.dev.hostif.pba.getLsbD n.val = true) ∧ (s.dev.vectorMasked n.val = false) ∧ (s.dev.vectorPending n.val = true)) :=
  ⟨⟨upWith [], true, by decide +kernel⟩,
    ⟨upWith [], by decide +kernel⟩,
    ⟨on (upWith []) (fun d => { d with hostif := { d.hostif with linkUp := true } }), 255, 0, by decide +kernel, by decide +kernel⟩,
    ⟨on (upWith [(Reg.PG_CTRL 2, 0x500), (Reg.PG_IRQ_FORCE 2, 1)]) (fun d => { d with hostif := { d.hostif with linkUp := true, pba := 0x20, msixTable := [(23, 0)] } }), 5, by decide +kernel, by decide +kernel, by decide +kernel, by decide +kernel, by decide +kernel, by decide +kernel⟩⟩

/-- Every clause of `Obligations.CommitsWaitDisarmAndApply` has a state and operands that meet it. -/
theorem test_CommitsWaitDisarmAndApply_met :
    (∃ (s : State) (page : Nat) (_slot : Fin 16) (w : Writer), s.Opens page 0x020 w ∧ (s.dev.goRefused page = none) ∧ (s.dev.commitOf page = none)) ∧
    (∃ (s : State) (page : Nat) (slot : Fin 16) (w : Writer), s.Opens page 0x020 w ∧ (s.dev.goRefused page = none) ∧ (s.dev.commitOf page = none) ∧ (s.dev.planeOn (s.dev.cslotTp slot) = true) ∧ (s.dev.tooFar (s.dev.cslotTp slot) (s.dev.cslotF slot) = false)) ∧
    (∃ (s : State) (page : Nat) (w : Writer), s.Opens page 0x020 w ∧ (s.dev.armed page = true)) ∧
    (∃ (s : State) (page : Nat) (o : Nat), s.Up ∧ page < 0x4000 ∧ (plainCommit page = true) ∧ o < 0x800 ∧ 0x040 ≤ o ∧ (o % 4 = 0) ∧ (s.dev.hostif.commits = [⟨page, none, false, false, [], []⟩]) ∧ (s.dev.commitHeld ⟨page, none, false, false, [], []⟩ = false) ∧ (commitCheck s.dev [] [page] (s.dev.withCommits [page]) page = none)) ∧
    (∃ (s : State) (page : Nat) (o : Nat) (k : Fin 16), s.Up ∧ page < 0x4000 ∧ (plainCommit page = true) ∧ o < 0x800 ∧ 0x040 ≤ o ∧ (o % 4 = 0) ∧ (s.dev.hostif.commits = [⟨page, some k.val, false, false, [], []⟩]) ∧ (s.dev.hostif.census = none) ∧ (s.dev.hostif.chartLoad = none) ∧ (s.dev.commitHeld ⟨page, some k.val, false, false, [], []⟩ = false) ∧ (commitCheck s.dev [] [page] (s.dev.withCommits [page]) page = none)) :=
  ⟨⟨upWith [], 2, 0, .pcie, by decide +kernel, by decide +kernel, by decide +kernel⟩,
    ⟨upWith [(Reg.REF_TP_CFG 0 + 0x800, 0x4655), (Reg.SYS_CSLOT_F_LO 3, 100)], 2, 3, .pcie, by decide +kernel, by decide +kernel, by decide +kernel, by decide +kernel, by decide +kernel⟩,
    ⟨on (upWith []) (fun d => d.setCommits [⟨2, some 3, false, false, [], []⟩]), 2, .pcie, by decide +kernel, by decide +kernel⟩,
    ⟨on (upWith [(0x14040, 1)]) (fun d => d.setCommits [⟨0x14, none, false, false, [], []⟩]), 0x14, 0x40, by decide +kernel, by decide +kernel, by decide +kernel, by decide +kernel, by decide +kernel, by decide +kernel, by decide +kernel, by decide +kernel, by decide +kernel⟩,
    ⟨on (upWith [(0x14040, 1)]) (fun d => d.setCommits [⟨0x14, some 3, false, false, [], []⟩]), 0x14, 0x40, 3, by decide +kernel, by decide +kernel, by decide +kernel, by decide +kernel, by decide +kernel, by decide +kernel, by decide +kernel, by decide +kernel, by decide +kernel, by decide +kernel, by decide +kernel⟩⟩

/-- Every clause of `Obligations.SnapshotsHoldWhatAPageReads` has a state and operands that meet it. -/
theorem test_SnapshotsHoldWhatAPageReads_met :
    (∃ (s : State) (page : Nat) (w : Writer), s.Opens page 0x028 w ∧ (s.dev.pageFrozen page = false)) ∧
    (∃ (s : State) (page : Nat) (w : Writer), s.Opens page 0x028 w) ∧
    (∃ (s : State) (page : Nat), s.Up ∧ page ≠ 1 ∧ (s.dev.pageFrozen page = true)) ∧
    (∃ (s : State) (w : Writer), s.Opens Reg.pageSYS 0x058 w ∧ (s.dev.hostif.sysFrozen = none)) ∧
    (∃ (s : State) (w : Writer), s.Opens Reg.pageSYS 0x058 w) :=
  ⟨⟨upWith [], 2, .pcie, by decide +kernel, by decide +kernel⟩,
    ⟨upWith [], 3, .pcie, by decide +kernel⟩,
    ⟨on (upWith []) (fun d => d.pageFreeze 5), 5, by decide +kernel, by decide +kernel, by decide +kernel⟩,
    ⟨upWith [], .pcie, by decide +kernel, by decide +kernel⟩,
    ⟨upWith [], .pcie, by decide +kernel⟩⟩

/-- Every clause of `Obligations.CensusAndEventWindow` has a state and operands that meet it. -/
theorem test_CensusAndEventWindow_met :
    (∃ (s : State) (a : Nat) (n : Nat) (_wr : Bool), s.Up ∧ (badAccess a n = true)) ∧
    (∃ (s : State) (_toDram : Bool) (w : Writer), s.Opens Reg.pageSYS 0x060 w ∧ (s.dev.flag Reg.SYS_CENSUS_CTRL 31 = false)) ∧
    (∃ (s : State) (c : Census), s.Up ∧ (s.dev.hostif.census = some c) ∧ (c.started = true) ∧ censusSize ≤ (s.dev.rd Reg.SYS_CENSUS_LIMIT).toNat ∧ ((c.toDram = true → s.dev.bankOpen 7 (busDramBase + s.dev.rd64 Reg.SYS_CENSUS_ADDR_LO Reg.SYS_CENSUS_ADDR_HI) censusSize = true))) ∧
    (∃ (s : State) (_q : Word) (w : Writer), s.Opens Reg.pageSYS 0x084 w) :=
  ⟨⟨upWith [], 0x41, 4, true, by decide +kernel, by decide +kernel⟩,
    ⟨upWith [], true, .pcie, by decide +kernel, by decide +kernel⟩,
    ⟨on (upWith [(Reg.SYS_CENSUS_LIMIT, 0xFFFFFFFF), (Reg.SYS_CENSUS_ADDR_LO, 0x1000)]) (fun d => { d with hostif := { d.hostif with census := some ⟨none, false, true, [], 0, 0, 0⟩ } }), ⟨none, false, true, [], 0, 0, 0⟩, by decide +kernel, by decide +kernel, by decide +kernel, by decide +kernel, by decide +kernel⟩,
    ⟨upWith [], 5, .pcie, by decide +kernel⟩⟩

/-- Every clause of `Obligations.ChartLoadsAndSoftReset` has a state and operands that meet it. -/
theorem test_ChartLoadsAndSoftReset_met :
    (∃ (s : State) (w : Writer), s.Opens Reg.pageSYS 0x0D0 w ∧ (s.dev.flag Reg.SYS_CHART_CTRL 31 = false) ∧ (s.dev.sealing = false) ∧ (s.dev.chartWaits = true)) ∧
    (∃ (s : State), s.Up ∧ (s.dev.hostif.chartLoad = none)) ∧
    (∃ (s : State) (c : Chart) (late : Bool), s.Up ∧ (s.dev.hostif.chartNew = some (c, late))) ∧
    (∃ (s : State) (page : Nat) (w : Writer), s.Opens page 0x00C w ∧ (pageType page = 0x14) ∧ (s.dev.sealing = false) ∧ (s.dev.hostif.chart = none) ∧ (s.dev.commitOf page = none) ∧ page < 0x4000) :=
  ⟨⟨on (upWith []) (fun d => { d with hostif := { d.hostif with chartHold := true } }), .pcie, by decide +kernel, by decide +kernel, by decide +kernel, by decide +kernel⟩,
    ⟨upWith [], by decide +kernel, by decide +kernel⟩,
    ⟨on (upWith []) (fun d => { d with hostif := { d.hostif with chartNew := some (chartBlank 5 6 0, false) } }), chartBlank 5 6 0, false, by decide +kernel, by decide +kernel⟩,
    ⟨upWith [(0x14040, 1)], 0x14, .pcie, by decide +kernel, by decide +kernel, by decide +kernel, by decide +kernel, by decide +kernel, by decide +kernel⟩⟩

/-- Every clause of `Obligations.ServicesWriteAsHost` has a state and operands that meet it. -/
theorem test_ServicesWriteAsHost_met :
    (∃ (s : State) (k : Fin 9) (_v : Word), s.Up ∧ k.val < 8 ∧ (s.dev.hostif.sessions.getD k.val false = true) ∧ (s.dev.ownerOf Reg.pageCRU = 0) ∧ (s.dev.isStandby = false)) ∧
    (∃ (s : State) (k : Fin 8), s.Up ∧ (s.dev.serviceOn 0 = true) ∧ (s.dev.halServes = true) ∧ (s.dev.hal.tlsKey = true) ∧ (s.dev.hal.cert = true) ∧ k.val < s.dev.hostif.sessions.length ∧ (s.dev.hostif.sessions.getD k.val false = false)) ∧
    (∃ (s : State) (page : Nat) (writes : List (Nat × Word)) (_tp : Fin 8) (at_ : Nat), s.Up ∧ (is05Ok page writes = true) ∧ (s.dev.serviceOn 1 = true) ∧ s.dev.gate page 0x020 ⟨.host, 9⟩ ≠ .violation ∧ s.dev.nowNs ≤ at_) ∧
    (∃ (s : State) (page : Nat) (at_ : Nat) (tp : Nat), s.Up ∧ (s.dev.hostif.is05 = [⟨page, [], tp, some at_⟩]) ∧ (s.dev.shadowOffs page = []) ∧ at_ ≤ s.dev.nowNs ∧ (s.dev.gate page 0x020 ⟨.host, 9⟩ = .open_) ∧ (s.dev.commitOf page = none) ∧ (s.dev.goRefused page = none)) :=
  ⟨⟨on (upWith []) (fun d => { d with hostif := { d.hostif with sessions := [true] } }), 0, 5, by decide +kernel, by decide +kernel, by decide +kernel, by decide +kernel, by decide +kernel⟩,
    ⟨on (upWith [(Reg.HAL_STAT, 1)]) (fun d => { d with hostif := { d.hostif with chart := some { chartBlank 0 0 0 with mgmt := [0, 1] } }, power := { d.power with cores := false }, hal := { d.hal with tlsKey := true, cert := true } }), 7, by decide +kernel, by decide +kernel, by decide +kernel, by decide +kernel, by decide +kernel, by decide +kernel, by decide +kernel⟩,
    ⟨on (upWith []) (fun d => { d with hostif := { d.hostif with chart := some { chartBlank 0 0 0 with mgmt := [0, 2] } }, power := { d.power with cores := false } }), 0x800, [(0x100, 1)], 0, 0, by decide +kernel, by decide +kernel, by decide +kernel, by decide +kernel, by decide +kernel⟩,
    ⟨on (upWith []) (fun d => { d with hostif := { d.hostif with is05 := [⟨0x900, [], 0, some 0⟩] } }), 0x900, 0, 0, by decide +kernel, by decide +kernel, by decide +kernel, by decide +kernel, by decide +kernel, by decide +kernel, by decide +kernel⟩⟩

/-- Every clause of `Obligations.RefusedCommitsChangeNoValue` has a state and operands that meet it. -/
theorem test_RefusedCommitsChangeNoValue_met :
    (∃ (s : State) (page : Nat) (_slot : Fin 16) (w : Writer) (reason : Nat) (detail : Nat), s.Opens page 0x020 w ∧ (s.dev.commitOf page = none) ∧ (s.dev.goRefused page = some (reason, detail))) ∧
    (∃ (s : State) (page : Nat) (e : Option (Fin 16)) (left : List Nat) (late : List Nat) (reason : Nat) (detail : Nat), s.Up ∧ page < 0x4000 ∧ 0 < page ∧ (s.dev.hostif.commits = [⟨page, none, false, false, left, late⟩]) ∧ (s.dev.commitHeld ⟨page, none, false, false, left, late⟩ = false) ∧ ((s.dev.dueEntries ⟨page, none, false, false, left, late⟩ (e.map Fin.val) false).isSome = true) ∧ (commitCheck s.dev [] [page] (s.dev.withCommits [page]) page = some (reason, detail))) :=
  ⟨⟨upWith [(Reg.TMP_STAT, 1), (Reg.TWN_STAT, 0)], 0xA1F, 15, .pcie, 8, 0, by decide +kernel, by decide +kernel, by decide +kernel⟩,
    ⟨on (upWith [(Reg.REF_TP_CFG 0, 0xF), (Reg.TWN_STAT, 0)]) (fun d => d.setCommits [⟨2, none, false, false, [], []⟩]), 2, none, [], [], 1, 64, by decide +kernel, by decide +kernel, by decide +kernel, by decide +kernel, by decide +kernel, by decide +kernel, by decide +kernel⟩⟩

/-- Every clause of `Obligations.TheErrorStateClosesSessions` has a state and operands that meet it. -/
theorem test_TheErrorStateClosesSessions_met :
    (∃ (s : State) (_k : Fin 8) (_ok : Bool), s.Up ∧ (s.dev.halState = 2)) ∧
    (∃ (s : State) (_kind : HalFailure) (_code : Fin 256), s.Up ∧ (s.dev.halServes = true)) :=
  ⟨⟨upWith [(Reg.HAL_STAT, 0x102)], 7, true, by decide +kernel, by decide +kernel⟩,
    ⟨on (upWith [(Reg.HAL_STAT, 5), (Reg.TWN_STAT, 4)]) (fun d => { d with hostif := { d.hostif with sessions := List.replicate 8 true } }), .pairwise, 255, by decide +kernel, by decide +kernel⟩⟩

/-- Every clause of `Obligations.ReferenceClocksReachTheirLanes` has a state and operands that meet it. -/
theorem test_ReferenceClocksReachTheirLanes_met :
    (∃ (s : State) (k : Fin 12) (n : Nat), s.Up ∧ n ∈ lanesOfRefclk k) ∧
    (∃ (s : State) (k : Fin 12) (n : Nat), s.Up ∧ n ∈ lanesOfRefclk k) ∧
    (∃ (s : State) (k : Fin 12) (_ofs : Int) (n : Nat), s.Up ∧ n ∈ lanesOfRefclk k) :=
  ⟨⟨upWith [(Reg.LN_STAT 5, 0x12), (Reg.LN_QUAD_STAT 5, 2)], 0, 5, by decide +kernel, by decide +kernel⟩,
    ⟨upWith [(Reg.LN_STAT 195, 1), (Reg.LN_QUAD_STAT 195, 1)], 0, 195, by decide +kernel, by decide +kernel⟩,
    ⟨upWith [], 11, 10100, 191, by decide +kernel, by decide +kernel⟩⟩

/-- Every clause of `Obligations.PllAndCdrDriveTheReceiver` has a state and operands that meet it. -/
theorem test_PllAndCdrDriveTheReceiver_met :
    (∃ (s : State) (q : Fin 49) (n : Nat), s.Up ∧ n ∈ lanesOfQuad q ∧ (s.dev.quadWanted q = true)) ∧
    (∃ (s : State) (q : Fin 49) (n : Nat), s.Up ∧ n ∈ lanesOfQuad q) ∧
    (∃ (s : State) (n : Fin 196) (_frac : Bool), s.Up ∧ (s.dev.rxState n = rxCdrHunt)) ∧
    (∃ (s : State) (n : Fin 196), s.Up ∧ (s.dev.rxState n = rxCdrHunt) ∧ (isHuntRole (s.dev.laneRole n) = true)) ∧
    (∃ (s : State) (n : Fin 196), s.Up ∧ (s.dev.rxState n = rxAlignHunt) ∧ (s.dev.laneRole n = 1)) :=
  ⟨⟨upWith [(Reg.LN_QUAD_CFG 8 + 0x800, 1), (Reg.LN_CFG 9 + 0x800, 1), (Reg.LN_STAT 9, 1), (Reg.LN_QUAD_STAT 9, 2)], 2, 9, by decide +kernel, by decide +kernel, by decide +kernel⟩,
    ⟨upWith [(Reg.LN_STAT 195, 4)], 48, 195, by decide +kernel, by decide +kernel⟩,
    ⟨on (upWith [(Reg.LN_STAT 0, 2), (Reg.LN_CFG 0 + 0x800, 1)]) (fun d => d.setLaneX 0 { LaneX.reset with huntStep := 3 }), 0, true, by decide +kernel, by decide +kernel⟩,
    ⟨upWith [(Reg.LN_STAT 1, 2), (Reg.LN_CFG 1 + 0x800, 6), (Reg.LN_SDI_HUNT 1 + 0x800, 5)], 1, by decide +kernel, by decide +kernel, by decide +kernel⟩,
    ⟨upWith [(Reg.LN_STAT 1, 0x103), (Reg.LN_CFG 1 + 0x800, 1)], 1, by decide +kernel, by decide +kernel, by decide +kernel⟩⟩

/-- Every clause of `Obligations.ReceiversLockAndLose` has a state and operands that meet it. -/
theorem test_ReceiversLockAndLose_met :
    (∃ (s : State) (n : Fin 196), s.Up ∧ (s.dev.rxState n = rxAlignHunt) ∧ (isBlockRole (s.dev.laneRole n) = true)) ∧
    (∃ (s : State) (n : Fin 196), s.Up ∧ (s.dev.rxState n = rxAlignHunt) ∧ (s.dev.laneRole n = 1)) ∧
    (∃ (s : State) (n : Fin 196) (_ofs : Int), s.Up ∧ (s.dev.rxState n = rxAlignHunt) ∧ (s.dev.laneRole n = 6)) ∧
    (∃ (s : State) (n : Fin 196), s.Up ∧ (s.dev.rxState n = rxLocked) ∧ (isBlockRole (s.dev.laneRole n) = true)) ∧
    (∃ (s : State) (n : Fin 196), s.Up ∧ (s.dev.rxState n = rxAlignHunt ∨ s.dev.rxState n = rxLocked)) ∧
    (∃ (s : State) (n : Fin 196), s.Up ∧ (s.dev.rxState n = rxAlignHunt) ∧ (isBlockRole (s.dev.laneRole n) = true)) :=
  ⟨⟨upWith [(Reg.LN_STAT 5, 3), (Reg.LN_CFG 5 + 0x800, 4)], 5, by decide +kernel, by decide +kernel, by decide +kernel⟩,
    ⟨upWith [(Reg.LN_STAT 5, 3), (Reg.LN_CFG 5 + 0x800, 1)], 5, by decide +kernel, by decide +kernel, by decide +kernel⟩,
    ⟨on (upWith [(Reg.LN_STAT 5, 3), (Reg.LN_CFG 5 + 0x800, 6), (Reg.LN_CFG 7 + 0x800, 6)]) (fun d => d.setDst 2055 { Dst.reset with src := some 5 }), 5, 1101, by decide +kernel, by decide +kernel, by decide +kernel⟩,
    ⟨upWith [(Reg.LN_STAT 194, 4)], 194, by decide +kernel, by decide +kernel, by decide +kernel⟩,
    ⟨upWith [(Reg.LN_STAT 5, 4), (Reg.LN_CFG 5 + 0x800, 5)], 5, by decide +kernel, by decide +kernel⟩,
    ⟨upWith [(Reg.LN_STAT 5, 3), (Reg.LN_CFG 5 + 0x800, 2)], 5, by decide +kernel, by decide +kernel, by decide +kernel⟩⟩

/-- Every clause of `Obligations.PrbsCountsAndClears` has a state and operands that meet it. -/
theorem test_PrbsCountsAndClears_met :
    (∃ (s : State) (n : Fin 196), s.Up ∧ s.dev.prbsChk n ≠ 0) ∧
    (∃ (s : State) (n : Fin 196) (_bits : Nat) (_errs : Nat), s.Up ∧ (s.dev.flag (Reg.LN_PRBS_STAT n) 0 = true)) ∧
    (∃ (s : State) (n : Fin 196) (bits : Nat) (errs : Nat), s.Up ∧ (s.dev.flag (Reg.LN_PRBS_STAT n) 0 = true) ∧ (2 ^ 48 - 1 ≤ (s.dev.laneX n).prbsErr + errs ∨ 2 ^ 48 - 1 ≤ (s.dev.laneX n).prbsBits + bits)) ∧
    (∃ (s : State) (n : Fin 196) (_bits : Nat) (_errs : Nat), s.Up ∧ (s.dev.flag (Reg.LN_PRBS_STAT n) 0 = true)) ∧
    (∃ (s : State) (n : Fin 196) (w : Writer), s.Opens (lanePage n) 0x078 w) ∧
    (∃ (s : State) (n : Fin 196) (w : Writer), s.Opens (lanePage n) 0x078 w ∧ (s.dev.flag (Reg.LN_PRBS_STAT n) 1 = true)) :=
  ⟨⟨upWith [(Reg.LN_PRBS_CTRL 3 + 0x800, 0x10)], 3, by decide +kernel, by decide +kernel⟩,
    ⟨upWith [(Reg.LN_PRBS_STAT 3, 1)], 3, 1024, 300, by decide +kernel, by decide +kernel⟩,
    ⟨upWith [(Reg.LN_PRBS_STAT 3, 1)], 3, 2 ^ 48, 0, by decide +kernel, by decide +kernel, by decide +kernel⟩,
    ⟨upWith [(Reg.LN_PRBS_STAT 3, 1)], 3, 2 ^ 33, 7, by decide +kernel, by decide +kernel⟩,
    ⟨on (upWith []) (fun d => d.setLaneX 3 { LaneX.reset with prbsErr := 9 }), 3, .pcie, by decide +kernel⟩,
    ⟨upWith [(Reg.LN_PRBS_STAT 3, 2)], 3, .pcie, by decide +kernel, by decide +kernel⟩⟩

/-- Every clause of `Obligations.SdiInputsAndOutputs` has a state and operands that meet it. -/
theorem test_SdiInputsAndOutputs_met :
    (∃ (s : State) (n : Fin 192) (x : SdiLine), s.Up ∧ (s.dev.sdiWanted n = true) ∧ (x.trs = false) ∧ (x.last = false) ∧ (x.levelB = false) ∧ (s.dev.sdiSrc n false = none)) ∧
    (∃ (s : State) (n : Fin 192) (x : SdiLine), s.Up ∧ (s.dev.sdiWanted n = true) ∧ (x.trs = true) ∧ (x.last = false) ∧ x.line ≠ 1 ∧ ((s.dev.sdi n).fmt = none) ∧ (x.pid = none) ∧ (x.crcOk = true) ∧ (x.numbered = x.line) ∧ (x.audio = []) ∧ (x.levelB = false) ∧ (s.dev.sdiSrc n false = none)) ∧
    (∃ (s : State) (n : Fin 192) (src : Source), s.Up ∧ (s.dev.sdiWanted n = true) ∧ 3 ≤ (s.dev.sdi n).noTrs ∧ s.dev.sdiState n ≠ sdiLost ∧ s.dev.sdiState n ≠ sdiIdle ∧ ((s.dev.sdiSrc n false).bind s.dev.src = some src) ∧ (src.everValid = true)) ∧
    (∃ (s : State) (n : Fin 192), s.Up ∧ (s.dev.sdiWanted n = true) ∧ (s.dev.sdiState n = sdiSettling) ∧ (s.dev.sdiClean n = 2)) ∧
    (∃ (s : State) (n : Fin 192), s.Up ∧ (s.dev.sdiWanted n = true) ∧ (s.dev.sdiState n = sdiValid) ∧ ((s.dev.sdi n).redesc = true)) ∧
    (∃ (s : State) (n : Fin 192) (_f : Nat) (_l : Nat) (x : TxLine), s.Up ∧ (s.dev.sdiSends n = true) ∧ (s.dev.liveFlag (Reg.SDI_TX_GROUP n) 24 = false) ∧ (s.dev.live (Reg.SDI_TX_AUD n) 21 16 = 0) ∧ (x.lastVertical = false)) :=
  ⟨⟨upWith [(Reg.LN_CFG 5 + 0x800, 0x2001)], 5, ⟨false, ⟨1920, 1080, 1125, 2640, 2, false, false⟩, false, 7, 7, 40, true, false, none, true, false, false, [], [], [], [], 0, 0⟩, by decide +kernel, by decide +kernel, by decide +kernel, by decide +kernel, by decide +kernel, by decide +kernel⟩,
    ⟨upWith [(Reg.LN_CFG 5 + 0x800, 0x2001)], 5, ⟨true, ⟨1920, 1080, 1125, 2640, 2, false, false⟩, false, 7, 7, 40, true, false, none, true, false, false, [], [], [], [], 0, 0⟩, by decide +kernel, by decide +kernel, by decide +kernel, by decide +kernel, by decide +kernel, by decide +kernel, by decide +kernel, by decide +kernel, by decide +kernel, by decide +kernel, by decide +kernel, by decide +kernel⟩,
    ⟨on (upWith [(Reg.LN_CFG 5 + 0x800, 0x2001), (Reg.SDI_RX_STAT 5, 3)]) (fun d => (d.addSrc { Source.fresh 0 5 false 0 0 with everValid := true }).setSdi 5 { SdiIn.reset with noTrs := 3 }), 5, { Source.fresh 0 5 false 0 0 with everValid := true }, by decide +kernel, by decide +kernel, by decide +kernel, by decide +kernel, by decide +kernel, by decide +kernel, by decide +kernel⟩,
    ⟨upWith [(Reg.LN_CFG 5 + 0x800, 0x2001), (Reg.SDI_RX_STAT 5, 0x22)], 5, by decide +kernel, by decide +kernel, by decide +kernel, by decide +kernel⟩,
    ⟨on (upWith [(Reg.LN_CFG 5 + 0x800, 0x2001), (Reg.SDI_RX_STAT 5, 0x23)]) (fun d => d.setSdi 5 { SdiIn.reset with redesc := true }), 5, by decide +kernel, by decide +kernel, by decide +kernel, by decide +kernel⟩,
    ⟨upWith [(Reg.LN_CFG 5 + 0x800, 0x1001), (Reg.LN_STAT 5, 0x10), (Reg.SDI_TX_CFG 5 + 0x800, 0x1007), (Reg.TAKE_DST_CFG 7 + 0x800, 0x41), (Reg.REF_TP_CFG 0 + 0x800, 0x4655)], 5, 3, 9, ⟨false, false, 100, 100⟩, by decide +kernel, by decide +kernel, by decide +kernel, by decide +kernel, by decide +kernel⟩⟩

/-- Every clause of `Obligations.MacsReceiveFrames` has a state and operands that meet it. -/
theorem test_MacsReceiveFrames_met :
    (∃ (s : State) (m : Fin 193) (x : RxFrame), s.Up ∧ (s.dev.macActive m = true) ∧ (x.corrected = 0) ∧ (x.uncorrectable = 0) ∧ frameNat x.bytes 0 6 ≠ s.dev.macAddr m ∧ (frameNat x.bytes 0 1 % 2 = 0) ∧ (s.dev.liveFlag (Reg.MAC_CFG m) 1 = false)) ∧
    (∃ (s : State) (m : Fin 193) (x : RxFrame) (k : Nat), s.Up ∧ (s.dev.macActive m = true) ∧ (x.corrected = 0) ∧ (x.uncorrectable = 0) ∧ (frameNat x.bytes 0 6 = s.dev.macAddr m) ∧ (s.dev.rxErr m x = ⟨false, false, false, false⟩) ∧ (frameTag x.bytes = none) ∧ frameType x.bytes ≠ some 0x8808 ∧ frameType x.bytes ≠ some 0x88CC ∧ x.held + x.bytes.length ≤ 20480 ∧ (s.dev.filtAction m x.bytes = (1, k, 0x100)) ∧ (s.dev.liveFlag (Reg.MAC_RING_RX_CFG k) 0 = true) ∧ handedOver (s.dev.fld (Reg.MAC_RING_RX_TAIL k) 31 0) (s.dev.fld (Reg.MAC_RING_RX_HEAD k) 31 0) ≠ 0 ∧ x.bytes.length ≤ s.dev.live (Reg.MAC_RING_RX_BUF k) 14 0) ∧
    (∃ (s : State) (m : Fin 193), s.Up ∧ (s.dev.macPaused m = true) ∧ ((s.dev.macX m).held = [])) ∧
    (∃ (s : State) (m : Fin 193) (due : Nat) (p : FlowSend), s.Up ∧ (s.dev.macPaused m = true) ∧ ((s.dev.macX m).held = [(due, p)]) ∧ p.flow < 4096 ∧ (s.dev.macLink m = true) ∧ s.dev.nowNs ≤ due + s.dev.live Reg.FLW_ENG_HOLD 7 0 * 1000) ∧
    (∃ (s : State) (m : Fin 193) (_order : Nat), s.Up ∧ (s.dev.macActive m = true) ∧ (s.dev.macLocked m = true) ∧ (s.dev.flag (Reg.MAC_STAT m) 1 = false) ∧ (s.dev.flag (Reg.MAC_STAT m) 2 = false)) ∧
    (∃ (s : State) (m : Fin 193) (lf : Bool) (rf : Bool), s.Up ∧ (s.dev.macActive m = true) ∧ (lf = true ∨ rf = true)) ∧
    (∃ (s : State) (m : Fin 193), s.Up ∧ (s.dev.macActive m = true)) ∧
    (∃ (s : State) (m : Fin 193), s.Up ∧ (s.dev.macActive m = true)) :=
  ⟨⟨upWith [(Reg.LN_CFG 5 + 0x800, 2)], 5, ⟨[0, 1, 2, 3, 4, 5], true, false, 0, 0, 0⟩, by decide +kernel, by decide +kernel, by decide +kernel, by decide +kernel, by decide +kernel, by decide +kernel, by decide +kernel⟩,
    ⟨upWith [(Reg.LN_CFG 5 + 0x800, 2), (Reg.MAC_RX_DEF 5 + 0x800, 0x301), (Reg.MAC_RING_RX_CFG 3 + 0x800, 1), (Reg.MAC_RING_RX_BUF 3 + 0x800, 2048), (Reg.MAC_RING_RX_COUNT 3 + 0x800, 8), (Reg.MAC_RING_RX_TAIL 3, 1), (Reg.MAC_MAX_FRAME 5 + 0x800, 1518)], 5, ⟨List.replicate 64 0, true, false, 0, 0, 0⟩, 3, by decide +kernel, by decide +kernel, by decide +kernel, by decide +kernel, by decide +kernel, by decide +kernel, by decide +kernel, by decide +kernel, by decide +kernel, by decide +kernel, by decide +kernel, by decide +kernel, by decide +kernel, by decide +kernel⟩,
    ⟨upWith [(Reg.MAC_STAT 5, 9)], 5, by decide +kernel, by decide +kernel, by decide +kernel⟩,
    ⟨on (upWith [(Reg.MAC_STAT 5, 9)]) (fun d => d.setMacX 5 { MacX.reset with held := [(0, ⟨4095, 7, 0, false, 100, .anc []⟩)] }), 5, 0, ⟨4095, 7, 0, false, 100, .anc []⟩, by decide +kernel, by decide +kernel, by decide +kernel, by decide +kernel, by decide +kernel, by decide +kernel⟩,
    ⟨upWith [(Reg.LN_CFG 4 + 0x800, 4), (Reg.LN_STAT 4, 4), (Reg.LN_STAT 5, 4), (Reg.LN_STAT 6, 4), (Reg.LN_STAT 7, 4), (Reg.MAC_CFG 4 + 0x800, 1)], 4, 0x1B, by decide +kernel, by decide +kernel, by decide +kernel, by decide +kernel, by decide +kernel⟩,
    ⟨upWith [(Reg.MAC_STAT 192, 1)], 192, false, true, by decide +kernel, by decide +kernel, by decide +kernel⟩,
    ⟨on (upWith []) (fun d => d.setMacX 192 { MacX.reset with txBytes := 2 ^ 33 }), 192, by decide +kernel, by decide +kernel⟩,
    ⟨on (upWith []) (fun d => d.setMacX 192 { MacX.reset with rxBytes := 2 ^ 33 }), 192, by decide +kernel, by decide +kernel⟩⟩

/-- Every clause of `Obligations.RingsMoveAndMacsSend` has a state and operands that meet it. -/
theorem test_RingsMoveAndMacsSend_met :
    (∃ (s : State) (k : Fin 64) (v : Word) (_cells : List Host.Cell) (w : Writer), s.Opens (ringPage k) 0x058 w ∧ handedOver v.toNat (s.dev.fld (Reg.MAC_RING_RX_HEAD k) 31 0) ≤ s.dev.live (Reg.MAC_RING_RX_COUNT k) 16 0) ∧
    (∃ (s : State) (k : Fin 64) (v : Word) (_cells : List Host.Cell) (w : Writer), s.Opens (ringPage k) 0x058 w ∧ s.dev.live (Reg.MAC_RING_RX_COUNT k) 16 0 < handedOver v.toNat (s.dev.fld (Reg.MAC_RING_RX_HEAD k) 31 0)) ∧
    (∃ (s : State) (k : Fin 64) (v : Word) (_cells : List Host.Cell) (w : Writer), s.Opens (ringPage k) 0x094 w ∧ handedOver v.toNat (s.dev.fld (Reg.MAC_RING_TX_HEAD k) 31 0) ≤ s.dev.live (Reg.MAC_RING_TX_COUNT k) 16 0) ∧
    (∃ (s : State) (k : Fin 64), s.Up ∧ (s.dev.ringX k).since ≠ 0) ∧
    (∃ (s : State) (k : Fin 64), s.Up ∧ ((s.dev.ringX k).rxOff = true)) ∧
    (∃ (s : State) (m : Fin 193) (_l : List Byte), s.Up ∧ (s.dev.macActive m = true) ∧ (s.dev.macPaused m = false) ∧ ((s.dev.macX m).waking = false) ∧ (s.dev.flag (Reg.MAC_STAT m) 4 = false) ∧ (s.dev.macLink m = true)) ∧
    (∃ (s : State) (m : Fin 193) (k : Nat), s.Up ∧ (s.dev.macActive m = true) ∧ (s.dev.macPaused m = false) ∧ ((s.dev.macX m).waking = false) ∧ (s.dev.flag (Reg.MAC_STAT m) 4 = false) ∧ (s.dev.macLink m = true) ∧ (s.dev.txNextRing s.mem m = some k) ∧ (s.dev.txFrameLen s.mem k = some 1) ∧ (s.dev.txFlags s.mem k (s.dev.fld (Reg.MAC_RING_TX_HEAD k) 31 0) / 8 % 2 = 0) ∧ s.mem.nat (s.dev.liveFlag (Reg.MAC_RING_TX_CFG k) 2) (s.dev.txDescAddr k (s.dev.fld (Reg.MAC_RING_TX_HEAD k) 31 0) + 8) 2 % 16384 + 4 ≤ s.dev.live (Reg.MAC_MAX_FRAME m) 13 0) ∧
    (∃ (s : State) (m : Fin 193), s.Up ∧ (s.dev.macActive m = true) ∧ m ≠ 192 ∧ (s.dev.liveFlag (Reg.MAC_CFG m) 3 = true) ∧ (s.dev.flag (Reg.MAC_LPI_STAT m) 16 = true) ∧ (s.dev.macLink m = true) ∧ (s.dev.macHasFlow m = false) ∧ (s.dev.macPaused m = true) ∧ (s.dev.flag (Reg.MAC_STAT m) 4 = false) ∧ ((s.dev.macX m).waking = false)) ∧
    (∃ (s : State) (_m : Fin 193), s.Up) ∧
    (∃ (s : State) (m : Fin 193) (_tw : Nat), s.Up ∧ (s.dev.serviceOn 2 = true) ∧ (s.dev.macActive m = true) ∧ m ≠ 192) ∧
    (∃ (s : State) (_m : Fin 193), s.Up) ∧
    (∃ (s : State) (m : Fin 193), s.Up ∧ (s.dev.serviceOn 2 = true) ∧ (s.dev.macActive m = true) ∧ (s.dev.macLink m = true)) :=
  ⟨⟨upWith [(Reg.MAC_RING_RX_COUNT 63 + 0x800, 8), (Reg.MAC_RING_RX_HEAD 63, 0xFFFFFFFF)], 63, 7, [(0x1000, 5)], .pcie, by decide +kernel, by decide +kernel⟩,
    ⟨upWith [(Reg.MAC_RING_RX_COUNT 63 + 0x800, 8), (Reg.MAC_RING_RX_HEAD 63, 0xFFFFFFFF)], 63, 8, [], .pcie, by decide +kernel, by decide +kernel⟩,
    ⟨upWith [(Reg.MAC_RING_TX_COUNT 0 + 0x800, 8)], 0, 8, [], .pcie, by decide +kernel, by decide +kernel⟩,
    ⟨on (upWith []) (fun d => d.setRingX 3 { RingX.reset with since := 2 }), 3, by decide +kernel, by decide +kernel⟩,
    ⟨on (upWith [(Reg.MAC_RING_RX_CFG 3 + 0x800, 1)]) (fun d => d.setRingX 3 { RingX.reset with rxOff := true }), 3, by decide +kernel, by decide +kernel⟩,
    ⟨upWith [(Reg.MAC_STAT 192, 1)], 192, [1, 2, 3], by decide +kernel, by decide +kernel, by decide +kernel, by decide +kernel, by decide +kernel, by decide +kernel⟩,
    ⟨{ upWith [(Reg.MAC_STAT 192, 1), (Reg.MAC_RING_TX_CFG 3 + 0x800, 0xC001), (Reg.MAC_RING_TX_COUNT 3 + 0x800, 8), (Reg.MAC_RING_TX_TAIL 3, 1), (Reg.MAC_MAX_FRAME 192 + 0x800, 1518), (Reg.MAC_RING_TX_BASE_LO 3 + 0x800, 0x1000)] with mem := (State.reset.mem.setBytes false 0x1008 [64, 0, 6, 0]) }, 192, 3, by decide +kernel, by decide +kernel, by decide +kernel, by decide +kernel, by decide +kernel, by decide +kernel, by decide +kernel, by decide +kernel, by decide +kernel, by decide +kernel⟩,
    ⟨upWith [(Reg.LN_CFG 5 + 0x800, 2), (Reg.MAC_CFG 5 + 0x800, 8), (Reg.MAC_LPI_STAT 5, 0x10000), (Reg.MAC_STAT 5, 9)], 5, by decide +kernel, by decide +kernel, by decide +kernel, by decide +kernel, by decide +kernel, by decide +kernel, by decide +kernel, by decide +kernel, by decide +kernel, by decide +kernel⟩,
    ⟨on (upWith []) (fun d => d.setMacX 5 { MacX.reset with waking := true }), 5, by decide +kernel⟩,
    ⟨on (upWith [(Reg.LN_CFG 5 + 0x800, 2)]) (fun d => { d with power := { d.power with cores := false }, hostif := { d.hostif with chart := some { chartBlank 5 6 0 with mgmt := [0, 4] } } }), 5, 17, by decide +kernel, by decide +kernel, by decide +kernel, by decide +kernel⟩,
    ⟨upWith [(Reg.MAC_LPI_STAT 5, 0x10011), (Reg.MAC_STAT 5, 0x11)], 5, by decide +kernel⟩,
    ⟨on (upWith [(Reg.MAC_STAT 192, 1)]) (fun d => { d with power := { d.power with cores := false }, hostif := { d.hostif with chart := some { chartBlank 5 6 0 with mgmt := [0, 4] } } }), 192, by decide +kernel, by decide +kernel, by decide +kernel, by decide +kernel⟩⟩

/-- Every clause of `Obligations.FlowsReceive` has a state and operands that meet it. -/
theorem test_FlowsReceive_met :
    (∃ (s : State) (_m : Fin 192) (p : FlowPacket), s.Up ∧ (p.ipOk = false)) ∧
    (∃ (s : State) (m : Fin 192) (p : FlowPacket) (r : Fin 4096) (line : Nat) (ofs : Nat) (len : Nat) (words : List Nat), s.Up ∧ (p.ipOk = true) ∧ (p.csumOk = true) ∧ (p.version = 2) ∧ (s.dev.rxMatch m p = some r.val) ∧ (p.pt = s.dev.rxPt r) ∧ (p.payload = .video line ofs len words) ∧ (s.dev.rxLead r = r) ∧ (s.dev.rxType r = 0) ∧ (s.dev.rxStat r = 3) ∧ line ≠ 0 ∧ line ≤ rasterTotal (bits (s.dev.rxFmt r) 2 0) ∧ len ≠ 0 ∧ (words.length = len) ∧ ofs + len ≤ rasterWidth (bits (s.dev.rxFmt r) 2 0) * bitsPerPixel (bits (s.dev.rxFmt r) 6 4) / bitsPerWord (bits (s.dev.rxFmt r) 6 4) ∧ (s.dev.flowIn r).released < lineKey (s.dev.frameOfTs (s.dev.rxTp r) p.ts).1 line ∧ ((s.dev.flowIn r).seen = [])) ∧
    (∃ (s : State) (r : Fin 4096) (_f : Nat) (_l : Nat) (_active : Bool) (_first : Bool) (_final : Bool), s.Up ∧ (s.dev.rxEn r = true) ∧ (s.dev.rxLead r = r)) ∧
    (∃ (s : State) (r : Fin 4096), s.Up ∧ (s.dev.rxEn r = true) ∧ (s.dev.rxLead r = r) ∧ (s.dev.rxPair r = false) ∧ (s.dev.rxStat r = 3)) ∧
    (∃ (s : State) (r : Fin 4096), s.Up ∧ (s.dev.rxEn r = true) ∧ (s.dev.rxLead r = r) ∧ s.dev.rxType r ≠ 0 ∧ (s.dev.rxStat r = 2)) ∧
    (∃ (s : State) (r : Fin 4096), s.Up ∧ (s.dev.flowIn r).repeats ≠ 0 ∧ (s.dev.rxJoined r = true) ∧ (s.dev.macLink (s.dev.rxMac r) = true)) ∧
    (∃ (s : State) (_m : Fin 192) (q : MembershipQuery), s.Up ∧ (q.current = false)) ∧
    (∃ (s : State) (m : Fin 192) (q : MembershipQuery) (r : Nat), s.Up ∧ (q.current = true) ∧ (q.group = none) ∧ r ∈ s.dev.rxEntries ∧ (s.dev.rxJoined r = true) ∧ (s.dev.rxMac r = m.val) ∧ (s.dev.macLink m = true)) :=
  ⟨⟨upWith [], 5, ⟨false, 0, 0, 0, false, true, 2, 0, 0, 0, false, .anc []⟩, by decide +kernel, by decide +kernel⟩,
    ⟨upWith [(Reg.FLW_RX_CFG 17 + 0x800, 1), (Reg.FLW_RX_MAC 17 + 0x800, 0x6005), (Reg.FLW_RX_FMT 17 + 0x800, 4), (Reg.FLW_RX_STAT 17, 3), (Reg.REF_TP_CFG 0 + 0x800, 0x4655)], 5, ⟨false, 0, 0, 0, true, true, 2, 0x60, 9, 9000, false, .video 42 0 3 [1, 2, 3]⟩, 17, 42, 0, 3, [1, 2, 3], by decide +kernel, by decide +kernel, by decide +kernel, by decide +kernel, by decide +kernel, by decide +kernel, by decide +kernel, by decide +kernel, by decide +kernel, by decide +kernel, by decide +kernel, by decide +kernel, by decide +kernel, by decide +kernel, by decide +kernel, by decide +kernel, by decide +kernel⟩,
    ⟨on (upWith [(Reg.FLW_RX_CFG 17 + 0x800, 1), (Reg.FLW_RX_STAT 17, 3)]) (fun d => d.setFlowIn 17 { FlowIn.reset with video := [(3, 9, 0, [1])] }), 17, 3, 10, true, false, false, by decide +kernel, by decide +kernel, by decide +kernel⟩,
    ⟨upWith [(Reg.FLW_RX_CFG 17 + 0x800, 1), (Reg.FLW_RX_STAT 17, 3)], 17, by decide +kernel, by decide +kernel, by decide +kernel, by decide +kernel, by decide +kernel⟩,
    ⟨upWith [(Reg.FLW_RX_CFG 17 + 0x800, 3), (Reg.FLW_RX_STAT 17, 2)], 17, by decide +kernel, by decide +kernel, by decide +kernel, by decide +kernel, by decide +kernel⟩,
    ⟨on (upWith [(Reg.FLW_RX_CFG 17 + 0x800, 1), (Reg.FLW_RX_DADDR0 17 + 0x800, 0xE0000105), (Reg.MAC_STAT 0, 1)]) (fun d => d.setFlowIn 17 { FlowIn.reset with repeats := 2 }), 17, by decide +kernel, by decide +kernel, by decide +kernel, by decide +kernel⟩,
    ⟨upWith [], 5, ⟨false, none⟩, by decide +kernel, by decide +kernel⟩,
    ⟨upWith [(Reg.FLW_RX_CFG 17 + 0x800, 1), (Reg.FLW_RX_DADDR0 17 + 0x800, 0xE0000105), (Reg.MAC_STAT 0, 1)], 0, ⟨true, none⟩, 17, by decide +kernel, by decide +kernel, by decide +kernel, by decide +kernel, by decide +kernel, by decide +kernel, by decide +kernel⟩⟩

/-- Every clause of `Obligations.FlowsTransmit` has a state and operands that meet it. -/
theorem test_FlowsTransmit_met :
    (∃ (s : State) (k : Fin 4096) (_f : Nat) (_n : Nat) (_l : Nat) (_last : Bool), s.Up ∧ (s.dev.txEn k = true) ∧ (s.dev.dstEnabled (s.dev.txDst k) = true) ∧ (s.dev.dataRuns = true) ∧ (s.dev.macPaused (s.dev.txMac k) = false) ∧ (s.dev.macLink (s.dev.txMac k) = true)) ∧
    (∃ (s : State) (k : Fin 4096) (_f : Nat) (_n : Nat) (_l : Nat) (_last : Bool), s.Up ∧ (s.dev.txEn k = true) ∧ (s.dev.dstEnabled (s.dev.txDst k) = true) ∧ (s.dev.dataRuns = true) ∧ (s.dev.macPaused (s.dev.txMac k) = true)) ∧
    (∃ (s : State) (k : Fin 4096) (_f : Nat) (_n : Nat) (_l : Nat) (_last : Bool), s.Up ∧ (s.dev.txEn k = true) ∧ (s.dev.dstEnabled (s.dev.txDst k) = true) ∧ (s.dev.dataRuns = true) ∧ (s.dev.macPaused (s.dev.txMac k) = false) ∧ (s.dev.macLink (s.dev.txMac k) = true) ∧ (s.dev.txType k = 0) ∧ (rasterInter (s.dev.dstRaster (s.dev.txDst k)) = false)) :=
  ⟨⟨upWith [(Reg.FLW_TX_CFG 4095 + 0x800, 0x703), (Reg.TAKE_DST_CFG 7 + 0x800, 0x41), (Reg.REF_TP_CFG 0 + 0x800, 0x4655), (Reg.MAC_STAT 0, 1)], 4095, 3, 0, 9, false, by decide +kernel, by decide +kernel, by decide +kernel, by decide +kernel, by decide +kernel, by decide +kernel⟩,
    ⟨upWith [(Reg.FLW_TX_CFG 4095 + 0x800, 0x707), (Reg.TAKE_DST_CFG 7 + 0x800, 0x41), (Reg.REF_TP_CFG 0 + 0x800, 0x4655), (Reg.MAC_STAT 0, 9)], 4095, 3, 0, 9, false, by decide +kernel, by decide +kernel, by decide +kernel, by decide +kernel, by decide +kernel⟩,
    ⟨upWith [(Reg.FLW_TX_CFG 5 + 0x800, 0x701), (Reg.TAKE_DST_CFG 7 + 0x800, 0x41), (Reg.REF_TP_CFG 0 + 0x800, 0x4655), (Reg.MAC_STAT 0, 1), (Reg.FLW_TX_FMT 5 + 0x800, 1200)], 5, 3, 0, 42, false, by decide +kernel, by decide +kernel, by decide +kernel, by decide +kernel, by decide +kernel, by decide +kernel, by decide +kernel, by decide +kernel⟩⟩

/-- Every clause of `Obligations.TakeRequestsAreCheckedAndJournalled` has a state and operands that meet it. -/
theorem test_TakeRequestsAreCheckedAndJournalled_met :
    (∃ (s : State) (w : Writer), s.Opens Reg.pageTAKECMD 0x054 w ∧ (s.dev.flag Reg.TAKE_REQ_GO 31 = false) ∧ (s.dev.takeBusy.takeCheck s.dev.reqKey s.dev.reqSrc s.dev.reqFrame (s.dev.fld Reg.TAKE_REQ_F_HI 18 16) w.cls.code w.port = none)) ∧
    (∃ (s : State) (w : Writer) (reason : Nat) (detail : Nat), s.Opens Reg.pageTAKECMD 0x054 w ∧ (s.dev.flag Reg.TAKE_REQ_GO 31 = false) ∧ (s.dev.takeBusy.takeCheck s.dev.reqKey s.dev.reqSrc s.dev.reqFrame (s.dev.fld Reg.TAKE_REQ_F_HI 18 16) w.cls.code w.port = some (reason, detail)) ∧ reason ≠ 9) ∧
    (∃ (s : State) (w : Writer) (p : PendTake), s.Opens Reg.pageTAKECMD 0x054 w ∧ (s.dev.flag Reg.TAKE_REQ_GO 31 = false) ∧ (s.dev.sealing = false) ∧ (earliest ((s.dev.dst s.dev.reqKey).pend.filter fun x => x.cls == w.cls.code && x.port == w.port && x.salvo.isNone && (s.dev.reqFrame.isNone || s.dev.reqFrame == some x.f)) = some p) ∧ (s.dev.takeBusy.beforeLead s.dev.reqKey p = true)) ∧
    (∃ (s : State) (w : Writer), s.Opens Reg.pageTAKECMD 0x054 w ∧ (s.dev.flag Reg.TAKE_REQ_GO 31 = false) ∧ (s.dev.takeBusy.holdCheck s.dev.reqKey ⟨2, w.cls.code, w.port⟩ = none)) ∧
    (∃ (s : State) (w : Writer) (reason : Nat), s.Opens Reg.pageTAKECMD 0x054 w ∧ (s.dev.flag Reg.TAKE_REQ_GO 31 = false) ∧ (s.dev.takeBusy.holdCheck s.dev.reqKey ⟨2, w.cls.code, w.port⟩ = some reason)) ∧
    (∃ (s : State) (w : Writer), s.Opens Reg.pageTAKECMD 0x054 w ∧ (s.dev.flag Reg.TAKE_REQ_GO 31 = false) ∧ (s.dev.takeBusy.holdCheck s.dev.reqKey ⟨1, w.cls.code, w.port⟩ = none)) ∧
    (∃ (s : State) (w : Writer), s.Opens Reg.pageTAKECMD 0x054 w ∧ (s.dev.flag Reg.TAKE_REQ_GO 31 = false) ∧ (s.dev.takeBusy.releaseCheck s.dev.reqKey 2 w.cls.code w.port = none)) ∧
    (∃ (s : State) (w : Writer), s.Opens Reg.pageTAKECMD 0x054 w ∧ (s.dev.flag Reg.TAKE_REQ_GO 31 = false) ∧ (s.dev.takeBusy.releaseCheck s.dev.reqKey 1 w.cls.code w.port = none)) ∧
    (∃ (s : State) (w : Writer), s.Opens Reg.pageTAKECMD 0x054 w ∧ (s.dev.flag Reg.TAKE_REQ_GO 31 = false) ∧ (s.dev.takeBusy.releaseCheck s.dev.reqKey 3 w.cls.code w.port = none)) ∧
    (∃ (s : State) (dram : Bool) (cells : List Host.Cell) (w : Writer) (count : Nat), s.Opens Reg.pageTAKECMD 0x094 w ∧ (s.dev.flag Reg.TAKE_SALVO_GO 31 = false) ∧ (s.dev.fld Reg.TAKE_SALVO_COUNT 12 0 = count) ∧ count ≤ 4096 ∧ ((s.dev.salvoBusy (1 + b2n dram * 2)).salvoCheck ((s.mem.hostWrote cells).salvoList dram (s.dev.rd64 Reg.TAKE_SALVO_ADDR_LO Reg.TAKE_SALVO_ADDR_HI) count) count s.dev.salvoF (s.dev.fld Reg.TAKE_SALVO_F_HI 18 16) w.cls.code w.port = none)) ∧
    (∃ (s : State) (w : Writer) (x : Salvo), s.Opens Reg.pageTAKECMD 0x094 w ∧ (s.dev.flag Reg.TAKE_SALVO_GO 31 = false) ∧ (s.dev.sealing = false) ∧ ((s.dev.anvil.salvos.find? fun x => x.ticket == (s.dev.rd Reg.TAKE_SALVO_TICKET).toNat) = some x) ∧ ((x.members.all fun m => ((s.dev.salvoBusy 5).dst m.1).pend.any fun p => p.salvo == some x.ticket && (s.dev.salvoBusy 5).beforeLead m.1 p) = true)) :=
  ⟨⟨upWith [(Reg.TAKE_DST_CFG 5 + 0x800, 0x41), (Reg.REF_TP_CFG 0 + 0x800, 0x4655), (Reg.TAKE_REQ_DST, 5), (Reg.TAKE_REQ_SRC, 0x8000), (Reg.TAKE_REQ_F_HI, 0x1000000)], .pcie, by decide +kernel, by decide +kernel, by decide +kernel⟩,
    ⟨upWith [(Reg.TAKE_DST_CFG 5 + 0x800, 0x41), (Reg.REF_TP_CFG 0 + 0x800, 0x4655), (Reg.TAKE_REQ_DST, 6), (Reg.TAKE_REQ_SRC, 0x8000), (Reg.TAKE_REQ_F_HI, 0x1000000)], .pcie, 2, 0, by decide +kernel, by decide +kernel, by decide +kernel, by decide +kernel⟩,
    ⟨on (upWith [(Reg.TAKE_DST_CFG 5 + 0x800, 0x41), (Reg.REF_TP_CFG 0 + 0x800, 0x4655), (Reg.TAKE_REQ_DST, 5), (Reg.TAKE_REQ_F_HI, 0x1000000)]) (fun d => d.setDst 5 { Dst.reset with pend := [⟨9, 0, 0, none, 300, false, none, false, none⟩] }), .pcie, ⟨9, 0, 0, none, 300, false, none, false, none⟩, by decide +kernel, by decide +kernel, by decide +kernel, by decide +kernel, by decide +kernel⟩,
    ⟨upWith [(Reg.TAKE_DST_CFG 5 + 0x800, 0x41), (Reg.REF_TP_CFG 0 + 0x800, 0x4655), (Reg.TAKE_REQ_DST, 5)], .pcie, by decide +kernel, by decide +kernel, by decide +kernel⟩,
    ⟨on (upWith [(Reg.TAKE_DST_CFG 5 + 0x800, 0x41), (Reg.REF_TP_CFG 0 + 0x800, 0x4655), (Reg.TAKE_REQ_DST, 5)]) (fun d => d.setDst 5 { Dst.reset with hold := some ⟨2, 0, 3⟩ }), .pcie, 0x13, by decide +kernel, by decide +kernel, by decide +kernel⟩,
    ⟨upWith [(Reg.TAKE_CIRC_CFG 7 + 0x800, 0x80000000), (Reg.TAKE_REQ_DST, 0x8007)], .pcie, by decide +kernel, by decide +kernel, by decide +kernel⟩,
    ⟨on (upWith [(Reg.TAKE_DST_CFG 5 + 0x800, 0x41), (Reg.REF_TP_CFG 0 + 0x800, 0x4655), (Reg.TAKE_REQ_DST, 5)]) (fun d => d.setDst 5 { Dst.reset with hold := some ⟨2, 0, 0⟩ }), .pcie, by decide +kernel, by decide +kernel, by decide +kernel⟩,
    ⟨on (upWith [(Reg.TAKE_DST_CFG 5 + 0x800, 0x41), (Reg.REF_TP_CFG 0 + 0x800, 0x4655), (Reg.TAKE_REQ_DST, 5)]) (fun d => d.setDst 5 { Dst.reset with hold := some ⟨1, 2, 0⟩ }), .pcie, by decide +kernel, by decide +kernel, by decide +kernel⟩,
    ⟨on (upWith [(Reg.TAKE_DST_CFG 5 + 0x800, 0x41), (Reg.REF_TP_CFG 0 + 0x800, 0x4655), (Reg.TAKE_REQ_DST, 5)]) (fun d => d.setDst 5 { Dst.reset with hold := some ⟨2, 0, 9⟩ }), .pcie, by decide +kernel, by decide +kernel, by decide +kernel⟩,
    ⟨upWith [(Reg.TAKE_DST_CFG 5 + 0x800, 0x41), (Reg.REF_TP_CFG 0 + 0x800, 0x4655), (Reg.TAKE_SALVO_COUNT, 1), (Reg.TAKE_SALVO_F_HI, 0x1000000)], false, [(0, 5), (1, 0x40)], .pcie, 1, by decide +kernel, by decide +kernel, by decide +kernel, by decide +kernel, by decide +kernel⟩,
    ⟨on (upWith [(Reg.TAKE_DST_CFG 5 + 0x800, 0x41), (Reg.REF_TP_CFG 0 + 0x800, 0x4655), (Reg.TAKE_SALVO_TICKET, 4)]) (fun d => { d with anvil := { d.anvil with salvos := [⟨4, 0, 0, 0, 9, []⟩] } }), .pcie, ⟨4, 0, 0, 0, 9, []⟩, by decide +kernel, by decide +kernel, by decide +kernel, by decide +kernel, by decide +kernel⟩⟩

/-- Every clause of `Obligations.DestinationsDecideSwitchAndRead` has a state and operands that meet it. -/
theorem test_DestinationsDecideSwitchAndRead_met :
    (∃ (s : State) (r : DestRef) (h : Hold) (f : Nat), s.Up ∧ ((s.dev.dst r.key).deferred = some (h, f)) ∧ (s.dev.salvoFrame r.key = none)) ∧
    (∃ (s : State) (r : DestRef) (f : Nat) (p : PendTake), s.Up ∧ (s.dev.following = false) ∧ (s.dev.dstEnabled r.key = true) ∧ (s.dev.dataRuns = true) ∧ ((s.dev.dst r.key).pend = [p]) ∧ (p.won = false) ∧ (s.dev.uncommitted p = false) ∧ s.dev.readFrame r.key p ≤ f ∧ (holdRefuses (s.dev.dst r.key).hold p = none)) ∧
    (∃ (s : State) (r : DestRef) (f : Nat) (reason : Nat) (p : PendTake), s.Up ∧ (s.dev.following = false) ∧ (s.dev.dstEnabled r.key = true) ∧ (s.dev.dataRuns = true) ∧ ((s.dev.dst r.key).pend = [p]) ∧ (p.won = false) ∧ (s.dev.uncommitted p = false) ∧ p.cls ≠ 1 ∧ s.dev.readFrame r.key p ≤ f ∧ (holdRefuses (s.dev.dst r.key).hold p = some reason)) ∧
    (∃ (s : State) (k : Fin 2048) (f : Nat) (p : PendTake), s.Up ∧ (s.dev.dstEnabled k = true) ∧ (s.dev.dataRuns = true) ∧ ((s.dev.hie.resync.any fun x => x.1 == k.val) = false) ∧ ((s.dev.dst k).pend = [p]) ∧ (p.won = true) ∧ (s.dev.readFrame k p = f) ∧ ((s.dev.store k).bind Store.leaves = none) ∧ p.cls ≠ 1 ∧ p.cls ≠ 3 ∧ (s.dev.liveFlag (Reg.TAKE_DST_BACKUP k) 15 = false)) ∧
    (∃ (s : State) (k : Fin 2048) (_f : Nat) (_l : Nat) (_active : Bool), s.Up ∧ (s.dev.groupMember k = false) ∧ (s.dev.dstEnabled k = true) ∧ (s.dev.dataRuns = true) ∧ (s.dev.dstSrc k = none) ∧ (s.dev.store k = none)) ∧
    (∃ (s : State) (k : Fin 2048) (f : Nat) (l : Nat) (n : Nat) (x : Source) (y : Desc) (cs : List Cell), s.Up ∧ (s.dev.groupMember k = false) ∧ (s.dev.dstEnabled k = true) ∧ (s.dev.dataRuns = true) ∧ (s.dev.dstSrc k = some n) ∧ (s.dev.src n = some x) ∧ (x.valid = true) ∧ (x.everValid = true) ∧ (s.dev.blackFor k n = none) ∧ (s.dev.store k = none) ∧ (s.dev.pinnedFor k = none) ∧ (s.dev.swageMismatch k = none) ∧ (s.dev.fld (Reg.FS_DST_PLACE k) 1 1 = 0) ∧ (x.desc = some y) ∧ ((x.cells.filter fun c => c.typ == 0 && c.frame == f && c.line == l) = cs) ∧ (cs.map Cell.idx = List.range y.cells) ∧ (cs.any Cell.invalid = false)) :=
  ⟨⟨on (upWith []) (fun d => d.setDst 2239 { Dst.reset with deferred := some (⟨1, 0, 3⟩, 7) }), .circuit 191, ⟨1, 0, 3⟩, 7, by decide +kernel, by decide +kernel, by decide +kernel⟩,
    ⟨on (upWith [(Reg.TAKE_DST_CFG 5 + 0x800, 0x41), (Reg.REF_TP_CFG 0 + 0x800, 0x4655)]) (fun d => d.setDst 5 { Dst.reset with pend := [⟨9, 0, 0, none, 3, false, none, false, none⟩] }), .dst 5, 3, ⟨9, 0, 0, none, 3, false, none, false, none⟩, by decide +kernel, by decide +kernel, by decide +kernel, by decide +kernel, by decide +kernel, by decide +kernel, by decide +kernel, by decide +kernel, by decide +kernel⟩,
    ⟨on (upWith [(Reg.TAKE_DST_CFG 5 + 0x800, 0x41), (Reg.REF_TP_CFG 0 + 0x800, 0x4655)]) (fun d => d.setDst 5 { Dst.reset with pend := [⟨9, 0, 0, none, 3, false, none, false, none⟩], hold := some ⟨2, 0, 1⟩ }), .dst 5, 4, 3, ⟨9, 0, 0, none, 3, false, none, false, none⟩, by decide +kernel, by decide +kernel, by decide +kernel, by decide +kernel, by decide +kernel, by decide +kernel, by decide +kernel, by decide +kernel, by decide +kernel, by decide +kernel⟩,
    ⟨on (upWith [(Reg.TAKE_DST_CFG 5 + 0x800, 0x41), (Reg.REF_TP_CFG 0 + 0x800, 0x4655)]) (fun d => d.setDst 5 { Dst.reset with pend := [⟨9, 0, 0, none, 3, false, none, true, none⟩] }), 5, 3, ⟨9, 0, 0, none, 3, false, none, true, none⟩, by decide +kernel, by decide +kernel, by decide +kernel, by decide +kernel, by decide +kernel, by decide +kernel, by decide +kernel, by decide +kernel, by decide +kernel, by decide +kernel, by decide +kernel⟩,
    ⟨upWith [(Reg.TAKE_DST_CFG 5 + 0x800, 0x41), (Reg.REF_TP_CFG 0 + 0x800, 0x4655)], 5, 3, 42, true, by decide +kernel, by decide +kernel, by decide +kernel, by decide +kernel, by decide +kernel, by decide +kernel⟩,
    ⟨on (upWith [(Reg.TAKE_DST_CFG 5 + 0x800, 0x51), (Reg.REF_TP_CFG 0 + 0x800, 0x4655)]) (fun d => ((d.putSrc 3 (some { Source.fresh 0 9 false 0 0 with valid := true, everValid := true, desc := some ⟨1920, 1080, 1125, 2640, 5, false, false, 0, 0, 0, 0, false, 0, false, 1, 0, false, 0, 3, 1, 0⟩, cells := [Cell.at 0 0 3 42 0 []] })).setDst 5 { Dst.reset with src := some 3 })), 5, 3, 42, 3, { Source.fresh 0 9 false 0 0 with valid := true, everValid := true, desc := some ⟨1920, 1080, 1125, 2640, 5, false, false, 0, 0, 0, 0, false, 0, false, 1, 0, false, 0, 3, 1, 0⟩, cells := [Cell.at 0 0 3 42 0 []] }, ⟨1920, 1080, 1125, 2640, 5, false, false, 0, 0, 0, 0, false, 0, false, 1, 0, false, 0, 3, 1, 0⟩, [Cell.at 0 0 3 42 0 []], by decide +kernel, by decide +kernel, by decide +kernel, by decide +kernel, by decide +kernel, by decide +kernel, by decide +kernel, by decide +kernel, by decide +kernel, by decide +kernel, by decide +kernel, by decide +kernel, by decide +kernel, by decide +kernel, by decide +kernel, by decide +kernel, by decide +kernel⟩⟩

/-- Every clause of `Obligations.FabricLanesFrameIdentifyAndCarry` has a state and operands that meet it. -/
theorem test_FabricLanesFrameIdentifyAndCarry_met :
    (∃ (s : State) (n : Fin 196), s.Up ∧ (s.dev.isFabric n = true) ∧ (s.dev.rxState n = rxLocked) ∧ s.dev.fabFrame n ≠ 2) ∧
    (∃ (s : State) (n : Fin 196), s.Up ∧ (s.dev.fabFrame n = 2)) ∧
    (∃ (s : State) (n : Fin 192) (x : FabCell) (item : PlaceItem) (l : Nat), s.Up ∧ (s.dev.laneRole n = 5) ∧ (s.dev.fabFrame n = 2) ∧ (s.dev.flag (Reg.FAB_LN_STAT n) 4 = true) ∧ (x.bad = 0) ∧ (x.framed = true) ∧ ((s.dev.fabLane n).lseq = none) ∧ ((fabCellOf x x.frame).hcrc x.tag = x.hcrc) ∧ (x.typ = 4) ∧ (s.dev.rawOf n = some item) ∧ (item.txLane = some l)) ∧
    (∃ (s : State) (n : Fin 192) (x : FabCell) (c : LocalCross) (y : Source), s.Up ∧ (s.dev.laneRole n = 5) ∧ (s.dev.fabFrame n = 2) ∧ (s.dev.flag (Reg.FAB_LN_STAT n) 4 = false) ∧ (x.bad = 0) ∧ (x.framed = true) ∧ ((s.dev.fabLane n).lseq = none) ∧ ((fabCellOf x x.frame).hcrc x.tag = x.hcrc) ∧ (x.typ = 0) ∧ (s.dev.crossOf n x.tag = some c) ∧ (s.dev.hie.moves = []) ∧ (s.dev.dataRuns = true) ∧ (s.dev.src c.item.idx = some y)) ∧
    (∃ (s : State) (n : Fin 192) (x : FabCell), s.Up ∧ (s.dev.laneRole n = 5) ∧ (s.dev.fabFrame n = 2) ∧ (s.dev.flag (Reg.FAB_LN_STAT n) 4 = false) ∧ (x.bad = 0) ∧ (x.framed = true) ∧ ((s.dev.fabLane n).lseq = none) ∧ (fabCellOf x x.frame).hcrc x.tag ≠ x.hcrc) ∧
    (∃ (s : State) (n : Fin 196) (x : LaneId), s.Up ∧ (s.dev.isFabric n = true) ∧ (s.dev.fabFrame n = 2) ∧ (x.half = false) ∧ ((s.dev.fabLane n).candLo = laneIdKey x) ∧ 2 ≤ (s.dev.fabLane n).runLo ∧ (s.dev.idAgrees n (laneIdKey x) false = true) ∧ (s.dev.fabLane n).idHi ≠ 0 ∧ (s.dev.idAgrees n (s.dev.fabLane n).idHi true = true)) ∧
    (∃ (s : State) (n : Fin 196) (x : LaneId), s.Up ∧ (s.dev.isFabric n = true) ∧ (s.dev.fabFrame n = 2) ∧ (x.half = false) ∧ ((s.dev.fabLane n).candLo = laneIdKey x) ∧ 2 ≤ (s.dev.fabLane n).runLo ∧ (s.dev.idAgrees n (laneIdKey x) false = false)) ∧
    (∃ (s : State) (n : Fin 192) (x : RawCtl) (item : PlaceItem) (l : Nat), s.Up ∧ (s.dev.laneRole n = 5) ∧ (s.dev.flag (Reg.FAB_LN_STAT n) 4 = true) ∧ (s.dev.fabFrame n = 2) ∧ (x.srcLock = true) ∧ (s.dev.rawOf n = some item) ∧ (item.txLane = some l) ∧ (s.dev.laneRole l = 5)) :=
  ⟨⟨upWith [(Reg.LN_STAT 194, 4)], 194, by decide +kernel, by decide +kernel, by decide +kernel, by decide +kernel⟩,
    ⟨upWith [(Reg.FAB_LN_STAT 5, 0xA)], 5, by decide +kernel, by decide +kernel⟩,
    ⟨on (upWith [(Reg.LN_CFG 5 + 0x800, 5), (Reg.FAB_LN_STAT 5, 0x12)]) (fun d => { d with hie := { d.hie with cross := [⟨⟨8, 0, 0, some 5, some 7, 0, 0, 0, 0, 0, 3⟩, true⟩] } }), 5, (⟨true, 0, 7, 9, 4, 0, 3, 42, 0, 0, false, false, false, false, false, false, 0, ((fabCellOf (⟨true, 0, 7, 9, 4, 0, 3, 42, 0, 0, false, false, false, false, false, false, 0, 0, [1, 2]⟩ : FabCell) 3).hcrc 9), [1, 2]⟩ : FabCell), ⟨8, 0, 0, some 5, some 7, 0, 0, 0, 0, 0, 3⟩, 7, by decide +kernel, by decide +kernel, by decide +kernel, by decide +kernel, by decide +kernel, by decide +kernel, by decide +kernel, by decide +kernel, by decide +kernel, by decide +kernel, by decide +kernel⟩,
    ⟨on (upWith [(Reg.LN_CFG 5 + 0x800, 5), (Reg.FAB_LN_STAT 5, 0x2), (Reg.REF_TP_CFG 0 + 0x800, 0x4655)]) (fun d => ({ d with hie := { d.hie with cross := [⟨⟨0, 0, 0, some 5, none, 9, 0, 700, 4, 0, 3⟩, true⟩] } } : Dev).putSrc 700 (some (Source.fresh 2 5 false 0 0))), 5, (⟨true, 0, 7, 9, 0, 0, 3, 42, 0, 0, false, false, false, false, false, false, 0, ((fabCellOf (⟨true, 0, 7, 9, 0, 0, 3, 42, 0, 0, false, false, false, false, false, false, 0, 0, [1, 2]⟩ : FabCell) 3).hcrc 9), [1, 2]⟩ : FabCell), ⟨⟨0, 0, 0, some 5, none, 9, 0, 700, 4, 0, 3⟩, true⟩, Source.fresh 2 5 false 0 0, by decide +kernel, by decide +kernel, by decide +kernel, by decide +kernel, by decide +kernel, by decide +kernel, by decide +kernel, by decide +kernel, by decide +kernel, by decide +kernel, by decide +kernel, by decide +kernel, by decide +kernel⟩,
    ⟨upWith [(Reg.LN_CFG 5 + 0x800, 5), (Reg.FAB_LN_STAT 5, 0x2)], 5, (⟨true, 0, 7, 9, 0, 0, 3, 42, 0, 0, false, false, false, false, false, false, 0, ((fabCellOf (⟨true, 0, 7, 9, 0, 0, 3, 42, 0, 0, false, false, false, false, false, false, 0, 0, [1, 2]⟩ : FabCell) 3).hcrc 9) + 1, [1, 2]⟩ : FabCell), by decide +kernel, by decide +kernel, by decide +kernel, by decide +kernel, by decide +kernel, by decide +kernel, by decide +kernel, by decide +kernel⟩,
    ⟨on (upWith [(Reg.LN_CFG 191 + 0x800, 5), (Reg.FAB_LN_STAT 191, 2)]) (fun d => ({ d with hostif := { d.hostif with chart := some { chartBlank 5 0x700000005 0 with farEnd := List.replicate 196 (7 + 11 * 256) } } } : Dev).setFabLane 191 { FabLane.reset with candLo := laneIdKey ⟨7, 0, 11, false, 1, 5⟩, runLo := 2, idHi := laneIdKey ⟨7, 0, 11, true, 1, 7⟩ }), 191, ⟨7, 0, 11, false, 1, 5⟩, by decide +kernel, by decide +kernel, by decide +kernel, by decide +kernel, by decide +kernel, by decide +kernel, by decide +kernel, by decide +kernel, by decide +kernel⟩,
    ⟨on (upWith [(Reg.LN_STAT 192, 4)]) (fun d => d.setFabLane 192 { FabLane.reset with candLo := laneIdKey ⟨7, 0, 11, false, 1, 5⟩, runLo := 2, frame := 2, svc := true }), 192, ⟨7, 0, 11, false, 1, 5⟩, by decide +kernel, by decide +kernel, by decide +kernel, by decide +kernel, by decide +kernel, by decide +kernel, by decide +kernel⟩,
    ⟨on (upWith [(Reg.LN_CFG 5 + 0x800, 5), (Reg.LN_CFG 7 + 0x800, 5), (Reg.FAB_LN_STAT 5, 0x12)]) (fun d => { d with hie := { d.hie with cross := [⟨⟨8, 0, 0, some 5, some 7, 0, 0, 0, 0, 0, 3⟩, true⟩] } }), 5, ⟨9, 1, 1, true, 4⟩, ⟨8, 0, 0, some 5, some 7, 0, 0, 0, 0, 0, 3⟩, 7, by decide +kernel, by decide +kernel, by decide +kernel, by decide +kernel, by decide +kernel, by decide +kernel, by decide +kernel, by decide +kernel⟩⟩

/-- Every clause of `Obligations.PlacementDecidesAndMoves` has a state and operands that meet it. -/
theorem test_PlacementDecidesAndMoves_met :
    (∃ (s : State) (item : PlaceItem) (l : Nat), s.Up ∧ (s.dev.hie.placeDue = [item]) ∧ (item.kind = 0) ∧ (item.rxLane = some l) ∧ (item.txLane = none) ∧ s.dev.instantOf ⟨item.tp.val, item.f, 1, 0⟩ ≤ s.dev.time ∧ (s.dev.src item.idx = none)) ∧
    (∃ (s : State) (item : PlaceItem), s.Up ∧ (s.dev.hie.placeDue = [item]) ∧ (item.kind = 8) ∧ (item.rxLane = none) ∧ (item.txLane = none) ∧ s.dev.instantOf ⟨item.tp.val, item.f, 1, 0⟩ ≤ s.dev.time) ∧
    (∃ (s : State) (num : Nat) (m : Move), s.Up ∧ ((s.dev.hie.moves.find? fun m => m.crossing == num) = some m) ∧ s.dev.instantOf ⟨m.tp, m.fMove, 1, 0⟩ ≤ s.dev.time) ∧
    (∃ (s : State) (num : Nat) (m : Move), s.Up ∧ ((s.dev.hie.moves.find? fun m => m.crossing == num && m.newFailed) = some m) ∧ s.dev.time < s.dev.instantOf ⟨m.tp, m.fMove, 1, 0⟩) ∧
    (∃ (s : State) (_us : Fin 65536) (_view : List Bundle) (_unfit : List (Nat × Nat)) (_choices : List PlaceChoice), s.Up ∧ (s.dev.isManager = true) ∧ (s.dev.isStandby = false) ∧ (s.dev.roleConfirmed = true) ∧ (s.dev.hie.crossings = []) ∧ (s.dev.hie.salvos = []) ∧ (s.dev.hie.reqs = [])) ∧
    (∃ (s : State) (_us : Fin 65536) (_view : List Bundle) (unfit : List (Nat × Nat)) (_choices : List PlaceChoice) (q : HieReq) (pos : Nat) (detail : Nat), s.Up ∧ (s.dev.isManager = true) ∧ (s.dev.isStandby = false) ∧ (s.dev.roleConfirmed = true) ∧ (s.dev.hie.crossings = []) ∧ (s.dev.hie.salvos = []) ∧ (s.dev.hie.reqs = [q]) ∧ (q.salvo = none) ∧ (needsCrossing q = none) ∧ (unfit = [(pos, detail)]) ∧ (pos = q.pos)) ∧
    (∃ (s : State) (_us : Fin 65536) (_view : List Bundle) (_choices : List PlaceChoice) (q : HieReq), s.Up ∧ (s.dev.isManager = true) ∧ (s.dev.isStandby = false) ∧ (s.dev.roleConfirmed = true) ∧ (s.dev.hie.crossings = []) ∧ (s.dev.hie.salvos = []) ∧ (s.dev.hie.reqs = [q]) ∧ (q.salvo = none) ∧ (needsCrossing q = none)) :=
  ⟨⟨on (upWith []) (fun d => { d with hie := { d.hie with placeDue := [⟨0, 0, 0, some 5, none, 9, 0, 700, 4, 0, 3⟩] } }), ⟨0, 0, 0, some 5, none, 9, 0, 700, 4, 0, 3⟩, 5, by decide +kernel, by decide +kernel, by decide +kernel, by decide +kernel, by decide +kernel, by decide +kernel, by decide +kernel⟩,
    ⟨on (upWith []) (fun d => { d with hie := { d.hie with placeDue := [⟨8, 0, 0, none, none, 0, 0, 0, 0, 0, 3⟩] } }), ⟨8, 0, 0, none, none, 0, 0, 0, 0, 0, 3⟩, by decide +kernel, by decide +kernel, by decide +kernel, by decide +kernel, by decide +kernel, by decide +kernel⟩,
    ⟨on (upWith []) (fun d => { d with hie := { d.hie with moves := [⟨3, 700, 0, 0, 5, 6, 9, 4, false, false⟩], cross := [⟨⟨0, 0, 0, some 5, none, 9, 0, 700, 4, 0, 3⟩, true⟩] } }), 3, ⟨3, 700, 0, 0, 5, 6, 9, 4, false, false⟩, by decide +kernel, by decide +kernel, by decide +kernel⟩,
    ⟨on (upWith [(Reg.REF_TP_CFG 0 + 0x800, 0x4655)]) (fun d => { d with hie := { d.hie with moves := [⟨3, 700, 9, 0, 5, 6, 9, 4, true, false⟩], cross := [⟨⟨0, 0, 0, some 5, none, 9, 0, 700, 4, 0, 3⟩, true⟩] } }), 3, ⟨3, 700, 9, 0, 5, 6, 9, 4, true, false⟩, by decide +kernel, by decide +kernel, by decide +kernel⟩,
    ⟨upWith [(Reg.HIE_ROLE, 4)], 65535, [⟨1, 2, 3⟩], [], [], by decide +kernel, by decide +kernel, by decide +kernel, by decide +kernel, by decide +kernel, by decide +kernel, by decide +kernel⟩,
    ⟨on (upWith [(Reg.HIE_ROLE, 4), (Reg.HIE_REQ_GO, 0x80000001)]) (fun d => { d with hie := { d.hie with reqs := [⟨4, 0, 5, 3, none, 1, 0, none, ⟨.dst 3, none, 0, 0, true, 0, 4⟩, none, 0⟩] } }), 12, [], [(5, 3)], [], ⟨4, 0, 5, 3, none, 1, 0, none, ⟨.dst 3, none, 0, 0, true, 0, 4⟩, none, 0⟩, 5, 3, by decide +kernel, by decide +kernel, by decide +kernel, by decide +kernel, by decide +kernel, by decide +kernel, by decide +kernel, by decide +kernel, by decide +kernel, by decide +kernel, by decide +kernel⟩,
    ⟨on (upWith [(Reg.HIE_ROLE, 4), (Reg.HIE_REQ_GO, 0x80000001)]) (fun d => { d with hie := { d.hie with reqs := [⟨4, 0, 5, 3, none, 1, 0, none, ⟨.dst 3, none, 0, 0, true, 0, 4⟩, none, 0⟩] } }), 12, [], [], ⟨4, 0, 5, 3, none, 1, 0, none, ⟨.dst 3, none, 0, 0, true, 0, 4⟩, none, 0⟩, by decide +kernel, by decide +kernel, by decide +kernel, by decide +kernel, by decide +kernel, by decide +kernel, by decide +kernel, by decide +kernel, by decide +kernel⟩⟩

/-- Every clause of `Obligations.TongsMessagesAreOrderedAndAcknowledged` has a state and operands that meet it. -/
theorem test_TongsMessagesAreOrderedAndAcknowledged_met :
    (∃ (s : State) (_lane : Fin 192) (m : TongsMsg), s.Up ∧ (s.dev.halState = 1) ∧ (s.dev.twnState = 0) ∧ (m.dstPos = s.dev.position)) ∧
    (∃ (s : State) (_lane : Fin 192) (h : TongsHead) (b : TongsBody), s.Up ∧ (s.dev.halState = 1) ∧ (s.dev.twnState = 0) ∧ (h.dstPos.val = s.dev.position) ∧ s.dev.hal.hierKeys ≠ 0 ∧ b ≠ .ack ∧ 1 < diff32 h.seq (s.dev.peer h.srcPos).acted ∧ ((s.dev.peer h.srcPos).heard = true) ∧ ((s.dev.peer h.srcPos).lost = false) ∧ ((s.dev.peer h.srcPos).unreachable = false) ∧ ((s.dev.peer h.srcPos).unacked = []) ∧ ((s.dev.peer h.srcPos).ahead = [])) ∧
    (∃ (s : State) (_lane : Fin 192) (m : TongsMsg) (l : Nat), s.Up ∧ s.dev.halState ≠ 2 ∧ (s.dev.twnState = 0) ∧ m.dstPos ≠ s.dev.position ∧ (s.dev.relayLane m.dstPos = some l)) ∧
    (∃ (s : State) (_lane : Fin 192) (h : TongsHead) (u : Unacked), s.Up ∧ (s.dev.halState = 1) ∧ (s.dev.twnState = 0) ∧ (h.dstPos.val = s.dev.position) ∧ s.dev.hal.hierKeys ≠ 0 ∧ ((s.dev.peer h.srcPos).heard = true) ∧ ((s.dev.peer h.srcPos).lost = false) ∧ ((s.dev.peer h.srcPos).unreachable = false) ∧ ((s.dev.peer h.srcPos).unacked = [u]) ∧ diff32 u.msg.seq h.ack ≤ 0) ∧
    (∃ (s : State) (peer : Fin 128) (seq : Nat) (u : Unacked), s.Up ∧ (s.dev.roleConfirmed = true) ∧ (s.dev.halState = 1) ∧ (s.dev.twnState = 0) ∧ ((s.dev.peer peer).unacked = [u]) ∧ (u.msg.seq = seq) ∧ (u.sent = true) ∧ u.tries < 7) ∧
    (∃ (s : State) (peer : Fin 128) (seq : Nat) (u : Unacked), s.Up ∧ (s.dev.roleConfirmed = true) ∧ (s.dev.halState = 1) ∧ (s.dev.twnState = 0) ∧ ((s.dev.peer peer).unacked = [u]) ∧ (u.msg.seq = seq) ∧ (u.sent = true) ∧ (u.tries = 7) ∧ ((s.dev.peer peer).unreachable = false)) ∧
    (∃ (s : State) (peer : Fin 128), s.Up ∧ (s.dev.halState = 1) ∧ (s.dev.twnState = 0) ∧ ((s.dev.peer peer).ackDue = true)) :=
  ⟨⟨tongsWith asWorker [], 8, (msgOf (head3 10) .ack), by decide +kernel, by decide +kernel, by decide +kernel, by decide +kernel⟩,
    ⟨tongsWith asWorker [], 8, (head3 12), .roleQuery, by decide +kernel, by decide +kernel, by decide +kernel, by decide +kernel, by decide +kernel, by decide +kernel, by decide +kernel, by decide +kernel, by decide +kernel, by decide +kernel, by decide +kernel, by decide +kernel⟩,
    ⟨on (tongsWith asManager []) (fun d => d.setPeer 7 { Peer.reset with lane := some 8 }), 9, (msgOf { head3 10 with dstPos := 7 } .ack), 8, by decide +kernel, by decide +kernel, by decide +kernel, by decide +kernel, by decide +kernel⟩,
    ⟨tongsWith asWorker [] { Peer.reset with unacked := [⟨msgOf (head3 10) .ack, 2, true⟩] }, 8, { head3 10 with ack := 10 }, ⟨msgOf (head3 10) .ack, 2, true⟩, by decide +kernel, by decide +kernel, by decide +kernel, by decide +kernel, by decide +kernel, by decide +kernel, by decide +kernel, by decide +kernel, by decide +kernel, by decide +kernel⟩,
    ⟨tongsWith asWorker [] { Peer.reset with unacked := [⟨msgOf (head3 10) .ack, 6, true⟩] }, 3, 10, ⟨msgOf (head3 10) .ack, 6, true⟩, by decide +kernel, by decide +kernel, by decide +kernel, by decide +kernel, by decide +kernel, by decide +kernel, by decide +kernel, by decide +kernel⟩,
    ⟨tongsWith asWorker [] { Peer.reset with unacked := [⟨msgOf (head3 10) .ack, 7, true⟩] }, 3, 10, ⟨msgOf (head3 10) .ack, 7, true⟩, by decide +kernel, by decide +kernel, by decide +kernel, by decide +kernel, by decide +kernel, by decide +kernel, by decide +kernel, by decide +kernel, by decide +kernel⟩,
    ⟨tongsWith asWorker [] { Peer.reset with ackDue := true }, 3, by decide +kernel, by decide +kernel, by decide +kernel, by decide +kernel⟩⟩

/-- Every clause of `Obligations.RolesFollowTheHighestEpoch` has a state and operands that meet it. -/
theorem test_RolesFollowTheHighestEpoch_met :
    (∃ (s : State) (_lane : Fin 192) (h : TongsHead) (tag : TagCheck) (_pos : Nat) (_role : Nat) (epoch : Nat) (_manager : Nat), s.Takes h tag ∧ s.dev.epoch < epoch) ∧
    (∃ (s : State) (_lane : Fin 192) (h : TongsHead) (tag : TagCheck), s.Takes h tag ∧ (s.dev.roleConfirmed = true)) ∧
    (∃ (s : State) (_lane : Fin 192) (h : TongsHead) (tag : TagCheck) (x : RoleTable), s.Takes h tag ∧ s.dev.epoch < h.epoch ∧ h.epoch < 2 ^ 32 ∧ x.manager < 128) ∧
    (∃ (s : State) (_lane : Fin 192) (h : TongsHead) (tag : TagCheck) (x : RoleTable), s.Takes h tag ∧ (h.epoch = s.dev.epoch) ∧ (h.srcPos.val = s.dev.managerPos) ∧ (x.manager = s.dev.managerPos) ∧ ((List.range 128).all (fun i => x.roles.getD i 0xF == s.dev.roleOf i) = true)) ∧
    (∃ (s : State) (p : Fin 128) (role : Fin 4) (w : Writer), s.Opens Reg.pageHIE 0x048 w ∧ (s.dev.flag Reg.HIE_ROLE_CMD 31 = false) ∧ (s.dev.sealing = false) ∧ (s.dev.isManager = true) ∧ role ≠ 0 ∧ p.val ≠ s.dev.position ∧ (s.dev.posUsed p = false) ∧ s.dev.epoch < 2 ^ 32 - 1) ∧
    (∃ (s : State) (w : Writer), s.Opens Reg.pageHIE 0x048 w ∧ (s.dev.flag Reg.HIE_ROLE_CMD 31 = false) ∧ (s.dev.sealing = false) ∧ (s.dev.isManager = false) ∧ s.dev.epoch < (s.dev.rd Reg.HIE_ROLE_EPOCH).toNat) ∧
    (∃ (s : State), s.Up ∧ (s.dev.roleConfirmed = false) ∧ (s.dev.isManager = false) ∧ (s.dev.halState = 1) ∧ (s.dev.twnState = 0)) ∧
    (∃ (s : State), s.Up) ∧
    (∃ (s : State), s.Up ∧ (s.dev.isManager = false) ∧ (s.dev.roleConfirmed = true) ∧ (s.dev.halState = 1) ∧ (s.dev.twnState = 0) ∧ s.dev.upd.img.state ≠ 8) :=
  ⟨⟨tongsWith asWorker [], 8, (head3 10), .newest, 3, 0, 5, 3, by decide +kernel, by decide +kernel⟩,
    ⟨tongsWith asManager [], 8, (head3 10), .newest, by decide +kernel, by decide +kernel⟩,
    ⟨tongsWith asWorker [], 8, { head3 10 with epoch := 5 }, .newest, ⟨7, 5, [0, 1]⟩, by decide +kernel, by decide +kernel, by decide +kernel, by decide +kernel⟩,
    ⟨tongsWith (asWorker - 4) [], 8, (head3 10), .newest, ⟨3, 4, []⟩, by decide +kernel, by decide +kernel, by decide +kernel, by decide +kernel, by decide +kernel⟩,
    ⟨tongsWith asManager [], 127, 3, .pcie, by decide +kernel, by decide +kernel, by decide +kernel, by decide +kernel, by decide +kernel, by decide +kernel, by decide +kernel, by decide +kernel⟩,
    ⟨tongsWith asWorker [(Reg.HIE_ROLE_EPOCH, 5)], .pcie, by decide +kernel, by decide +kernel, by decide +kernel, by decide +kernel, by decide +kernel⟩,
    ⟨tongsWith (asWorker - 4) [], by decide +kernel, by decide +kernel, by decide +kernel, by decide +kernel, by decide +kernel⟩,
    ⟨tongsWith (asWorker - 4) [], by decide +kernel⟩,
    ⟨tongsWith asWorker [], by decide +kernel, by decide +kernel, by decide +kernel, by decide +kernel, by decide +kernel, by decide +kernel⟩⟩

/-- Every clause of `Obligations.WorkersFollowTheirManager` has a state and operands that meet it. -/
theorem test_WorkersFollowTheirManager_met :
    (∃ (s : State) (lane : Fin 192) (h : TongsHead) (tag : TagCheck) (e : TakeEntry), s.Takes h tag ∧ s.FromManager h ∧ ((s.dev.taken lane (msgOf h (.take [e]))).takeCheck e.ref.key (e.src.map Fin.val) (if e.now then none else some e.f) e.tp.val 1 e.port = none)) ∧
    (∃ (s : State) (_lane : Fin 192) (h : TongsHead) (tag : TagCheck) (p : SalvoHead) (_l : List TakeEntry), s.Takes h tag ∧ s.FromManager h ∧ (s.dev.hie.held = []) ∧ 1 < p.parts) ∧
    (∃ (s : State) (lane : Fin 192) (h : TongsHead) (tag : TagCheck) (p : SalvoHead) (x : HeldSalvo) (k : Nat) (y : PendTake), s.Takes h tag ∧ s.FromManager h ∧ (s.dev.hie.held = [x]) ∧ (x.head.ticket = p.ticket) ∧ ((s.dev.anvil.dsts.flatMap fun q => (q.2.pend.filter fun t => t.salvo == some (hieSalvoId p.ticket)).map fun t => (q.1, t)) = [(k, y)]) ∧ ((s.dev.taken lane (msgOf h (.salvoCommit p))).beforeLead k y = true)) ∧
    (∃ (s : State) (_lane : Fin 192) (h : TongsHead) (tag : TagCheck) (p : SalvoHead) (_reason : Nat), s.Takes h tag ∧ s.FromManager h ∧ ((s.dev.hie.held.any fun x => x.head.ticket == p.ticket) = true)) ∧
    (∃ (s : State) (_lane : Fin 192) (h : TongsHead) (tag : TagCheck) (_n : Nat) (_items : List PlaceItem), s.Takes h tag ∧ s.FromManager h) ∧
    (∃ (s : State) (_lane : Fin 192) (h : TongsHead) (tag : TagCheck) (_n : Nat) (_items : List PlaceItem), s.Takes h tag ∧ s.FromManager h) ∧
    (∃ (s : State) (lane : Fin 192) (h : TongsHead) (tag : TagCheck) (first : Nat) (count : Nat), s.Takes h tag ∧ s.FromManager h ∧ (s.dev.roleConfirmed = true) ∧ ((s.dev.taken lane (msgOf h (.routeQuery first count))).reportEntries first count = [])) ∧
    (∃ (s : State) (_lane : Fin 192) (h : TongsHead) (tag : TagCheck) (_f : Nat) (_tp : Fin 8) (_ref : DestRef) (_x : Option (Fin 1024)) (_b : Bool) (_c : Bool) (_d : Bool) (_latched : Bool) (_backup : Nat) (_hold : Nat) (_cls : Nat) (_port : Nat) (_flaps : Nat) (_lastF : Nat) (_ticket : Nat), s.Takes h tag ∧ s.FromManager h ∧ (s.dev.hie.reclaimed = [])) ∧
    (∃ (s : State) (_lane : Fin 192) (h : TongsHead) (tag : TagCheck) (data : List Byte) (_man : Option Manifest), s.Takes h tag ∧ s.FromManager h ∧ data ≠ [] ∧ data.length ≤ 340) ∧
    (∃ (s : State) (_lane : Fin 192) (h : TongsHead) (tag : TagCheck) (_hash : Nat) (_f : Nat) (_l : Nat) (_smp : Nat) (_tp : Fin 8), s.Takes h tag ∧ s.FromManager h ∧ (s.dev.hie.chartArmed.isSome = true) ∧ (s.dev.hostif.chartLoad.isSome = true)) ∧
    (∃ (s : State) (_lane : Fin 192) (h : TongsHead) (tag : TagCheck) (seq : Nat) (hash : Nat) (f : Nat) (l : Nat) (smp : Nat) (tp : Fin 8) (x : BulkObj), s.Takes h tag ∧ s.FromManager h ∧ seq ≠ 0 ∧ (s.dev.flag Reg.SYS_CHART_CTRL 31 = false) ∧ (s.dev.sealing = false) ∧ (s.dev.hie.bulk = [x]) ∧ (x.object = 1) ∧ (x.total = x.bytes.length) ∧ (numAt (x.bytes.map Prod.snd) 12 4 = seq) ∧ (numAt (x.bytes.map Prod.snd) 20 8 = hash) ∧ (s.dev.slotBusy 0 = false) ∧ (s.dev.planeOn tp.val = true) ∧ s.dev.time < s.dev.instantOf ⟨tp.val, f, l, smp⟩ ∧ f < 2 ^ 48 ∧ l < 2 ^ 13 ∧ smp < 2 ^ 14) :=
  ⟨⟨tongsWith asWorker [(Reg.TAKE_DST_CFG 5 + 0x800, 0x41), (Reg.REF_TP_CFG 0 + 0x800, 0x4655)], 8, (head3 10), .newest, ⟨.dst 5, none, 0, 0, true, 2, 77⟩, by decide +kernel, by decide +kernel, by decide +kernel⟩,
    ⟨tongsWith asWorker [], 8, (head3 10), .newest, ⟨70, 300, 0, false, 0, 2⟩, [⟨.dst 5, none, 0, 0, true, 2, 77⟩], by decide +kernel, by decide +kernel, by decide +kernel, by decide +kernel⟩,
    ⟨on (tongsWith asWorker [(Reg.TAKE_DST_CFG 5 + 0x800, 0x41), (Reg.REF_TP_CFG 0 + 0x800, 0x4655)]) (fun d => ({ d with hie := { d.hie with held := [⟨⟨70, 300, 0, false, 0, 2⟩, [], true, false⟩] } } : Dev).setDst 5 { Dst.reset with pend := [⟨9, 1, 0, none, 300, true, some (hieSalvoId 70), false, none⟩] }), 8, (head3 10), .newest, ⟨70, 300, 0, false, 0, 2⟩, ⟨⟨70, 300, 0, false, 0, 2⟩, [], true, false⟩, 5, ⟨9, 1, 0, none, 300, true, some (hieSalvoId 70), false, none⟩, by decide +kernel, by decide +kernel, by decide +kernel, by decide +kernel, by decide +kernel, by decide +kernel⟩,
    ⟨on (tongsWith asWorker []) (fun d => { d with hie := { d.hie with held := [⟨⟨70, 300, 0, false, 0, 2⟩, [], false, false⟩] } }), 8, (head3 10), .newest, ⟨70, 300, 0, false, 0, 2⟩, 3, by decide +kernel, by decide +kernel, by decide +kernel⟩,
    ⟨tongsWith asWorker [], 8, (head3 10), .newest, 6, [⟨8, 0, 0, none, none, 0, 0, 0, 0, 0, 3⟩], by decide +kernel, by decide +kernel⟩,
    ⟨tongsWith asWorker [], 8, (head3 10), .newest, 6, [⟨8, 0, 300, none, none, 0, 0, 0, 0, 0, 3⟩], by decide +kernel, by decide +kernel⟩,
    ⟨tongsWith asWorker [], 8, (head3 10), .newest, 0, 16, by decide +kernel, by decide +kernel, by decide +kernel, by decide +kernel⟩,
    ⟨tongsWith asWorker [], 8, (head3 10), .newest, 300, 0, .dst 5, none, true, false, false, false, 0, 0, 0, 0, 0, 0, 77, by decide +kernel, by decide +kernel, by decide +kernel⟩,
    ⟨tongsWith asWorker [], 8, (head3 10), .newest, [1, 2, 3], none, by decide +kernel, by decide +kernel, by decide +kernel, by decide +kernel⟩,
    ⟨on (tongsWith asWorker [(Reg.SYS_CHART_CTRL, 0x80000000)]) (fun d => { d with hie := { d.hie with chartArmed := some 7 }, hostif := { d.hostif with chartLoad := some ⟨0, none, none, false, false⟩ } }), 8, (head3 10), .newest, 9, 300, 1, 0, 0, by decide +kernel, by decide +kernel, by decide +kernel, by decide +kernel⟩,
    ⟨on (tongsWith asWorker [(Reg.TAKE_DST_CFG 5 + 0x800, 0x41), (Reg.REF_TP_CFG 0 + 0x800, 0x4655)]) (fun d => { d with hie := { d.hie with bulk := [⟨1, 0, 28, List.zip (List.range 28) (List.replicate 12 0 ++ bytesLE 4 7 ++ bytesLE 4 0 ++ bytesLE 8 9)⟩] } }), 8, (head3 10), .newest, 7, 9, 300, 1, 0, 0, ⟨1, 0, 28, List.zip (List.range 28) (List.replicate 12 0 ++ bytesLE 4 7 ++ bytesLE 4 0 ++ bytesLE 8 9)⟩, by decide +kernel, by decide +kernel, by decide +kernel, by decide +kernel, by decide +kernel, by decide +kernel, by decide +kernel, by decide +kernel, by decide +kernel, by decide +kernel, by decide +kernel, by decide +kernel, by decide +kernel, by decide +kernel, by decide +kernel, by decide +kernel⟩⟩

/-- Every clause of `Obligations.TheManagerKeepsItsWorkers` has a state and operands that meet it. -/
theorem test_TheManagerKeepsItsWorkers_met :
    (∃ (s : State) (_lane : Fin 192) (h : TongsHead) (tag : TagCheck) (r : ResultEntry), s.Takes h tag ∧ s.AtManager h ∧ (s.dev.hie.crossings = []) ∧ ((s.dev.rd Reg.HIE_REQ_TICKET).toNat = r.ticket) ∧ (s.dev.hie.salvos = [])) ∧
    (∃ (s : State) (_lane : Fin 192) (h : TongsHead) (tag : TagCheck) (p : SalvoHead) (_reason : Nat) (_idx : Nat) (_got : Nat) (x : HieSalvo), s.Takes h tag ∧ s.AtManager h ∧ (s.dev.hie.salvos = [x]) ∧ (x.ticket = p.ticket) ∧ (x.committed = false) ∧ (p.f = x.f) ∧ (x.ready = []) ∧ ((x.positions.all fun q => q == h.srcPos.val) = false)) ∧
    (∃ (s : State) (ticket : Nat) (x : HieSalvo), s.Up ∧ (s.dev.hie.salvos = [x]) ∧ (x.ticket = ticket) ∧ (x.committed = false) ∧ x.moves < 8 ∧ s.dev.position ∉ x.positions) ∧
    (∃ (s : State) (ticket : Nat) (x : HieSalvo), s.Up ∧ (s.dev.hie.salvos = [x]) ∧ (x.ticket = ticket) ∧ (x.committed = false) ∧ 8 ≤ x.moves ∧ s.dev.position ∉ x.positions) ∧
    (∃ (s : State) (ticket : Nat) (pos : Fin 128) (x : HieSalvo) (u : Unacked) (y : SalvoHead), s.Up ∧ (s.dev.hie.salvos = [x]) ∧ (x.ticket = ticket) ∧ (x.committed = true) ∧ pos.val ∈ x.positions ∧ ((s.dev.peer pos).unacked = [u]) ∧ (u.msg.body = .salvoCommit y) ∧ (y.ticket = ticket)) ∧
    (∃ (s : State) (_lane : Fin 192) (h : TongsHead) (tag : TagCheck) (_x : Health), s.Takes h tag ∧ s.AtManager h) ∧
    (∃ (s : State) (_lane : Fin 192) (h : TongsHead) (tag : TagCheck) (e : EventMsg), s.Takes h tag ∧ s.AtManager h ∧ e.code ≠ chartRefusedCode ∧ s.dev.fld Reg.TMP_STAT 1 0 ≠ 3 ∧ s.dev.evlog.inSecond < 16384) ∧
    (∃ (s : State) (_lane : Fin 192) (h : TongsHead) (tag : TagCheck) (part : Nat) (parts : Nat) (_l : List RouteEntry), s.Takes h tag ∧ s.AtManager h ∧ parts ≤ part + 1) ∧
    (∃ (s : State) (p : Fin 128), s.Up ∧ (s.dev.isManager = true) ∧ ((s.dev.otherPositions.contains p.val) = true) ∧ ((s.dev.peer p).lost = false)) ∧
    (∃ (s : State), s.Up ∧ (s.dev.isManager = false)) ∧
    (∃ (s : State) (w : Writer) (p : Nat), s.Opens Reg.pageHIE 0x05C w ∧ (s.dev.isManager = false) ∧ ((s.dev.peer s.dev.managerPos).lost = true) ∧ p ∈ s.dev.managerPages) :=
  ⟨⟨tongsWith asManager [(Reg.HIE_REQ_TICKET, 77)], 8, (head3 10), .newest, ⟨77, 2, 3, 0, 0, false⟩, by decide +kernel, by decide +kernel, by decide +kernel, by decide +kernel, by decide +kernel⟩,
    ⟨on (tongsWith asManager []) (fun d => { d with hie := { d.hie with salvos := [⟨70, 0, 300, [], [3, 7], [], [], 0, false, 1, 0⟩] } }), 8, (head3 10), .newest, ⟨70, 300, 0, false, 0, 2⟩, 0, 0, 2, ⟨70, 0, 300, [], [3, 7], [], [], 0, false, 1, 0⟩, by decide +kernel, by decide +kernel, by decide +kernel, by decide +kernel, by decide +kernel, by decide +kernel, by decide +kernel, by decide +kernel⟩,
    ⟨on (tongsWith asManager []) (fun d => { d with hie := { d.hie with salvos := [⟨70, 0, 300, [], [3], [], [], 7, false, 1, 0⟩] } }), 70, ⟨70, 0, 300, [], [3], [], [], 7, false, 1, 0⟩, by decide +kernel, by decide +kernel, by decide +kernel, by decide +kernel, by decide +kernel, by decide +kernel⟩,
    ⟨on (tongsWith asManager []) (fun d => { d with hie := { d.hie with salvos := [⟨70, 0, 300, [], [3], [], [], 8, false, 1, 0⟩] } }), 70, ⟨70, 0, 300, [], [3], [], [], 8, false, 1, 0⟩, by decide +kernel, by decide +kernel, by decide +kernel, by decide +kernel, by decide +kernel, by decide +kernel⟩,
    ⟨on (tongsWith asManager [] { Peer.reset with unacked := [⟨msgOf (head3 10) (.salvoCommit ⟨70, 300, 0, false, 0, 2⟩), 2, true⟩] }) (fun d => { d with hie := { d.hie with salvos := [⟨70, 0, 300, [], [3, 7], [], [], 0, true, 1, 0⟩] } }), 70, 3, ⟨70, 0, 300, [], [3, 7], [], [], 0, true, 1, 0⟩, ⟨msgOf (head3 10) (.salvoCommit ⟨70, 300, 0, false, 0, 2⟩), 2, true⟩, ⟨70, 300, 0, false, 0, 2⟩, by decide +kernel, by decide +kernel, by decide +kernel, by decide +kernel, by decide +kernel, by decide +kernel, by decide +kernel, by decide +kernel⟩,
    ⟨tongsWith asManager [], 8, (head3 10), .newest, health3, by decide +kernel, by decide +kernel⟩,
    ⟨tongsWith asManager [], 8, (head3 10), .newest, ⟨0x41, 0x100, 0, 0, 0, 0, 0, false, 6⟩, by decide +kernel, by decide +kernel, by decide +kernel, by decide +kernel, by decide +kernel⟩,
    ⟨tongsWith asManager [], 8, (head3 10), .newest, 0, 1, [], by decide +kernel, by decide +kernel, by decide +kernel⟩,
    ⟨on (tongsWith asManager []) (fun d => { d with hie := { d.hie with table := ⟨5, 4, [0xF, 0xF, 0xF, 1]⟩ } }), 3, by decide +kernel, by decide +kernel, by decide +kernel, by decide +kernel⟩,
    ⟨tongsWith asWorker [], by decide +kernel, by decide +kernel⟩,
    ⟨on (tongsWith asWorker [(Reg.PG_OWNER 0x605, 1)]) (fun d => d.setPeer 3 { Peer.reset with lost := true }), .pcie, 0x605, by decide +kernel, by decide +kernel, by decide +kernel, by decide +kernel⟩⟩

/-- Every clause of `Obligations.HierarchyRequestsAndMap` has a state and operands that meet it. -/
theorem test_HierarchyRequestsAndMap_met :
    (∃ (s : State) (dram : Bool) (cells : List Host.Cell) (w : Writer), s.Opens Reg.pageHIE 0x068 w ∧ (s.dev.flag Reg.HIE_MAP_CTRL 31 = false) ∧ (s.dev.isManager = true) ∧ (s.dev.sealing = false) ∧ ((∀ i, i < 131072 → (s.mem.hostWrote cells).nat dram (s.dev.rd64 Reg.HIE_MAP_ADDR_LO Reg.HIE_MAP_ADDR_HI / 4096 * 4096 + 4 * i) 4 ≠ s.dev.mapWord i → (if i < 65536 then s.dev.snUsed i else s.dev.dnUsed (i - 65536)) = false))) ∧
    (∃ (s : State) (w : Writer), s.Opens Reg.pageHIE 0x084 w ∧ (s.dev.flag Reg.HIE_REQ_GO 31 = false) ∧ (s.dev.isManager = true) ∧ (s.dev.hieBusy.hieCheck s.dev.hieDn s.dev.hieSn s.dev.hieF s.dev.hieTp.val w.port = none)) ∧
    (∃ (s : State) (w : Writer) (q : HieReq), s.Opens Reg.pageHIE 0x084 w ∧ (s.dev.flag Reg.HIE_REQ_GO 31 = false) ∧ (s.dev.isManager = true) ∧ (s.dev.hie.reqs = [q]) ∧ (q.dn = s.dev.hieDn) ∧ (q.port = w.port) ∧ (q.salvo = none) ∧ (s.dev.hieF = none)) ∧
    (∃ (s : State) (w : Writer) (key : Nat), s.Opens Reg.pageHIE 0x084 w ∧ (s.dev.flag Reg.HIE_REQ_GO 31 = false) ∧ (s.dev.isManager = true) ∧ (s.dev.dnOf s.dev.hieDn = some (s.dev.position, key)) ∧ (s.dev.flag Reg.HIE_ROLE 3 = false) ∧ (s.dev.roleConfirmed = true) ∧ (s.dev.sealing = false) ∧ (s.dev.holdCheck key ⟨2, 1, w.port⟩ = none)) ∧
    (∃ (s : State) (w : Writer) (key : Nat), s.Opens Reg.pageHIE 0x084 w ∧ (s.dev.flag Reg.HIE_REQ_GO 31 = false) ∧ (s.dev.isManager = true) ∧ (s.dev.dnOf s.dev.hieDn = some (s.dev.position, key)) ∧ (s.dev.flag Reg.HIE_ROLE 3 = false) ∧ (s.dev.roleConfirmed = true) ∧ (s.dev.sealing = false) ∧ (s.dev.holdCheck key ⟨1, 1, w.port⟩ = none)) ∧
    (∃ (s : State) (w : Writer) (key : Nat), s.Opens Reg.pageHIE 0x084 w ∧ (s.dev.flag Reg.HIE_REQ_GO 31 = false) ∧ (s.dev.isManager = true) ∧ (s.dev.dnOf s.dev.hieDn = some (s.dev.position, key)) ∧ (s.dev.flag Reg.HIE_ROLE 3 = false) ∧ (s.dev.roleConfirmed = true) ∧ (s.dev.sealing = false) ∧ (s.dev.releaseCheck key 2 1 w.port = none)) ∧
    (∃ (s : State) (w : Writer) (key : Nat), s.Opens Reg.pageHIE 0x084 w ∧ (s.dev.flag Reg.HIE_REQ_GO 31 = false) ∧ (s.dev.isManager = true) ∧ (s.dev.dnOf s.dev.hieDn = some (s.dev.position, key)) ∧ (s.dev.flag Reg.HIE_ROLE 3 = false) ∧ (s.dev.roleConfirmed = true) ∧ (s.dev.sealing = false) ∧ (s.dev.releaseCheck key 1 1 w.port = none)) ∧
    (∃ (s : State) (w : Writer) (key : Nat), s.Opens Reg.pageHIE 0x084 w ∧ (s.dev.flag Reg.HIE_REQ_GO 31 = false) ∧ (s.dev.isManager = true) ∧ (s.dev.dnOf s.dev.hieDn = some (s.dev.position, key)) ∧ (s.dev.flag Reg.HIE_ROLE 3 = false) ∧ (s.dev.roleConfirmed = true) ∧ (s.dev.sealing = false) ∧ (s.dev.releaseCheck key 3 (s.dev.forceCls key 3 w.port) w.port = none)) ∧
    (∃ (s : State) (dram : Bool) (cells : List Host.Cell) (w : Writer) (count : Nat), s.Opens Reg.pageHIE 0x0A4 w ∧ (s.dev.flag Reg.HIE_SALVO_GO 31 = false) ∧ (s.dev.isManager = true) ∧ (s.dev.fld Reg.HIE_SALVO_COUNT 12 0 = count) ∧ count ≠ 0 ∧ count ≤ 4096 ∧ (s.dev.flag Reg.HIE_SALVO_F_HI 24 = true) ∧ (firstDup [] 0 ((List.range count).map fun i => (hieEntry ((s.mem.hostWrote cells).bytes dram (s.dev.rd64 Reg.HIE_SALVO_ADDR_LO Reg.HIE_SALVO_ADDR_HI + 8 * i) 8)).1) = none) ∧ (((List.range count).all fun i => ((s.dev.hieSalvoBusy (1 + b2n dram * 2)).hieCheck (hieEntry ((s.mem.hostWrote cells).bytes dram (s.dev.rd64 Reg.HIE_SALVO_ADDR_LO Reg.HIE_SALVO_ADDR_HI + 8 * i) 8)).1 (hieEntry ((s.mem.hostWrote cells).bytes dram (s.dev.rd64 Reg.HIE_SALVO_ADDR_LO Reg.HIE_SALVO_ADDR_HI + 8 * i) 8)).2 none (s.dev.fld Reg.HIE_SALVO_F_HI 18 16) w.port).isNone) = true)) ∧
    (∃ (s : State) (w : Writer) (q : HieReq), s.Opens Reg.pageHIE 0x0A4 w ∧ (s.dev.flag Reg.HIE_SALVO_GO 31 = false) ∧ (s.dev.isManager = true) ∧ (s.dev.hie.reqs = [q]) ∧ (q.salvo = some (s.dev.rd Reg.HIE_SALVO_TICKET).toNat)) :=
  ⟨⟨tongsWith asManager [], false, [], .pcie, by decide +kernel, by decide +kernel, by decide +kernel, by decide +kernel, fun i _ h => (h (by unfold Dev.mapWord; split <;> rfl)).elim⟩,
    ⟨on (tongsWith asManager [(Reg.TAKE_DST_CFG 5 + 0x800, 0x41), (Reg.REF_TP_CFG 0 + 0x800, 0x4655), (Reg.HIE_REQ_DN, 9), (Reg.HIE_REQ_SN, 2^31), (Reg.HIE_REQ_F_HI, 0x1000000)]) (fun d => ({ d with hie := { d.hie with dn := [(9, 2^31 + 5*2^11 + 5)] } } : Dev)), .pcie, by decide +kernel, by decide +kernel, by decide +kernel, by decide +kernel⟩,
    ⟨on (tongsWith asManager [(Reg.TAKE_DST_CFG 5 + 0x800, 0x41), (Reg.REF_TP_CFG 0 + 0x800, 0x4655), (Reg.HIE_REQ_DN, 9), (Reg.HIE_REQ_SN, 2^31), (Reg.HIE_REQ_F_HI, 0x1000000)]) (fun d => ({ d with hie := { d.hie with dn := [(9, 2^31 + 5*2^11 + 5)], reqs := [⟨70, 9, 5, 5, none, 1, 0, none, ⟨.dst 5, none, 0, 0, true, 0, 70⟩, none, 0⟩] } } : Dev)), .pcie, ⟨70, 9, 5, 5, none, 1, 0, none, ⟨.dst 5, none, 0, 0, true, 0, 70⟩, none, 0⟩, by decide +kernel, by decide +kernel, by decide +kernel, by decide +kernel, by decide +kernel, by decide +kernel, by decide +kernel, by decide +kernel⟩,
    ⟨on (tongsWith asManager [(Reg.TAKE_DST_CFG 5 + 0x800, 0x41), (Reg.REF_TP_CFG 0 + 0x800, 0x4655), (Reg.HIE_REQ_DN, 9), (Reg.HIE_REQ_SN, 2^31), (Reg.HIE_REQ_F_HI, 0x1000000)]) (fun d => ({ d with hie := { d.hie with dn := [(9, 2^31 + 5*2^11 + 5)] } } : Dev)), .pcie, 5, by decide +kernel, by decide +kernel, by decide +kernel, by decide +kernel, by decide +kernel, by decide +kernel, by decide +kernel, by decide +kernel⟩,
    ⟨on (tongsWith asManager [(Reg.TAKE_DST_CFG 5 + 0x800, 0x41), (Reg.REF_TP_CFG 0 + 0x800, 0x4655), (Reg.HIE_REQ_DN, 9), (Reg.HIE_REQ_SN, 2^31), (Reg.HIE_REQ_F_HI, 0x1000000)]) (fun d => ({ d with hie := { d.hie with dn := [(9, 2^31 + 5*2^11 + 5)] } } : Dev)), .pcie, 5, by decide +kernel, by decide +kernel, by decide +kernel, by decide +kernel, by decide +kernel, by decide +kernel, by decide +kernel, by decide +kernel⟩,
    ⟨on (tongsWith asManager [(Reg.TAKE_DST_CFG 5 + 0x800, 0x41), (Reg.REF_TP_CFG 0 + 0x800, 0x4655), (Reg.HIE_REQ_DN, 9), (Reg.HIE_REQ_SN, 2^31), (Reg.HIE_REQ_F_HI, 0x1000000)]) (fun d => ({ d with hie := { d.hie with dn := [(9, 2^31 + 5*2^11 + 5)] } } : Dev).setDst 5 { Dst.reset with hold := some ⟨2, 1, 0⟩ }), .pcie, 5, by decide +kernel, by decide +kernel, by decide +kernel, by decide +kernel, by decide +kernel, by decide +kernel, by decide +kernel, by decide +kernel⟩,
    ⟨on (tongsWith asManager [(Reg.TAKE_DST_CFG 5 + 0x800, 0x41), (Reg.REF_TP_CFG 0 + 0x800, 0x4655), (Reg.HIE_REQ_DN, 9), (Reg.HIE_REQ_SN, 2^31), (Reg.HIE_REQ_F_HI, 0x1000000)]) (fun d => ({ d with hie := { d.hie with dn := [(9, 2^31 + 5*2^11 + 5)] } } : Dev).setDst 5 { Dst.reset with hold := some ⟨1, 1, 0⟩ }), .pcie, 5, by decide +kernel, by decide +kernel, by decide +kernel, by decide +kernel, by decide +kernel, by decide +kernel, by decide +kernel, by decide +kernel⟩,
    ⟨on (tongsWith asManager [(Reg.TAKE_DST_CFG 5 + 0x800, 0x41), (Reg.REF_TP_CFG 0 + 0x800, 0x4655), (Reg.HIE_REQ_DN, 9), (Reg.HIE_REQ_SN, 2^31), (Reg.HIE_REQ_F_HI, 0x1000000)]) (fun d => ({ d with hie := { d.hie with dn := [(9, 2^31 + 5*2^11 + 5)] } } : Dev).setDst 5 { Dst.reset with hold := some ⟨2, 1, 0⟩ }), .pcie, 5, by decide +kernel, by decide +kernel, by decide +kernel, by decide +kernel, by decide +kernel, by decide +kernel, by decide +kernel, by decide +kernel⟩,
    ⟨on (tongsWith asManager [(Reg.TAKE_DST_CFG 5 + 0x800, 0x41), (Reg.REF_TP_CFG 0 + 0x800, 0x4655), (Reg.HIE_SALVO_COUNT, 1), (Reg.HIE_SALVO_F_HI, 0x1000000)]) (fun d => ({ d with hie := { d.hie with dn := [(9, 2^31 + 5*2^11 + 5)] } } : Dev)), false, [(0, 9), (4, 1)], .pcie, 1, by decide +kernel, by decide +kernel, by decide +kernel, by decide +kernel, by decide +kernel, by decide +kernel, by decide +kernel, by decide +kernel, by decide +kernel⟩,
    ⟨on (tongsWith asManager [(Reg.TAKE_DST_CFG 5 + 0x800, 0x41), (Reg.REF_TP_CFG 0 + 0x800, 0x4655), (Reg.HIE_SALVO_TICKET, 70)]) (fun d => ({ d with hie := { d.hie with dn := [(9, 2^31 + 5*2^11 + 5)], reqs := [⟨70, 9, 5, 5, none, 1, 0, none, ⟨.dst 5, none, 0, 0, true, 0, 70⟩, some 70, 0⟩] } } : Dev)), .pcie, ⟨70, 9, 5, 5, none, 1, 0, none, ⟨.dst 5, none, 0, 0, true, 0, 70⟩, some 70, 0⟩, by decide +kernel, by decide +kernel, by decide +kernel, by decide +kernel, by decide +kernel⟩⟩

/-- Every clause of `Obligations.FrameStoresReadHoldAndFill` has a state and operands that meet it. -/
theorem test_FrameStoresReadHoldAndFill_met :
    (∃ (s : State) (k : Fin 2048) (f : Nat) (x : Store) (g : StoreFrame), s.Up ∧ (s.dev.store k = some x) ∧ (s.dev.dstEnabled k = true) ∧ (s.dev.dataRuns = true) ∧ (s.dev.pinnedFor k = none) ∧ (x.filling = false) ∧ (x.pre = none) ∧ (s.dev.storeChoice k f x = some g) ∧ (g.isLost = false) ∧ (x.lastRead.all (fun h => decide (h < g.f ∧ g.f ≤ h + 1)) = true)) ∧
    (∃ (s : State) (k : Fin 2048) (f : Nat) (x : Store), s.Up ∧ (s.dev.store k = some x) ∧ (s.dev.dstEnabled k = true) ∧ (s.dev.dataRuns = true) ∧ (s.dev.pinnedFor k = none) ∧ (x.filling = false) ∧ (x.pre = none) ∧ (s.dev.storeChoice k f x = none) ∧ (s.dev.lossPolicy k = 1)) ∧
    (∃ (s : State) (k : Fin 2048) (_f : Nat) (_torn : List Nat) (x : Store), s.Up ∧ (s.dev.store k = some x) ∧ (s.dev.dstEnabled k = true) ∧ (s.dev.dataRuns = true) ∧ (x.filling = true) ∧ (x.pre = none) ∧ (s.dev.lossPolicy k = 0)) ∧
    (∃ (s : State) (k : Fin 2048) (x : Store), s.Up ∧ (s.dev.store k = some x) ∧ (x.filling = true) ∧ x.depth ≤ x.written) ∧
    (∃ (s : State) (k : Fin 2048) (x : Store), s.Up ∧ (s.dev.store k = some x) ∧ (x.filling = true) ∧ x.written < x.depth) ∧
    (∃ (s : State) (k : Fin 2048) (x : Store), s.Up ∧ (s.dev.store k = some x) ∧ (x.inLoss = true) ∧ (s.dev.lossPolicy k = 0) ∧ s.dev.live (Reg.FS_DST_HOLD k) 15 0 ≠ 0 ∧ s.dev.live (Reg.FS_DST_HOLD k) 15 0 ≤ x.held) :=
  ⟨⟨on (upWith [(Reg.TAKE_DST_CFG 5 + 0x800, 0x41), (Reg.REF_TP_CFG 0 + 0x800, 0x4655)]) (fun d => d.putStore 5 (some ⟨2, [⟨3, 0, [(42, [Cell.at 0 0 3 42 0 []])], false, true⟩], false, 0, (some 2), none, 0, false, .field, none, none, none⟩)), 5, 5, ⟨2, [⟨3, 0, [(42, [Cell.at 0 0 3 42 0 []])], false, true⟩], false, 0, (some 2), none, 0, false, .field, none, none, none⟩, ⟨3, 0, [(42, [Cell.at 0 0 3 42 0 []])], false, true⟩, by decide +kernel, by decide +kernel, by decide +kernel, by decide +kernel, by decide +kernel, by decide +kernel, by decide +kernel, by decide +kernel, by decide +kernel, by decide +kernel⟩,
    ⟨on (upWith [(Reg.TAKE_DST_CFG 5 + 0x800, 0x41), (Reg.REF_TP_CFG 0 + 0x800, 0x4655), (Reg.FS_DST_CFG 5 + 0x800, 2)]) (fun d => d.putStore 5 (some ⟨2, [], false, 0, none, none, 0, false, .field, none, none, none⟩)), 5, 5, ⟨2, [], false, 0, none, none, 0, false, .field, none, none, none⟩, by decide +kernel, by decide +kernel, by decide +kernel, by decide +kernel, by decide +kernel, by decide +kernel, by decide +kernel, by decide +kernel, by decide +kernel⟩,
    ⟨on (upWith [(Reg.TAKE_DST_CFG 5 + 0x800, 0x41), (Reg.REF_TP_CFG 0 + 0x800, 0x4655)]) (fun d => d.putStore 5 (some ⟨2, [], true, 0, none, none, 0, false, .field, none, none, none⟩)), 5, 5, [], ⟨2, [], true, 0, none, none, 0, false, .field, none, none, none⟩, by decide +kernel, by decide +kernel, by decide +kernel, by decide +kernel, by decide +kernel, by decide +kernel, by decide +kernel⟩,
    ⟨on (upWith [(Reg.TAKE_DST_CFG 5 + 0x800, 0x41), (Reg.REF_TP_CFG 0 + 0x800, 0x4655)]) (fun d => d.putStore 5 (some ⟨2, [], true, 2, none, none, 0, false, .field, none, none, none⟩)), 5, ⟨2, [], true, 2, none, none, 0, false, .field, none, none, none⟩, by decide +kernel, by decide +kernel, by decide +kernel, by decide +kernel⟩,
    ⟨on (upWith [(Reg.TAKE_DST_CFG 5 + 0x800, 0x41), (Reg.REF_TP_CFG 0 + 0x800, 0x4655)]) (fun d => d.putStore 5 (some ⟨2, [], true, 1, none, none, 0, false, .field, none, none, none⟩)), 5, ⟨2, [], true, 1, none, none, 0, false, .field, none, none, none⟩, by decide +kernel, by decide +kernel, by decide +kernel, by decide +kernel⟩,
    ⟨on (upWith [(Reg.TAKE_DST_CFG 5 + 0x800, 0x41), (Reg.REF_TP_CFG 0 + 0x800, 0x4655), (Reg.FS_DST_HOLD 5 + 0x800, 9)]) (fun d => d.putStore 5 (some ⟨2, [], false, 0, none, none, 9, true, (.frame 3 []), none, none, none⟩)), 5, ⟨2, [], false, 0, none, none, 9, true, (.frame 3 []), none, none, none⟩, by decide +kernel, by decide +kernel, by decide +kernel, by decide +kernel, by decide +kernel, by decide +kernel⟩⟩

/-- Every clause of `Obligations.CompositorsBlendTheirLayers` has a state and operands that meet it. -/
theorem test_CompositorsBlendTheirLayers_met :
    (∃ (s : State) (n : Fin 16) (_f : Nat) (_x : FilFrame) (src : Nat), s.Up ∧ (s.dev.filSrc n = some src) ∧ (s.dev.filEnabled n = true) ∧ (s.dev.dataRuns = true) ∧ (s.dev.planeOn (s.dev.filPlane n) = true) ∧ src < 1024 ∧ ((s.dev.src src).isSome = true) ∧ (((List.range 8).all fun l => !s.dev.layerOn n l || s.dev.layerReady n l) = true)) ∧
    (∃ (s : State) (n : Fin 16) (_f : Nat) (_x : FilFrame) (src : Nat) (l : Nat), s.Up ∧ (s.dev.filSrc n = some src) ∧ (s.dev.filEnabled n = true) ∧ (s.dev.dataRuns = true) ∧ (s.dev.planeOn (s.dev.filPlane n) = true) ∧ src < 1024 ∧ l < 8 ∧ (s.dev.layerOn n l = true) ∧ (s.dev.layerReady n l = false) ∧ (s.dev.live (Reg.FIL_L_CFG n l) 13 12 = 1) ∧ (((List.range 8).all fun i => i == l || !s.dev.layerOn n i || s.dev.layerReady n i) = true)) ∧
    (∃ (al : Nat) (_layer : Nat) (_below : Nat), al ≤ 1023) ∧
    (∃ (_layer : Nat) (_below : Nat), True) ∧
    (∃ (s : State) (num : Fin 65536), s.Up ∧ ((s.dev.engines.resident.any fun r => r.num == num.val && r.started && !r.ready) = true)) :=
  ⟨⟨on (upWith [(Reg.REF_TP_CFG 0 + 0x800, 0x4655), (Reg.FIL_OUT_CFG 15 + 0x800, 0x1), (Reg.FIL_L_CFG 15 7 + 0x800, 3), (Reg.FIL_L_SURF 15 7 + 0x800, 9)]) (fun d => ({ d with engines := { d.engines with resident := [⟨9, true, true, 0⟩], library := [⟨9, []⟩] } } : Dev).putSrc 3 (some (Source.fresh 3 15 false 0 0))), 15, 5, ⟨[], []⟩, 3, by decide +kernel, by decide +kernel, by decide +kernel, by decide +kernel, by decide +kernel, by decide +kernel, by decide +kernel, by decide +kernel⟩,
    ⟨on (upWith [(Reg.REF_TP_CFG 0 + 0x800, 0x4655), (Reg.FIL_OUT_CFG 15 + 0x800, 0x1), (Reg.FIL_L_CFG 15 7 + 0x800, 0x1003), (Reg.FIL_L_SURF 15 7 + 0x800, 9)]) (fun d => ({ d with engines := { d.engines with resident := [⟨9, false, true, 0⟩], library := [⟨9, []⟩] } } : Dev).putSrc 3 (some (Source.fresh 3 15 false 0 0))), 15, 5, ⟨[], []⟩, 3, 7, by decide +kernel, by decide +kernel, by decide +kernel, by decide +kernel, by decide +kernel, by decide +kernel, by decide +kernel, by decide +kernel, by decide +kernel, by decide +kernel, by decide +kernel⟩,
    ⟨1023, 5, 9, by decide +kernel⟩,
    ⟨5, 9, trivial⟩,
    ⟨on (upWith [(Reg.REF_TP_CFG 0 + 0x800, 0x4655), (Reg.FIL_OUT_CFG 15 + 0x800, 0x1)]) (fun d => ({ d with engines := { d.engines with resident := [⟨9, false, true, 0⟩], library := [⟨9, []⟩] } } : Dev).putSrc 3 (some (Source.fresh 3 15 false 0 0))), 9, by decide +kernel, by decide +kernel⟩⟩

/-- Every clause of `Obligations.TheMatrixSumsAndItsOutputsChange` has a state and operands that meet it. -/
theorem test_TheMatrixSumsAndItsOutputsChange_met :
    (∃ (s : State), s.Up ∧ (s.dev.dataRuns = true)) ∧
    (∃ (s : State) (o : Nat), s.Up ∧ (s.dev.dataRuns = true) ∧ (s.dev.audAll = [o]) ∧ (s.dev.pairLead o = none) ∧ (s.dev.audDelay o = 0) ∧ (s.dev.flag (silStat (o / 16)) 1 = false) ∧ (s.dev.groupEn (o / 16) = false) ∧ ((s.dev.audOut o).goal = [])) ∧
    (∃ (s : State) (o : Fin 8192) (y : Int), s.Up ∧ ((s.dev.audOut o).wait = 1) ∧ s.dev.audTimeout o ≤ (s.dev.audOut o).waited ∧ ((clipSum ((s.dev.audOut o).goal.foldl (fun a u => match u.inp with | some i => a + (wordSample (s.dev.inputWord i) : Rat) * u.g | none => a) 0)).1 = y) ∧ y ≠ 0 ∧ (signOf y = signOf (s.dev.audOut o).prev)) ∧
    (∃ (s : State) (o : Fin 8192), s.Up ∧ (s.dev.audOut o).n ≠ 0 ∧ ((s.dev.audOut o).i = (s.dev.audOut o).n)) ∧
    (∃ (s : State) (o : Fin 8192), s.Up ∧ 2 ≤ (s.dev.audOut o).wait ∧ 1920 ≤ (s.dev.audOut o).waited) ∧
    (∃ (s : State) (i : Fin 8192), s.Up ∧ 4096 ≤ (s.dev.audIn i).since) ∧
    (∃ (s : State) (g : Fin 512), s.Up ∧ (s.dev.groupEn g = true) ∧ s.dev.live (silCfg g) 25 16 * 48000 ≤ s.dev.quietRun g) ∧
    (∃ (s : State) (p : Fin 16), s.Up ∧ (s.dev.liveFlag (Reg.AUD_APT_SIL p) 31 = true) ∧ s.dev.live (Reg.AUD_APT_SIL p) 25 16 * 48000 ≤ s.dev.quietRun (512 + p)) ∧
    (∃ (g : Int), 0 ≤ g ∧ g ≤ 240) ∧
    (∃ (g : Int), -960 ≤ g ∧ g < 0) :=
  ⟨⟨on (upWith []) (fun d => { d with audioIn := [(0, [5, 6]), (1, [7])] }), by decide +kernel, by decide +kernel⟩,
    ⟨on (upWith [(Reg.AUD_O_CFG 8191 + 0x800, 13), (Reg.AUD_O_IN 8191 0 + 0x800, 0x8007)]) (fun d => { d with audioIn := [(7, [0x1000005])] }), 8191, by decide +kernel, by decide +kernel, by decide +kernel, by decide +kernel, by decide +kernel, by decide +kernel, by decide +kernel, by decide +kernel⟩,
    ⟨on (upWith []) (fun d => ({ d with audioIn := [(7, [5])] } : Dev).setAudOut 8191 { AudOut.reset with goal := [⟨some 7, 1048576⟩], wait := 1, waited := 4000, prev := 3 }), 8191, 5, by decide +kernel, by decide +kernel, by decide +kernel, by decide +kernel, by decide +kernel, by decide +kernel⟩,
    ⟨on (upWith []) (fun d => d.setAudOut 8191 { AudOut.reset with goal := [⟨some 7, 1048576⟩], n := 48, i := 48 }), 8191, by decide +kernel, by decide +kernel, by decide +kernel⟩,
    ⟨on (upWith []) (fun d => d.setAudOut 8191 { AudOut.reset with goal := [⟨some 7, 1048576⟩], wait := 3, waited := 1920 }), 8191, by decide +kernel, by decide +kernel, by decide +kernel⟩,
    ⟨on (upWith []) (fun d => d.setAudIn 8191 { AudIn.reset with nonpcm := true, since := 4096 }), 8191, by decide +kernel, by decide +kernel⟩,
    ⟨on (upWith [(silCfg 511 + 0x800, 0x80010000)]) (fun d => d.setQuiet 511 48000), 511, by decide +kernel, by decide +kernel, by decide +kernel⟩,
    ⟨on (upWith [(Reg.AUD_APT_SIL 15 + 0x800, 0x80010000)]) (fun d => d.setQuiet 527 48000), 15, by decide +kernel, by decide +kernel, by decide +kernel⟩,
    ⟨240, by decide +kernel, by decide +kernel⟩,
    ⟨-960, by decide +kernel, by decide +kernel⟩⟩

/-- Every clause of `Obligations.AudioPortsExchangeFrames` has a state and operands that meet it. -/
theorem test_AudioPortsExchangeFrames_met :
    (∃ (s : State) (n : Fin 16) (x : AptFrame), s.Up ∧ (s.dev.dataRuns = true) ∧ (s.dev.aptState n = 2) ∧ ((s.dev.apt n).leadOutDue = false) ∧ ((s.dev.apt n).next = none) ∧ ((s.dev.apt n).held = false) ∧ (s.dev.mirEn n = false) ∧ (s.dev.apt96 n = false) ∧ (x.slip = none)) ∧
    (∃ (s : State) (n : Fin 16) (x : AptFrame), s.Up ∧ (s.dev.dataRuns = true) ∧ (s.dev.aptState n = 2) ∧ ((s.dev.apt n).leadOutDue = false) ∧ ((s.dev.apt n).next = none) ∧ ((s.dev.apt n).held = true) ∧ (s.dev.mirEn n = false) ∧ (s.dev.apt96 n = false) ∧ (x.slip = none)) ∧
    (∃ (s : State) (n : Fin 16) (x : AptFrame), s.Up ∧ (s.dev.dataRuns = true) ∧ (s.dev.aptState n = 2) ∧ ((s.dev.apt n).leadOutDue = false) ∧ ((s.dev.apt n).next = none) ∧ ((s.dev.apt n).held = false) ∧ (s.dev.mirEn n = true) ∧ (s.dev.mirPlay n = false) ∧ (s.dev.apt96 n = false) ∧ (x.slip = none) ∧ (s.dev.mirDev n + 2 ^ 32 - s.dev.mirHost n) % 2 ^ 32 ≠ s.dev.mirFrames n) ∧
    (∃ (s : State) (n : Fin 16) (_x : AptFrame), s.Up ∧ (s.dev.dataRuns = true) ∧ (s.dev.aptState n = 1) ∧ ((s.dev.apt n).leadOutDue = false) ∧ ((s.dev.apt n).next = none) ∧ (s.dev.aptMaster n = true) ∧ (s.dev.apt96 n = false)) ∧
    (∃ (s : State) (n : Fin 16) (rate : Nat), s.Up ∧ s.dev.live (Reg.APT_RATE_LO n) 31 0 ≤ rate ∧ rate ≤ s.dev.live (Reg.APT_RATE_HI n) 31 0 ∧ rate < 2 ^ 32) ∧
    (∃ (s : State) (n : Fin 16) (rate : Nat), s.Up ∧ rate < s.dev.live (Reg.APT_RATE_LO n) 31 0 ∧ (s.dev.flag (Reg.APT_STAT n) 3 = true)) ∧
    (∃ (s : State) (n : Fin 16), s.Up ∧ (s.dev.aptMaster n = false) ∧ s.dev.aptState n ≠ 0) ∧
    (∃ (s : State) (n : Fin 16), s.Up ∧ ((s.dev.apt n).held = true) ∧ (s.dev.fld (Reg.APT_STAT n) 8 4 = 16)) ∧
    (∃ (s : State) (n : Fin 16), s.Up ∧ (s.dev.aptState n = 1) ∧ s.dev.aptLead n ≤ (s.dev.apt n).lead) ∧
    (∃ (s : State) (n : Fin 16), s.Up ∧ (s.dev.aptState n = 3) ∧ s.dev.aptLead n ≤ (s.dev.apt n).lead ∧ ((s.dev.apt n).queued = false)) ∧
    (∃ (s : State) (n : Fin 16), s.Up ∧ (s.dev.aptState n = 3) ∧ s.dev.aptLead n ≤ (s.dev.apt n).lead ∧ ((s.dev.apt n).queued = true) ∧ (s.dev.aptEn n = true)) :=
  ⟨⟨on (upWith [(Reg.APT_CFG 15 + 0x800, 1027 + 16), (Reg.APT_STAT 15, 2)]) (fun d => d.setApt 15 { AptX.reset with masks := ⟨1, 1, 1, 40, 50⟩ }), 15, ⟨77, true, [0x123456], none⟩, by decide +kernel, by decide +kernel, by decide +kernel, by decide +kernel, by decide +kernel, by decide +kernel, by decide +kernel, by decide +kernel, by decide +kernel⟩,
    ⟨on (upWith [(Reg.APT_CFG 15 + 0x800, 1027 + 16), (Reg.APT_STAT 15, 2)]) (fun d => d.setApt 15 { AptX.reset with masks := ⟨1, 1, 1, 40, 50⟩, held := true }), 15, ⟨77, true, [0x123456], none⟩, by decide +kernel, by decide +kernel, by decide +kernel, by decide +kernel, by decide +kernel, by decide +kernel, by decide +kernel, by decide +kernel, by decide +kernel⟩,
    ⟨on (upWith [(Reg.APT_CFG 15 + 0x800, 1027 + 16), (Reg.APT_STAT 15, 2), (Reg.APT_MIR_CFG 15 + 0x800, 1), (Reg.APT_MIR_FRAMES 15 + 0x800, 4)]) (fun d => d.setApt 15 { AptX.reset with masks := ⟨1, 1, 1, 40, 50⟩ }), 15, ⟨77, true, [0x123456], none⟩, by decide +kernel, by decide +kernel, by decide +kernel, by decide +kernel, by decide +kernel, by decide +kernel, by decide +kernel, by decide +kernel, by decide +kernel, by decide +kernel, by decide +kernel⟩,
    ⟨on (upWith [(Reg.APT_CFG 15 + 0x800, 1027 + 16), (Reg.APT_STAT 15, 1)]) (fun d => d.setApt 15 { AptX.reset with masks := ⟨1, 1, 1, 40, 50⟩ }), 15, ⟨77, true, [0x123456], none⟩, by decide +kernel, by decide +kernel, by decide +kernel, by decide +kernel, by decide +kernel, by decide +kernel, by decide +kernel⟩,
    ⟨upWith [(Reg.APT_CFG 15 + 0x800, 1027 + 16), (Reg.APT_STAT 15, 2), (Reg.APT_RATE_LO 15 + 0x800, 10), (Reg.APT_RATE_HI 15 + 0x800, 20)], 15, 20, by decide +kernel, by decide +kernel, by decide +kernel, by decide +kernel⟩,
    ⟨upWith [(Reg.APT_CFG 15 + 0x800, 1027 + 16), (Reg.APT_STAT 15, 90), (Reg.APT_RATE_LO 15 + 0x800, 10), (Reg.APT_RATE_HI 15 + 0x800, 20)], 15, 9, by decide +kernel, by decide +kernel, by decide +kernel⟩,
    ⟨upWith [(Reg.APT_CFG 15 + 0x800, 1025 + 16), (Reg.APT_STAT 15, 86)], 15, by decide +kernel, by decide +kernel, by decide +kernel⟩,
    ⟨on (upWith [(Reg.APT_CFG 15 + 0x800, 1027 + 16), (Reg.APT_STAT 15, 258)]) (fun d => d.setApt 15 { AptX.reset with masks := ⟨1, 1, 1, 40, 50⟩, held := true }), 15, by decide +kernel, by decide +kernel, by decide +kernel⟩,
    ⟨on (upWith [(Reg.APT_CFG 15 + 0x800, 1027 + 16), (Reg.APT_STAT 15, 1)]) (fun d => d.setApt 15 { AptX.reset with masks := ⟨1, 1, 1, 40, 50⟩, lead := 4096 }), 15, by decide +kernel, by decide +kernel, by decide +kernel⟩,
    ⟨on (upWith [(Reg.APT_CFG 15 + 0x800, 1027 + 16), (Reg.APT_STAT 15, 3)]) (fun d => d.setApt 15 { AptX.reset with masks := ⟨1, 1, 1, 40, 50⟩, lead := 4096 }), 15, by decide +kernel, by decide +kernel, by decide +kernel, by decide +kernel⟩,
    ⟨on (upWith [(Reg.APT_CFG 15 + 0x800, 1027 + 16), (Reg.APT_STAT 15, 3)]) (fun d => d.setApt 15 { AptX.reset with masks := ⟨1, 1, 1, 40, 50⟩, lead := 4096, queued := true }), 15, by decide +kernel, by decide +kernel, by decide +kernel, by decide +kernel, by decide +kernel⟩⟩

/-- Every clause of `Obligations.DramServesRequestsByBurst` has a state and operands that meet it. -/
theorem test_DramServesRequestsByBurst_met :
    (∃ (s : State) (_port : Fin 24) (p : Nat) (len : Nat) (data? : Option (List Byte)) (_keepOpen : Bool), s.Up ∧ (burstOk p len data? = true) ∧ p < s.dev.dramGeo.bytes) ∧
    (∃ (s : State) (_port : Fin 24) (p : Nat) (len : Nat) (data? : Option (List Byte)) (_keepOpen : Bool), (burstOk p len data? = true) ∧ s.dev.dramGeo.bytes ≤ p) ∧
    (∃ (s : State) (sc : Fin 16) (meets : List Nat) (ecc : DramEcc) (r : DramReq) (b : List Byte), s.Up ∧ (eccOk ecc = true) ∧ (s.dev.chActive (sc / 2) = true) ∧ cnt s.dev.dram.owed sc < 4 ∧ (s.dev.dram.reqs = [r]) ∧ (s.dev.dramGeo.scOf r.p = sc) ∧ 0 ∈ meets ∧ (s.dev.dram.rows = [((s.dev.dramGeo.place r.p).bankKey, (s.dev.dramGeo.place r.p).row)]) ∧ (r.data = some b) ∧ s.dev.time - r.at_ ≤ s.dev.ddrTarget r.port) ∧
    (∃ (s : State) (sc : Fin 16) (meets : List Nat) (r : DramReq), s.Up ∧ (s.dev.chActive (sc / 2) = true) ∧ cnt s.dev.dram.owed sc < 4 ∧ (s.dev.dram.reqs = [r]) ∧ (s.dev.dramGeo.scOf r.p = sc) ∧ 0 ∈ meets ∧ (s.dev.dram.rows = [((s.dev.dramGeo.place r.p).bankKey, (s.dev.dramGeo.place r.p).row)]) ∧ (r.data = none) ∧ (portMaster r.port = none) ∧ s.dev.time - r.at_ ≤ s.dev.ddrTarget r.port) ∧
    (∃ (s : State) (sc : Fin 16) (meets : List Nat) (ecc : DramEcc) (r : DramReq), s.Up ∧ (eccOk ecc = true) ∧ (s.dev.chActive (sc / 2) = true) ∧ cnt s.dev.dram.owed sc < 4 ∧ (s.dev.dram.reqs = [r]) ∧ (s.dev.dramGeo.scOf r.p = sc) ∧ 0 ∈ meets ∧ (s.dev.dram.rows = [])) ∧
    (∃ (s : State) (sc : Fin 16) (_meets : List Nat) (ecc : DramEcc), s.Up ∧ (eccOk ecc = true) ∧ (s.dev.chActive (sc / 2) = true) ∧ 4 ≤ cnt s.dev.dram.owed sc) ∧
    (∃ (s : State) (sc : Fin 16), s.Up ∧ (s.dev.chActive (sc / 2) = true)) ∧
    (∃ (s : State) (sc : Fin 16) (rank : Fin 2), s.Up ∧ (s.dev.chActive (sc / 2) = true) ∧ (s.dev.liveFlag (Reg.DDR_CH_PD (sc / 2)) 16 = true) ∧ (s.dev.dram.reqs = []) ∧ rank.val < s.dev.dramGeo.ranks ∧ (s.dev.flag (Reg.DDR_CH_STAT (sc / 2)) (4 + 2 * (sc % 2) + rank) = false)) :=
  ⟨⟨upWith [(Reg.DDR_CFG + 0x800, 257), (Reg.DDR_CH_STAT 0, 4)], 23, 128, 64, none, true, by decide +kernel, by decide +kernel, by decide +kernel⟩,
    ⟨State.reset, 23, 17179869184, 64, none, true, by decide +kernel, by decide +kernel⟩,
    ⟨on (upWith [(Reg.DDR_CFG + 0x800, 257), (Reg.DDR_CH_STAT 0, 4)]) (fun d => { d with dram := { d.dram with reqs := [⟨3, 128, 2, some [1, 2], false, 0⟩], rows := [((dramGeoOf 257).place 128).bankKey |> fun k => (k, ((dramGeoOf 257).place 128).row)] } }), 0, [0], ⟨8, 0⟩, ⟨3, 128, 2, some [1, 2], false, 0⟩, [1, 2], by decide +kernel, by decide +kernel, by decide +kernel, by decide +kernel, by decide +kernel, by decide +kernel, by decide +kernel, by decide +kernel, by decide +kernel, by decide +kernel⟩,
    ⟨on (upWith [(Reg.DDR_CFG + 0x800, 257), (Reg.DDR_CH_STAT 0, 4)]) (fun d => { d with dram := { d.dram with reqs := [⟨3, 128, 2, none, false, 0⟩], rows := [((dramGeoOf 257).place 128).bankKey |> fun k => (k, ((dramGeoOf 257).place 128).row)] } }), 0, [0], ⟨3, 128, 2, none, false, 0⟩, by decide +kernel, by decide +kernel, by decide +kernel, by decide +kernel, by decide +kernel, by decide +kernel, by decide +kernel, by decide +kernel, by decide +kernel, by decide +kernel⟩,
    ⟨on (upWith [(Reg.DDR_CFG + 0x800, 257), (Reg.DDR_CH_STAT 0, 4)]) (fun d => { d with dram := { d.dram with reqs := [⟨3, 128, 2, none, false, 0⟩] } }), 0, [0], ⟨0, 0⟩, ⟨3, 128, 2, none, false, 0⟩, by decide +kernel, by decide +kernel, by decide +kernel, by decide +kernel, by decide +kernel, by decide +kernel, by decide +kernel, by decide +kernel⟩,
    ⟨on (upWith [(Reg.DDR_CFG + 0x800, 257), (Reg.DDR_CH_STAT 0, 4)]) (fun d => { d with dram := { d.dram with owed := [(1, 4)] } }), 1, [0], ⟨0, 0⟩, by decide +kernel, by decide +kernel, by decide +kernel, by decide +kernel⟩,
    ⟨upWith [(Reg.DDR_CFG + 0x800, 257), (Reg.DDR_CH_STAT 0, 4)], 1, by decide +kernel, by decide +kernel⟩,
    ⟨upWith [(Reg.DDR_CFG + 0x800, 257), (Reg.DDR_CH_STAT 0, 4), (Reg.DDR_CH_PD 0 + 0x800, 0x10000)], 1, 0, by decide +kernel, by decide +kernel, by decide +kernel, by decide +kernel, by decide +kernel, by decide +kernel⟩⟩

/-- Every clause of `Obligations.DramMapsTrainsAndScrubs` has a state and operands that meet it. -/
theorem test_DramMapsTrainsAndScrubs_met :
    (∃ (g : DramGeo) (ch : Nat) (a : Nat), ch < g.channels ∧ a < g.chBytes ∧ (g.chBytes % 256 = 0)) ∧
    (∃ (s : State) (sc : Nat), s.Up ∧ s.dev.dramGeo.channels ≤ 8 ∧ sc < 2 * s.dev.dramGeo.channels ∧ (s.dev.dram.trainNext = sc) ∧ (s.dev.chActive (sc / 2) = true)) ∧
    (∃ (s : State) (sc : Nat), s.Up ∧ s.dev.dramGeo.channels ≤ 8 ∧ sc < 2 * s.dev.dramGeo.channels ∧ (s.dev.dram.trainNext = sc) ∧ (s.dev.chActive (sc / 2) = true) ∧ (cnt s.dev.dram.trainFails sc = 2)) ∧
    (∃ (s : State) (ch : Fin 8), s.Up ∧ (s.dev.liveFlag Reg.DDR_SCRUB 31 = true) ∧ (s.dev.chActive ch = true) ∧ ch.val < s.dev.dramGeo.channels ∧ cnt s.dev.dram.scrub ch + 64 < s.dev.dramGeo.chBytes) ∧
    (∃ (s : State) (ch : Fin 8) (ecc : DramEcc), s.Up ∧ (eccOk ecc = true) ∧ 0 < ecc.corrected ∧ (ecc.uncorrectable = 0) ∧ (s.dev.liveFlag Reg.DDR_SCRUB 31 = true) ∧ (s.dev.chActive ch = true) ∧ ch.val < s.dev.dramGeo.channels ∧ cnt s.dev.dram.scrub ch < s.dev.dramGeo.chBytes ∧ (s.dev.dramGeo.chBytes % 256 = 0)) :=
  ⟨⟨(dramGeoOf 0x138), 7, 17179869183, by decide +kernel, by decide +kernel, by decide +kernel⟩,
    ⟨on (upWith [(Reg.DDR_CFG + 0x800, 257), (Reg.DDR_CH_STAT 0, 4)]) (fun d => { d with dram := { d.dram with trainNext := 1 } }), 1, by decide +kernel, by decide +kernel, by decide +kernel, by decide +kernel, by decide +kernel⟩,
    ⟨on (upWith [(Reg.DDR_CFG + 0x800, 257), (Reg.DDR_CH_STAT 0, 4)]) (fun d => { d with dram := { d.dram with trainNext := 1, trainFails := [(1, 2)] } }), 1, by decide +kernel, by decide +kernel, by decide +kernel, by decide +kernel, by decide +kernel, by decide +kernel⟩,
    ⟨upWith [(Reg.DDR_CFG + 0x800, 257), (Reg.DDR_CH_STAT 0, 4), (Reg.DDR_SCRUB + 0x800, 0x80000000)], 0, by decide +kernel, by decide +kernel, by decide +kernel, by decide +kernel, by decide +kernel⟩,
    ⟨upWith [(Reg.DDR_CFG + 0x800, 257), (Reg.DDR_CH_STAT 0, 4), (Reg.DDR_SCRUB + 0x800, 0x80000000)], 0, ⟨8, 0⟩, by decide +kernel, by decide +kernel, by decide +kernel, by decide +kernel, by decide +kernel, by decide +kernel, by decide +kernel, by decide +kernel, by decide +kernel⟩⟩

/-- Every clause of `Obligations.TheBusMatrixGrantsAndAnswers` has a state and operands that meet it. -/
theorem test_TheBusMatrixGrantsAndAnswers_met :
    (∃ (s : State) (master : Fin 14) (addr : Nat) (len : Nat) (data? : Option (List Byte)) (_keepOpen : Bool) (g : Nat), s.Up ∧ (busOk addr len data? = true) ∧ (s.dev.busTarget (s.dev.matrixAddr master addr) len = some (g, true)) ∧ (s.dev.busPath master g = true) ∧ g ≠ 1) ∧
    (∃ (s : State) (master : Fin 14) (addr : Nat) (len : Nat) (_keepOpen : Bool), s.Up ∧ (busOk addr len none = true) ∧ (s.dev.busTarget (s.dev.matrixAddr master addr) len = none)) ∧
    (∃ (s : State) (master : Fin 14) (addr : Nat) (len : Nat) (port : Nat) (data? : Option (List Byte)) (_keepOpen : Bool), s.Up ∧ (busOk addr len data? = true) ∧ (s.dev.busTarget (s.dev.matrixAddr master addr) len = some (1, true)) ∧ (s.dev.busPath master 1 = true) ∧ (s.dev.bankOpen master (s.dev.matrixAddr master addr) len = true) ∧ (masterPort master = some port) ∧ (s.dev.matrixAddr master addr - busDramBase) % 64 + len ≤ 64) ∧
    (∃ (s : State) (target : Fin 11) (x : BusTx), s.Up ∧ target ≠ 1 ∧ (s.dev.dram.waiting = [x]) ∧ (x.target = target) ∧ x.master < 14) ∧
    (∃ (s : State) (target : Fin 11) (x : BusTx), s.Up ∧ (s.dev.busFlight target = some x)) ∧
    (∃ (s : State) (_target : Fin 11), s.Up) ∧
    (∃ (s : State) (_v : Word) (w : Writer), s.Opens Reg.pageXBM 0x064 w) :=
  ⟨⟨upWith [(Reg.DDR_CFG + 0x800, 257), (Reg.DDR_CH_STAT 0, 4)], 1, 0x20000000, 4, none, false, 3, by decide +kernel, by decide +kernel, by decide +kernel, by decide +kernel, by decide +kernel⟩,
    ⟨upWith [(Reg.DDR_CFG + 0x800, 257), (Reg.DDR_CH_STAT 0, 4)], 13, 0xF00000000, 256, false, by decide +kernel, by decide +kernel, by decide +kernel⟩,
    ⟨upWith [(Reg.DDR_CFG + 0x800, 257), (Reg.DDR_CH_STAT 0, 4)], 2, busDramBase + 60, 4, 17, none, true, by decide +kernel, by decide +kernel, by decide +kernel, by decide +kernel, by decide +kernel, by decide +kernel, by decide +kernel⟩,
    ⟨on (upWith [(Reg.DDR_CFG + 0x800, 257), (Reg.DDR_CH_STAT 0, 4)]) (fun d => { d with dram := { d.dram with waiting := [⟨13, 10, 0x20000000, 4, none, 0⟩] } }), 10, ⟨13, 10, 0x20000000, 4, none, 0⟩, by decide +kernel, by decide +kernel, by decide +kernel, by decide +kernel, by decide +kernel⟩,
    ⟨on (upWith [(Reg.DDR_CFG + 0x800, 257), (Reg.DDR_CH_STAT 0, 4)]) (fun d => { d with dram := { d.dram with flight := [(10, ⟨13, 10, 0x20000000, 4, none, 0⟩)] } }), 10, ⟨13, 10, 0x20000000, 4, none, 0⟩, by decide +kernel, by decide +kernel⟩,
    ⟨on (upWith [(Reg.DDR_CFG + 0x800, 257), (Reg.DDR_CH_STAT 0, 4)]) (fun d => { d with dram := { d.dram with flight := [(10, ⟨13, 10, 0x20000000, 4, none, 0⟩)], waiting := [⟨1, 10, 0x20000000, 4, none, 0⟩] } }), 10, by decide +kernel⟩,
    ⟨upWith [(Reg.DDR_CFG + 0x800, 257), (Reg.DDR_CH_STAT 0, 4)], 0xA3, .pcie, by decide +kernel⟩⟩

/-- Every clause of `Obligations.JournalGroupsBecomeDurableInOrder` has a state and operands that meet it. -/
theorem test_JournalGroupsBecomeDurableInOrder_met :
    (∃ (s : State) (k : Nat) (h : Hold) (rest : List JGroup), s.Up ∧ (s.dev.following = false) ∧ s.dev.fld Reg.TMP_STAT 1 0 ≠ 3 ∧ (s.dev.journal.queue = ⟨[.hold k (some h)], .hold k (some h) none .none_⟩ :: rest) ∧ (s.dev.ringRoom 1 = true) ∧ k < 2240) ∧
    (∃ (s : State) (k : Nat) (h : Hold), s.Up ∧ (s.dev.following = false) ∧ s.dev.fld Reg.TMP_STAT 1 0 ≠ 3 ∧ (s.dev.journal.queue = [⟨[.hold k (some h)], .hold k (some h) none .none_⟩]) ∧ (s.dev.ringRoom 1 = true) ∧ k < 2240) ∧
    (∃ (s : State) (_failed : List Nat) (g : JGroup) (rest : List JGroup), s.Up ∧ (s.dev.journal.queue = g :: rest) ∧ (s.dev.ringRoom (s.dev.groupBodies g).length = false)) ∧
    (∃ (s : State), s.Up ∧ s.dev.journal.queue ≠ []) ∧
    (∃ (s : State), s.Up) :=
  ⟨⟨on (upWith []) (fun d => { d with journal := { d.journal with queue := [⟨[.hold 2239 (some ⟨1, 0, 3⟩)], .hold 2239 (some ⟨1, 0, 3⟩) none .none_⟩, ⟨[.hold 2239 (some ⟨1, 0, 3⟩)], .hold 2239 (some ⟨1, 0, 3⟩) none .none_⟩], nextSeq := 5 } }), 2239, ⟨1, 0, 3⟩, [⟨[.hold 2239 (some ⟨1, 0, 3⟩)], .hold 2239 (some ⟨1, 0, 3⟩) none .none_⟩], by decide +kernel, by decide +kernel, by decide +kernel, by decide +kernel, by decide +kernel, by decide +kernel⟩,
    ⟨on (upWith []) (fun d => { d with journal := { d.journal with queue := [⟨[.hold 2239 (some ⟨1, 0, 3⟩)], .hold 2239 (some ⟨1, 0, 3⟩) none .none_⟩] } }), 2239, ⟨1, 0, 3⟩, by decide +kernel, by decide +kernel, by decide +kernel, by decide +kernel, by decide +kernel, by decide +kernel⟩,
    ⟨on (upWith []) (fun d => { d with journal := { d.journal with queue := [⟨[.hold 2239 (some ⟨1, 0, 3⟩)], .hold 2239 (some ⟨1, 0, 3⟩) none .none_⟩], nextSeq := 1048576 } }), [], ⟨[.hold 2239 (some ⟨1, 0, 3⟩)], .hold 2239 (some ⟨1, 0, 3⟩) none .none_⟩, [], by decide +kernel, by decide +kernel, by decide +kernel⟩,
    ⟨on (upWith []) (fun d => { d with journal := { d.journal with queue := [⟨[.hold 2239 (some ⟨1, 0, 3⟩)], .hold 2239 (some ⟨1, 0, 3⟩) none .none_⟩] } }), by decide +kernel, by decide +kernel⟩,
    ⟨on (upWith []) (fun d => { d with journal := { d.journal with nextSeq := 4294967297 } }), by decide +kernel⟩⟩

/-- Every clause of `Obligations.CheckpointsSealsAndScrub` has a state and operands that meet it. -/
theorem test_CheckpointsSealsAndScrub_met :
    (∃ (s : State), s.Up ∧ (s.dev.sealing = false) ∧ (s.dev.temper.writing = none)) ∧
    (∃ (s : State) (w : Writer), s.Opens Reg.pageTMP 0x050 w) ∧
    (∃ (s : State) (c : Ckpt), s.Up ∧ (s.dev.temper.writing = some c) ∧ (s.dev.temper.mirrorWant = false) ∧ (s.dev.twin.copyWait = false) ∧ (s.dev.following = false) ∧ s.dev.fld Reg.TMP_STAT 1 0 ≠ 3) ∧
    (∃ (s : State) (_cause : Fin 2), s.Up ∧ (s.dev.temper.warned = none) ∧ (s.dev.fld Reg.TMP_STAT 1 0 = 0)) ∧
    (∃ (s : State) (a : Nat) (cause : Nat), s.Up ∧ (s.dev.temper.warned = some (a, cause)) ∧ (s.dev.fld Reg.TMP_STAT 1 0 = 2) ∧ (s.dev.journal.queue = []) ∧ (s.dev.following = false)) ∧
    (∃ (s : State) (x : Nat × Nat), s.Up ∧ (s.dev.temper.warned = some x) ∧ (s.dev.fld Reg.TMP_STAT 1 0 = 3) ∧ (s.dev.following = false)) ∧
    (∃ (s : State), s.Up ∧ (s.dev.liveFlag Reg.TMP_SCRUB 31 = true)) ∧
    (∃ (s : State) (n : Fin 4), s.Up ∧ (s.dev.liveFlag Reg.TMP_SCRUB 31 = true) ∧ n ≠ 0) ∧
    (∃ (s : State) (_n : Fin 4), s.Up ∧ (s.dev.liveFlag Reg.TMP_SCRUB 31 = true) ∧ s.dev.fld Reg.TMP_SCRUB_POS 21 0 < 0x100000 ∧ 0 < s.dev.fld Reg.TMP_SPARE 16 0) :=
  ⟨⟨upWith [], by decide +kernel, by decide +kernel, by decide +kernel⟩,
    ⟨upWith [], .pcie, by decide +kernel⟩,
    ⟨on (upWith [(Reg.TMP_CKPT_CTRL, 0x80000001), (Reg.TMP_STAT, 4)]) (fun d => { d with temper := { d.temper with writing := some ⟨1, 2, 3, 4, 5, true, Dev.reset.persist⟩ } }), ⟨1, 2, 3, 4, 5, true, Dev.reset.persist⟩, by decide +kernel, by decide +kernel, by decide +kernel, by decide +kernel, by decide +kernel, by decide +kernel⟩,
    ⟨on (upWith []) (fun d => { d with temper := { d.temper with writing := some ⟨1, 2, 3, 4, 5, true, Dev.reset.persist⟩ } }), 1, by decide +kernel, by decide +kernel, by decide +kernel⟩,
    ⟨on (upWith [(Reg.TMP_STAT, 2)]) (fun d => { d with temper := { d.temper with warned := some (0, 1) } }), 0, 1, by decide +kernel, by decide +kernel, by decide +kernel, by decide +kernel, by decide +kernel⟩,
    ⟨on (upWith [(Reg.TMP_STAT, 3)]) (fun d => { d with temper := { d.temper with warned := some (0, 1) } }), (0, 1), by decide +kernel, by decide +kernel, by decide +kernel, by decide +kernel⟩,
    ⟨upWith [(Reg.TMP_SCRUB + 0x800, 0x80000000), (Reg.TMP_SCRUB_POS, 4194303)], by decide +kernel, by decide +kernel⟩,
    ⟨upWith [(Reg.TMP_SCRUB + 0x800, 0x80000000)], 3, by decide +kernel, by decide +kernel, by decide +kernel⟩,
    ⟨on (upWith [(Reg.TMP_SCRUB + 0x800, 0x80000000), (Reg.TMP_SCRUB_POS, 5), (Reg.TMP_SPARE, 7)]) (fun d => { d with journal := { d.journal with ring := [⟨5, false, 0, 0, .resume 1⟩] } }), 3, by decide +kernel, by decide +kernel, by decide +kernel, by decide +kernel⟩⟩

/-- Every clause of `Obligations.MirrorsLibraryAndFlash` has a state and operands that meet it. -/
theorem test_MirrorsLibraryAndFlash_met :
    (∃ (s : State), s.Up ∧ (s.dev.temper.mirrorRun = none) ∧ (s.dev.temper.mirrorWant = false)) ∧
    (∃ (s : State) (w : Writer), s.Opens Reg.pageCRU 0x048 w ∧ (s.dev.flag Reg.CRU_MIRROR_CTRL 31 = false) ∧ (s.dev.temper.mirrorRun = none) ∧ (s.dev.temper.mirrorWant = false)) ∧
    (∃ (s : State) (gen : Nat) (c : Ckpt), s.Up ∧ (s.dev.temper.mirrorRun = some (gen, c))) ∧
    (∃ (s : State) (gen : Nat) (c : Ckpt), s.Up ∧ (s.dev.temper.mirrorRun = some (gen, c))) ∧
    (∃ (s : State) (dram : Bool) (cells : List Host.Cell) (w : Writer) (x : Surface), s.Opens Reg.pageCRU 0x050 w ∧ (s.dev.flag Reg.CRU_LIB_CTRL 31 = false) ∧ (s.dev.sealing = false) ∧ (s.dev.surfInUse x.num = false) ∧ (x = ⟨s.dev.fld Reg.CRU_LIB_NUM 15 0, (s.mem.hostWrote cells).bytes dram (s.dev.rd64 Reg.CRU_LIB_ADDR_LO Reg.CRU_LIB_ADDR_HI) ((s.mem.hostWrote cells).nat dram (s.dev.rd64 Reg.CRU_LIB_ADDR_LO Reg.CRU_LIB_ADDR_HI + 24) 4)⟩) ∧ x.bytes.length ≤ s.dev.libFree) ∧
    (∃ (s : State) (w : Writer), s.Opens Reg.pageCRU 0x050 w ∧ (s.dev.flag Reg.CRU_LIB_CTRL 31 = false) ∧ (s.dev.sealing = false) ∧ (s.dev.surfInUse (s.dev.fld Reg.CRU_LIB_NUM 15 0) = false)) ∧
    (∃ (s : State) (w : Writer), s.Opens Reg.pageCRU 0x050 w ∧ (s.dev.flag Reg.CRU_LIB_CTRL 31 = false) ∧ (s.dev.sealing = false) ∧ (s.dev.surfInUse (s.dev.fld Reg.CRU_LIB_NUM 15 0) = true)) ∧
    (∃ (s : State) (num : Nat) (b : List Byte), s.Up ∧ (s.dev.temper.lib = some ⟨num, some b⟩)) ∧
    (∃ (s : State), s.Up) ∧
    (∃ (s : State) (num : Fin 65536), s.Up ∧ ((s.dev.engines.library.any fun x => x.num == num.val) = true)) :=
  ⟨⟨upWith [], by decide +kernel, by decide +kernel, by decide +kernel⟩,
    ⟨upWith [], .pcie, by decide +kernel, by decide +kernel, by decide +kernel, by decide +kernel⟩,
    ⟨on (upWith []) (fun d => { d with temper := { d.temper with mirrorRun := some (1, ⟨1, 2, 3, 4, 5, true, Dev.reset.persist⟩) } }), 1, ⟨1, 2, 3, 4, 5, true, Dev.reset.persist⟩, by decide +kernel, by decide +kernel⟩,
    ⟨on (upWith []) (fun d => { d with temper := { d.temper with mirrorRun := some (1, ⟨1, 2, 3, 4, 5, true, Dev.reset.persist⟩) } }), 1, ⟨1, 2, 3, 4, 5, true, Dev.reset.persist⟩, by decide +kernel, by decide +kernel⟩,
    ⟨upWith [(Reg.CRU_LIB_NUM, 9)], false, [], .pcie, ⟨9, []⟩, by decide +kernel, by decide +kernel, by decide +kernel, by decide +kernel, by decide +kernel, by decide +kernel⟩,
    ⟨upWith [(Reg.CRU_LIB_NUM, 9)], .pcie, by decide +kernel, by decide +kernel, by decide +kernel, by decide +kernel⟩,
    ⟨on (upWith [(Reg.CRU_LIB_NUM, 9)]) (fun d => { d with hie := { d.hie with surfs := [9] } }), .pcie, by decide +kernel, by decide +kernel, by decide +kernel, by decide +kernel⟩,
    ⟨on (upWith []) (fun d => { d with temper := { d.temper with lib := some ⟨9, some [1, 2]⟩ } }), 9, [1, 2], by decide +kernel, by decide +kernel⟩,
    ⟨upWith [], by decide +kernel⟩,
    ⟨on (upWith []) (fun d => { d with engines := { d.engines with library := [⟨9, []⟩] } }), 9, by decide +kernel, by decide +kernel⟩⟩

/-- Every clause of `Obligations.TwinUnitsStartLoseAndTakeOver` has a state and operands that meet it. -/
theorem test_TwinUnitsStartLoseAndTakeOver_met :
    (∃ (s : State) (n : Fin 196), s.Up ∧ (s.dev.laneReady n = true) ∧ (s.dev.fabSvc n = false) ∧ 192 ≤ n.val ∧ (s.dev.claspUp = false) ∧ s.dev.twnState ≠ 2) ∧
    (∃ (s : State) (n : Fin 196), s.Up ∧ (s.dev.laneReady n = true) ∧ (s.dev.fabSvc n = false) ∧ n.val < 192) ∧
    (∃ (s : State), s.Up ∧ s.dev.twnState ≠ 0 ∧ s.dev.hal.twinKeys ≠ 0 ∧ (s.dev.halState = 1) ∧ (s.dev.twin.handover = none) ∧ (s.dev.twin.cancelling = false)) ∧
    (∃ (s : State) (h : Heartbeat) (_arb : Bool), s.Up ∧ (s.dev.twnState = 1) ∧ (h.state = 1)) ∧
    (∃ (s : State) (h : Heartbeat) (_arb : Bool), s.Up ∧ (s.dev.twnState = 3) ∧ (h.state = 4)) ∧
    (∃ (s : State) (_h : Heartbeat) (_arb : Bool), s.Up) ∧
    (∃ (s : State) (_arb : Bool), s.Up ∧ (s.dev.twnState = 3) ∧ (s.dev.twin.lost = false) ∧ (s.dev.twin.pref = true) ∧ (s.dev.twin.takeover = none)) ∧
    (∃ (s : State), s.Up ∧ (s.dev.twnState = 4) ∧ (s.dev.twin.lost = false) ∧ (s.dev.twin.pref = false)) ∧
    (∃ (s : State) (_arb : Bool), s.Up ∧ (s.dev.twnState = 1) ∧ (s.dev.twin.hb = none) ∧ (s.dev.twin.pref = true)) ∧
    (∃ (s : State), s.Up ∧ (s.dev.twin.pref = false) ∧ (s.dev.twin.lost = true) ∧ (s.dev.twnState = 3) ∧ (s.dev.twin.takeover = none)) ∧
    (∃ (s : State) (cause : Nat), s.Up ∧ (s.dev.twin.takeover = some cause)) ∧
    (∃ (s : State) (w : Writer), s.Opens Reg.pageTWN 0x048 w) ∧
    (∃ (s : State), s.Up ∧ (s.dev.liveFlag Reg.TWN_WDOG 31 = true)) ∧
    (∃ (s : State) (w : Writer), s.Opens Reg.pageTWN 0x054 w) :=
  ⟨⟨on (upWith [(Reg.LN_STAT 192, 4), (Reg.TWN_STAT, 0x14)]) (fun d => d.setFabLane 192 { FabLane.reset with frame := 2, idOk := true }), 192, by decide +kernel, by decide +kernel, by decide +kernel, by decide +kernel, by decide +kernel, by decide +kernel⟩,
    ⟨upWith [(Reg.LN_CFG 191 + 0x800, 5), (Reg.LN_STAT 191, 4), (Reg.FAB_LN_STAT 191, 6)], 191, by decide +kernel, by decide +kernel, by decide +kernel, by decide +kernel⟩,
    ⟨on (upWith [(Reg.TWN_STAT, 0xC), (Reg.HAL_STAT, 1)]) (fun d => ({ d with hal := { d.hal with twinKeys := 1 } } : Dev).setFabLane 195 { FabLane.reset with svc := true }), by decide +kernel, by decide +kernel, by decide +kernel, by decide +kernel, by decide +kernel, by decide +kernel⟩,
    ⟨upWith [(Reg.TWN_STAT, 1)], ⟨1, 1, 0, 0, 0, 0, 0, 0, false⟩, true, by decide +kernel, by decide +kernel, by decide +kernel⟩,
    ⟨upWith [(Reg.TWN_STAT, 3)], ⟨1, 4, 0, 0, 0, 0, 0, 0, false⟩, true, by decide +kernel, by decide +kernel, by decide +kernel⟩,
    ⟨upWith [(Reg.TWN_STAT, 3)], ⟨1, 4, 0, 0, 0, 0, 0, 0, false⟩, true, by decide +kernel⟩,
    ⟨upWith [(Reg.TWN_STAT, 3)], true, by decide +kernel, by decide +kernel, by decide +kernel, by decide +kernel, by decide +kernel⟩,
    ⟨on (upWith [(Reg.TWN_STAT, 4)]) (fun d => { d with twin := { d.twin with pref := false } }), by decide +kernel, by decide +kernel, by decide +kernel, by decide +kernel⟩,
    ⟨upWith [(Reg.TWN_STAT, 1)], false, by decide +kernel, by decide +kernel, by decide +kernel, by decide +kernel⟩,
    ⟨on (upWith [(Reg.TWN_STAT, 3)]) (fun d => { d with twin := { d.twin with pref := false, lost := true } }), by decide +kernel, by decide +kernel, by decide +kernel, by decide +kernel, by decide +kernel⟩,
    ⟨on (upWith [(Reg.TWN_STAT, 3)]) (fun d => { d with twin := { d.twin with takeover := some 2 } }), 2, by decide +kernel, by decide +kernel⟩,
    ⟨upWith [(Reg.TWN_STAT, 4)], .pcie, by decide +kernel⟩,
    ⟨upWith [(Reg.TWN_STAT, 4), (Reg.TWN_WDOG + 0x800, 0x80000000)], by decide +kernel, by decide +kernel⟩,
    ⟨upWith [(Reg.TWN_STAT, 4)], .pcie, by decide +kernel⟩⟩

/-- Every clause of `Obligations.EpochsCopiesAndHandovers` has a state and operands that meet it. -/
theorem test_EpochsCopiesAndHandovers_met :
    (∃ (s : State) (n : Nat) (k : Nat) (r : JRecord) (h : Option Hold), s.Up ∧ (s.dev.twnState = 3) ∧ (s.dev.twin.takeover = none) ∧ (s.dev.twin.rx = []) ∧ (n = (s.dev.rd Reg.TWN_EPOCH_RX).toNat + 1) ∧ n < 2 ^ 32 ∧ (r.body = .hold k h) ∧ (s.dev.salvoFrame k = none)) ∧
    (∃ (s : State) (n : Nat) (_last : Bool) (_recs : List JRecord), s.Up ∧ (s.dev.twnState = 3) ∧ (s.dev.twin.takeover = none) ∧ (s.dev.twin.rx = []) ∧ (n = (s.dev.rd Reg.TWN_EPOCH_RX).toNat + 2) ∧ n < 2 ^ 32) ∧
    (∃ (s : State), s.Up ∧ s.dev.twin.unacked ≠ [] ∧ (s.dev.twnState = 4) ∧ (s.dev.sealing = false) ∧ (s.dev.temper.writing = none)) ∧
    (∃ (s : State) (_epoch : Nat) (_ofs : Nat), s.Up) ∧
    (∃ (s : State) (_image : Persist) (first : Nat), s.Up ∧ (s.dev.twnState = 2) ∧ (s.dev.twin.takeover = none) ∧ s.dev.fld Reg.TWN_STAT 11 8 ≠ 0 ∧ (s.dev.twin.rx = [(first, 0, true, [])])) ∧
    (∃ (s : State) (w : Writer), s.Opens Reg.pageTWN 0x048 w ∧ (s.dev.twnState = 4) ∧ (s.dev.flag Reg.TWN_STAT 4 = false) ∧ s.dev.fld Reg.TWN_STAT 11 8 ≠ 0 ∧ (s.dev.twin.handover = none) ∧ (s.dev.partnerReady = true)) ∧
    (∃ (s : State) (slot : Option (Fin 16)) (w : Writer), s.Opens Reg.pageTWN 0x048 w ∧ (s.dev.twnState = 3) ∧ ((slot.all fun k => s.dev.planeOn (s.dev.cslotTp k)) = true)) ∧
    (∃ (s : State) (w : Writer), s.Opens Reg.pageTWN 0x048 w ∧ (s.dev.twnState = 4) ∧ s.dev.fld Reg.TWN_STAT 11 8 ≠ 0 ∧ (s.dev.sealing = false) ∧ (s.dev.temper.writing = none)) ∧
    (∃ (s : State) (w : Writer) (h : Handover), s.Opens Reg.pageTWN 0x048 w ∧ (s.dev.twin.handover = some h) ∧ s.dev.twnFrame + 2 ≤ h.f) ∧
    (∃ (s : State) (_f : Nat) (_tp : Fin 8), s.Up ∧ (s.dev.twnState = 3) ∧ (s.dev.flag Reg.TWN_STAT 6 = true)) ∧
    (∃ (s : State) (h : Handover) (_tp : Fin 8), s.Up ∧ (s.dev.twin.handover = some h) ∧ (h.mine = true)) ∧
    (∃ (s : State) (h : Handover), s.Up ∧ (s.dev.twin.handover = some h) ∧ (h.accepted = true) ∧ (s.dev.twnState = 4) ∧ (s.dev.journal.epoch = [])) ∧
    (∃ (s : State) (h : Handover), s.Up ∧ (s.dev.twin.handover = some h) ∧ (h.accepted = true) ∧ (s.dev.twnState = 3) ∧ (s.dev.journal.epoch = [])) ∧
    (∃ (s : State), s.Up ∧ (s.dev.twin.pref = true) ∧ (s.dev.flag Reg.TWN_STAT 6 = true) ∧ (s.dev.liveFlag Reg.TWN_CFG 3 = true) ∧ (s.dev.twin.handover = none)) :=
  ⟨⟨upWith [(Reg.TWN_STAT, 3), (Reg.TWN_EPOCH_RX, 8)], 9, 2239, ⟨4, false, 0, 0, .hold 2239 (some ⟨1, 0, 3⟩)⟩, (some ⟨1, 0, 3⟩), by decide +kernel, by decide +kernel, by decide +kernel, by decide +kernel, by decide +kernel, by decide +kernel, by decide +kernel, by decide +kernel⟩,
    ⟨upWith [(Reg.TWN_STAT, 3), (Reg.TWN_EPOCH_RX, 8)], 10, true, [⟨4, false, 0, 0, .hold 2239 (some ⟨1, 0, 3⟩)⟩], by decide +kernel, by decide +kernel, by decide +kernel, by decide +kernel, by decide +kernel, by decide +kernel⟩,
    ⟨on (upWith [(Reg.TWN_STAT, 4)]) (fun d => { d with twin := { d.twin with unacked := [(3, [])] } }), by decide +kernel, by decide +kernel, by decide +kernel, by decide +kernel, by decide +kernel⟩,
    ⟨on (upWith [(Reg.TWN_STAT, 4)]) (fun d => { d with twin := { d.twin with unacked := [(3, []), (4, [])] } }), 3, 0, by decide +kernel⟩,
    ⟨on (upWith [(Reg.TWN_STAT, 258)]) (fun d => { d with twin := { d.twin with rx := [(7, 0, true, [])] } }), Dev.reset.persist, 7, by decide +kernel, by decide +kernel, by decide +kernel, by decide +kernel, by decide +kernel⟩,
    ⟨on (upWith [(Reg.TWN_STAT, 260)]) (fun d => { d with twin := { d.twin with hb := some ⟨1, 3, 1, 0, 0, 0, 0, 0, false⟩ } }), .pcie, by decide +kernel, by decide +kernel, by decide +kernel, by decide +kernel, by decide +kernel, by decide +kernel⟩,
    ⟨upWith [(Reg.TWN_STAT, 259)], none, .pcie, by decide +kernel, by decide +kernel, by decide +kernel⟩,
    ⟨upWith [(Reg.TWN_STAT, 260)], .pcie, by decide +kernel, by decide +kernel, by decide +kernel, by decide +kernel, by decide +kernel⟩,
    ⟨on (upWith [(Reg.TWN_STAT, 260)]) (fun d => { d with twin := { d.twin with handover := some ⟨300, 0, true, true, false⟩ } }), .pcie, ⟨300, 0, true, true, false⟩, by decide +kernel, by decide +kernel, by decide +kernel⟩,
    ⟨upWith [(Reg.TWN_STAT, 323)], 300, 7, by decide +kernel, by decide +kernel, by decide +kernel⟩,
    ⟨on (upWith [(Reg.TWN_STAT, 260), (Reg.TWN_CMD, 0x80000000)]) (fun d => { d with twin := { d.twin with handover := some ⟨300, 0, true, false, false⟩ } }), ⟨300, 0, true, false, false⟩, 0, by decide +kernel, by decide +kernel, by decide +kernel⟩,
    ⟨on (upWith [(Reg.TWN_STAT, 260)]) (fun d => { d with twin := { d.twin with handover := some ⟨300, 0, true, true, false⟩ } }), ⟨300, 0, true, true, false⟩, by decide +kernel, by decide +kernel, by decide +kernel, by decide +kernel, by decide +kernel⟩,
    ⟨on (upWith [(Reg.TWN_STAT, 259)]) (fun d => { d with twin := { d.twin with handover := some ⟨300, 0, false, true, true⟩ } }), ⟨300, 0, false, true, true⟩, by decide +kernel, by decide +kernel, by decide +kernel, by decide +kernel, by decide +kernel⟩,
    ⟨on (upWith [(Reg.TWN_STAT, 323), (Reg.TWN_CFG + 0x800, 8)]) (fun d => { d with twin := { d.twin with pref := true } }), by decide +kernel, by decide +kernel, by decide +kernel, by decide +kernel, by decide +kernel⟩⟩

/-- Every clause of `Obligations.StandbysCompareTestAndReport` has a state and operands that meet it. -/
theorem test_StandbysCompareTestAndReport_met :
    (∃ (s : State) (x : SigEntry) (y : SigEntry), s.Up ∧ (s.dev.twnState = 3) ∧ (x.dst = y.dst) ∧ (x.f = y.f) ∧ (x.exclude = false) ∧ (y.exclude = false) ∧ (s.dev.twin.excluded = []) ∧ (x.sig = y.sig)) ∧
    (∃ (s : State) (x : SigEntry) (y : SigEntry), s.Up ∧ (s.dev.twnState = 3) ∧ (x.dst = y.dst) ∧ (x.f = y.f) ∧ (x.exclude = false) ∧ (y.exclude = false) ∧ (s.dev.twin.excluded = []) ∧ x.sig ≠ y.sig) ∧
    (∃ (s : State) (_x : SelfTest) (_errors : Nat), s.Up ∧ (s.dev.isStandby = true) ∧ (s.dev.liveFlag Reg.TWN_CFG 8 = true)) ∧
    (∃ (s : State) (x : SelfTest) (_errors : Nat), s.Up ∧ (s.dev.isStandby = true) ∧ (s.dev.liveFlag Reg.TWN_CFG 8 = true) ∧ (s.dev.twin.failing = [(x, 1)])) ∧
    (∃ (s : State) (_ofs : Int), s.Up ∧ s.dev.twnState ≠ 0) ∧
    (∃ (s : State) (_words : List Word), s.Up) ∧
    (∃ (s : State) (index : Nat) (data : List Byte), s.Up ∧ (s.dev.isStandby = true) ∧ index ≠ 0 ∧ (s.dev.hie.bulk = []) ∧ data ≠ [] ∧ (data.length = s.dev.chunkLen index [])) :=
  ⟨⟨upWith [(Reg.TWN_STAT, 3)], ⟨5, false, 9, 77⟩, ⟨5, false, 9, 77⟩, by decide +kernel, by decide +kernel, by decide +kernel, by decide +kernel, by decide +kernel, by decide +kernel, by decide +kernel, by decide +kernel⟩,
    ⟨upWith [(Reg.TWN_STAT, 3)], ⟨5, false, 9, 77⟩, ⟨5, false, 9, 78⟩, by decide +kernel, by decide +kernel, by decide +kernel, by decide +kernel, by decide +kernel, by decide +kernel, by decide +kernel, by decide +kernel⟩,
    ⟨upWith [(Reg.TWN_STAT, 3), (Reg.TWN_CFG + 0x800, 0x100)], .dram, 2, by decide +kernel, by decide +kernel, by decide +kernel⟩,
    ⟨on (upWith [(Reg.TWN_STAT, 2), (Reg.TWN_CFG + 0x800, 0x100)]) (fun d => { d with twin := { d.twin with failing := [(.lane 191, 1)] } }), .lane 191, 0, by decide +kernel, by decide +kernel, by decide +kernel, by decide +kernel⟩,
    ⟨upWith [(Reg.TWN_STAT, 3)], -3, by decide +kernel, by decide +kernel⟩,
    ⟨upWith [(Reg.TWN_STAT, 3)], [1, 2], by decide +kernel⟩,
    ⟨upWith [(Reg.TWN_STAT, 3)], 1, List.replicate 64 7, by decide +kernel, by decide +kernel, by decide +kernel, by decide +kernel, by decide +kernel, by decide +kernel⟩⟩

/-- Every clause of `Obligations.PowerStatesAreEntered` has a state and operands that meet it. -/
theorem test_PowerStatesAreEntered_met :
    (∃ (s : State) (w : Writer), s.Opens Reg.pagePWR 0x040 w ∧ (s.dev.pwrBusy = false) ∧ (s.dev.powerState = 1)) ∧
    (∃ (s : State) (w : Writer), s.Opens Reg.pagePWR 0x040 w ∧ (s.dev.pwrBusy = false) ∧ (s.dev.powerState = 0)) ∧
    (∃ (s : State) (wake : Bool) (w : Writer), s.Opens Reg.pagePWR 0x040 w ∧ (s.dev.pwrBusy = false) ∧ s.dev.powerState ≤ 1 ∧ (s.dev.lowRefuser 2 wake = none)) ∧
    (∃ (s : State) (wake : Bool) (w : Writer), s.Opens Reg.pagePWR 0x040 w ∧ (s.dev.pwrBusy = false) ∧ s.dev.powerState ≤ 2 ∧ (s.dev.lowRefuser 3 wake = none)) ∧
    (∃ (s : State) (wake : Bool) (w : Writer), s.Opens Reg.pagePWR 0x040 w ∧ (s.dev.pwrBusy = false) ∧ s.dev.powerState ≤ 2 ∧ (s.dev.lowRefuser 4 wake = none)) ∧
    (∃ (s : State) (w : Writer), s.Opens Reg.pagePWR 0x040 w) ∧
    (∃ (s : State) (w : Writer), s.Opens Reg.pagePWR 0x040 w ∧ (s.dev.pwrBusy = true) ∧ (s.dev.power.queued = none)) ∧
    (∃ (s : State), s.Up ∧ (s.dev.power.step = 1)) ∧
    (∃ (s : State) (_wake : Bool), s.Up ∧ (s.dev.power.step = 2) ∧ (s.dev.pwrTarget = 2) ∧ (s.dev.power.wakeNext = none) ∧ (s.dev.power.queued = none)) ∧
    (∃ (s : State) (_wake : Bool), s.Up ∧ (s.dev.power.step = 2) ∧ (s.dev.pwrTarget = 3)) ∧
    (∃ (s : State) (c : Ckpt), s.Up ∧ (s.dev.power.step = 3) ∧ (s.dev.temper.writing = none) ∧ (s.dev.temper.ckpts.head? = some c) ∧ s.dev.power.ckpt ≤ c.seq ∧ (s.dev.pwrTarget = 3)) ∧
    (∃ (s : State), s.Up ∧ (s.dev.power.step = 4) ∧ (s.dev.pwrTarget = 3)) ∧
    (∃ (s : State), s.Up ∧ (s.dev.power.step = 4) ∧ (s.dev.pwrTarget = 4) ∧ (s.dev.fld Reg.TMP_STAT 1 0 = 3)) ∧
    (∃ (s : State), s.Up ∧ (s.dev.power.step = 5) ∧ (s.dev.power.wakeNext = none)) :=
  ⟨⟨upWith [(Reg.TWN_STAT, 0), (Reg.PWR_STATE, 1)], .pcie, by decide +kernel, by decide +kernel, by decide +kernel⟩,
    ⟨upWith [(Reg.TWN_STAT, 0)], .pcie, by decide +kernel, by decide +kernel, by decide +kernel⟩,
    ⟨upWith [(Reg.TWN_STAT, 0)], false, .pcie, by decide +kernel, by decide +kernel, by decide +kernel, by decide +kernel⟩,
    ⟨upWith [(Reg.TWN_STAT, 0), (Reg.PWR_STATE, 2)], false, .pcie, by decide +kernel, by decide +kernel, by decide +kernel, by decide +kernel⟩,
    ⟨upWith [(Reg.TWN_STAT, 0), (Reg.PWR_STATE, 2)], false, .pcie, by decide +kernel, by decide +kernel, by decide +kernel, by decide +kernel⟩,
    ⟨upWith [(Reg.TWN_STAT, 0)], .pcie, by decide +kernel⟩,
    ⟨upWith [(Reg.TWN_STAT, 0), (Reg.PWR_STATE, 8)], .pcie, by decide +kernel, by decide +kernel, by decide +kernel⟩,
    ⟨on (upWith [(Reg.TWN_STAT, 0), (Reg.APT_STAT 15, 2)]) (fun d => d.onPower fun p => { p with step := 1 }), by decide +kernel, by decide +kernel⟩,
    ⟨on (upWith [(Reg.TWN_STAT, 0), (Reg.PWR_STATE, 40), (Reg.PWR_CMD, 0x80000000)]) (fun d => d.onPower fun p => { p with step := 2 }), false, by decide +kernel, by decide +kernel, by decide +kernel, by decide +kernel, by decide +kernel⟩,
    ⟨on (upWith [(Reg.TWN_STAT, 0), (Reg.PWR_STATE, 56)]) (fun d => d.onPower fun p => { p with step := 2 }), false, by decide +kernel, by decide +kernel, by decide +kernel⟩,
    ⟨on (on (upWith [(Reg.TWN_STAT, 0), (Reg.PWR_STATE, 58)]) (fun d => d.onPower fun p => { p with step := 3, ckpt := 1 })) (fun d => { d with temper := { d.temper with ckpts := [⟨1, 2, 3, 4, 5, true, Dev.reset.persist⟩] } }), ⟨1, 2, 3, 4, 5, true, Dev.reset.persist⟩, by decide +kernel, by decide +kernel, by decide +kernel, by decide +kernel, by decide +kernel, by decide +kernel⟩,
    ⟨on (upWith [(Reg.TWN_STAT, 0), (Reg.PWR_STATE, 58)]) (fun d => d.onPower fun p => { p with step := 4 }), by decide +kernel, by decide +kernel, by decide +kernel⟩,
    ⟨on (upWith [(Reg.TWN_STAT, 0), (Reg.PWR_STATE, 74), (Reg.TMP_STAT, 3)]) (fun d => d.onPower fun p => { p with step := 4 }), by decide +kernel, by decide +kernel, by decide +kernel, by decide +kernel⟩,
    ⟨on (upWith [(Reg.TWN_STAT, 0), (Reg.PWR_STATE, 58)]) (fun d => d.onPower fun p => { p with step := 5 }), by decide +kernel, by decide +kernel, by decide +kernel⟩⟩

/-- Every clause of `Obligations.WakesBringTheDeviceBack` has a state and operands that meet it. -/
theorem test_WakesBringTheDeviceBack_met :
    (∃ (s : State) (_ticks : Nat), s.Up ∧ (s.dev.power.wake = none) ∧ (s.dev.power.step = 0) ∧ (s.dev.powerState = 2)) ∧
    (∃ (s : State) (_ticks : Nat), s.Up ∧ (s.dev.power.wake = none) ∧ (s.dev.power.step = 0) ∧ (s.dev.powerState = 2) ∧ s.dev.fld Reg.PWR_WAKE_TIMER 31 0 ≠ 0) ∧
    (∃ (s : State) (_ticks : Nat), (s.dev.power.run = .deep)) ∧
    (∃ (s : State) (_ticks : Nat) (_saved : Bool), (s.dev.power.run = .off)) ∧
    (∃ (s : State) (_ticks : Nat), s.Up ∧ (s.dev.power.step = 1) ∧ s.dev.power.left ≤ 1 ∧ (s.dev.power.wake = none) ∧ (s.dev.power.queued = none)) ∧
    (∃ (s : State) (_wake : Bool) (source : Nat) (target : Nat), s.Up ∧ (s.dev.power.wake = some (source, target)) ∧ target ≤ 1 ∧ (s.dev.power.queued = none)) :=
  ⟨⟨upWith [(Reg.TWN_STAT, 0), (Reg.PWR_STATE, 2)], 0, by decide +kernel, by decide +kernel, by decide +kernel, by decide +kernel⟩,
    ⟨upWith [(Reg.TWN_STAT, 0), (Reg.PWR_STATE, 2), (Reg.PWR_WAKE_TIMER, 5)], 0, by decide +kernel, by decide +kernel, by decide +kernel, by decide +kernel, by decide +kernel⟩,
    ⟨on (upWith [(Reg.TWN_STAT, 0)]) (fun d => d.onPower fun p => { p with run := .deep }), 7, by decide +kernel⟩,
    ⟨on (upWith [(Reg.TWN_STAT, 0)]) (fun d => d.onPower fun p => { p with run := .off }), 7, true, by decide +kernel⟩,
    ⟨on (upWith [(Reg.TWN_STAT, 0), (Reg.PWR_STATE, 41)]) (fun d => d.onPower fun p => { p with step := 1, left := 1 }), 0, by decide +kernel, by decide +kernel, by decide +kernel, by decide +kernel, by decide +kernel⟩,
    ⟨on (upWith [(Reg.TWN_STAT, 0), (Reg.PWR_STATE, 26)]) (fun d => d.onPower fun p => { p with wake := some (1, 1) }), true, 1, 1, by decide +kernel, by decide +kernel, by decide +kernel, by decide +kernel⟩⟩

/-- Every clause of `Obligations.OperatingPointsAndAlerts` has a state and operands that meet it. -/
theorem test_OperatingPointsAndAlerts_met :
    (∃ (s : State) (point : Fin 4) (_answers : Bool) (w : Writer), s.Opens Reg.pagePWR 0x058 w ∧ (s.dev.flag Reg.PWR_OP_CMD 31 = false) ∧ s.dev.powerState ≤ 2 ∧ s.dev.fld Reg.PWR_OP_STAT 1 0 < point.val ∧ (s.dev.liveFlag Reg.PWR_CFG 8 = false)) ∧
    (∃ (s : State) (point : Fin 4) (_answers : Bool) (w : Writer), s.Opens Reg.pagePWR 0x058 w ∧ (s.dev.flag Reg.PWR_OP_CMD 31 = false) ∧ s.dev.powerState ≤ 2 ∧ point.val < s.dev.fld Reg.PWR_OP_STAT 1 0 ∧ (s.dev.opTooLow (opPercent point) = true) ∧ (s.dev.liveFlag Reg.PWR_CFG 8 = false) ∧ (s.dev.liveFlag Reg.PWR_CFG 5 = true)) ∧
    (∃ (s : State) (_mv : Fin 4096) (_wake : Bool), s.Up ∧ (s.dev.flag Reg.PWR_OP_STAT 2 = true) ∧ (s.dev.power.queued = none)) ∧
    (∃ (s : State) (_wake : Bool), s.Up ∧ (s.dev.flag Reg.PWR_OP_STAT 2 = true) ∧ (s.dev.liveFlag Reg.PWR_CFG 8 = true) ∧ (s.dev.power.queued = none)) ∧
    (∃ (s : State) (_rail : Fin 8) (_word : Fin 65536) (_vout : Fin 256), s.Up) ∧
    (∃ (s : State), s.Up) ∧
    (∃ (s : State) (margin : Fin 65536), s.Up ∧ s.dev.live Reg.PWR_AGE_THR 15 0 ≤ margin) ∧
    (∃ (s : State) (margin : Fin 65536), s.Up ∧ margin.val < s.dev.live Reg.PWR_AGE_THR 15 0) :=
  ⟨⟨upWith [(Reg.TWN_STAT, 0), (Reg.PWR_OP_STAT, 0), (Reg.PWR_CFG + 0x800, 0x20)], 3, true, .pcie, by decide +kernel, by decide +kernel, by decide +kernel, by decide +kernel, by decide +kernel⟩,
    ⟨on (upWith [(Reg.TWN_STAT, 0), (Reg.PWR_OP_STAT, 3), (Reg.PWR_CFG + 0x800, 0x20)]) (fun d => d.putSrc 1023 (some { Source.fresh 0 9 false 0 (2^40) with lead := 1023 })), 2, true, .pcie, by decide +kernel, by decide +kernel, by decide +kernel, by decide +kernel, by decide +kernel, by decide +kernel, by decide +kernel⟩,
    ⟨upWith [(Reg.TWN_STAT, 0), (Reg.PWR_OP_STAT, 6), (Reg.PWR_CFG + 0x800, 0x20), (Reg.PWR_OP_CMD, 0x80000003)], 4095, true, by decide +kernel, by decide +kernel, by decide +kernel⟩,
    ⟨upWith [(Reg.TWN_STAT, 0), (Reg.PWR_OP_STAT, 6), (Reg.PWR_CFG + 0x800, 0x120)], true, by decide +kernel, by decide +kernel, by decide +kernel, by decide +kernel⟩,
    ⟨upWith [(Reg.TWN_STAT, 0)], 7, 65535, 255, by decide +kernel⟩,
    ⟨upWith [(Reg.TWN_STAT, 0)], by decide +kernel⟩,
    ⟨upWith [(Reg.TWN_STAT, 0), (Reg.PWR_AGE_THR + 0x800, 9)], 9, by decide +kernel, by decide +kernel⟩,
    ⟨upWith [(Reg.TWN_STAT, 0), (Reg.PWR_AGE_THR + 0x800, 9)], 8, by decide +kernel, by decide +kernel⟩⟩

/-- Every clause of `Obligations.TheHallmarkTestsSignsAndKeepsKeys` has a state and operands that meet it. -/
theorem test_TheHallmarkTestsSignsAndKeepsKeys_met :
    (∃ (s : State) (w : Writer), s.Opens Reg.pageHAL 0x080 w ∧ (s.dev.flag Reg.HAL_CMD 31 = false) ∧ (s.dev.halServes = true)) ∧
    (∃ (s : State) (_entropy : Bool), s.Up ∧ (s.dev.halState = 0) ∧ (s.dev.hal.zeroAfter = false)) ∧
    (∃ (s : State) (_entropy : Bool) (_c : Fin 256), s.Up ∧ (s.dev.halState = 0) ∧ (s.dev.hal.zeroAfter = false)) ∧
    (∃ (s : State) (_code : Fin 256), s.Up ∧ (s.dev.halServes = true)) ∧
    (∃ (s : State) (w : Writer), s.Opens Reg.pageHAL 0x080 w ∧ (s.dev.flag Reg.HAL_CMD 31 = false) ∧ (s.dev.halServes = true)) ∧
    (∃ (s : State), s.Up ∧ (s.dev.halServes = true)) ∧
    (∃ (s : State), s.Up ∧ (s.dev.halState = 0)) ∧
    (∃ (s : State), s.Up ∧ (s.dev.temper.salt = false)) ∧
    (∃ (s : State) (first : Nat) (last : Nat) (w : Writer) (x : AuditEntry) (y : AuditEntry), s.Opens Reg.pageHAL 0x080 w ∧ (s.dev.flag Reg.HAL_CMD 31 = false) ∧ (s.dev.halServes = true) ∧ ((s.dev.hal.audit.find? fun e => e.seq == first) = some x) ∧ ((s.dev.hal.audit.find? fun e => e.seq == last) = some y) ∧ first ≤ last) ∧
    (∃ (s : State) (first : Nat) (_last : Nat) (w : Writer), s.Opens Reg.pageHAL 0x080 w ∧ (s.dev.flag Reg.HAL_CMD 31 = false) ∧ (s.dev.halServes = true) ∧ ((s.dev.hal.audit.any fun e => e.seq == first) = false)) ∧
    (∃ (s : State) (k : Fin 4) (_hash : Nat) (w : Writer), s.Opens Reg.pageHAL 0x080 w ∧ (s.dev.flag Reg.HAL_CMD 31 = false) ∧ (s.dev.halServes = true) ∧ (s.dev.ownerSlot k = 0)) ∧
    (∃ (s : State) (j : Fin 4) (k : Fin 4) (w : Writer), s.Opens Reg.pageHAL 0x080 w ∧ (s.dev.flag Reg.HAL_CMD 31 = false) ∧ (s.dev.halServes = true) ∧ j ≠ k ∧ (s.dev.ownerSlot j = 1) ∧ (s.dev.ownerSlot k = 1)) ∧
    (∃ (s : State) (k : Fin 4) (_signer : CmdSig) (w : Writer), s.Opens Reg.pageHAL 0x080 w ∧ (s.dev.flag Reg.HAL_CMD 31 = false) ∧ (s.dev.halServes = true) ∧ (s.dev.ownerSlot k = 1) ∧ (((List.range 4).all fun j => j == k.val || s.dev.ownerSlot j != 1) = true)) ∧
    (∃ (s : State) (w : Writer), s.Opens Reg.pageHAL 0x080 w ∧ (s.dev.flag Reg.HAL_CMD 31 = false) ∧ (s.dev.halServes = true)) ∧
    (∃ (s : State) (_signer : CmdSig) (w : Writer), s.Opens Reg.pageHAL 0x080 w ∧ (s.dev.flag Reg.HAL_CMD 31 = false) ∧ (s.dev.halServes = true)) ∧
    (∃ (s : State) (_csr : List Byte) (w : Writer), s.Opens Reg.pageHAL 0x080 w ∧ (s.dev.flag Reg.HAL_CMD 31 = false) ∧ (s.dev.halServes = true)) ∧
    (∃ (s : State) (_cells : List Host.Cell) (w : Writer), s.Opens Reg.pageHAL 0x080 w ∧ (s.dev.flag Reg.HAL_CMD 31 = false) ∧ (s.dev.halServes = true) ∧ (s.dev.hal.tlsKey = true)) ∧
    (∃ (s : State) (_twin : Bool) (session : Fin 8) (k : Fin 4), s.Up ∧ (s.dev.hostif.sessions.getD session false = true) ∧ (s.dev.halServes = true) ∧ (s.dev.ownerSlot k = 1) ∧ (s.dev.hal.waiting = []) ∧ ((s.dev.hal.lastInstall.all fun x => decide (x + 10000000000 ≤ s.dev.nowNs)) = true)) ∧
    (∃ (s : State) (_twin : Bool) (session : Fin 8) (k : Fin 4) (x : Nat), s.Up ∧ (s.dev.hostif.sessions.getD session false = true) ∧ (s.dev.halServes = true) ∧ (s.dev.ownerSlot k = 1) ∧ (s.dev.hal.lastInstall = some x) ∧ s.dev.nowNs < x + 10000000000) ∧
    (∃ (s : State) (x : KeyWait) (l : List KeyWait), s.Up ∧ (s.dev.halServes = true) ∧ (s.dev.hal.waiting = x :: l) ∧ (x.kind = 0)) ∧
    (∃ (s : State), s.Up) :=
  ⟨⟨upWith [(Reg.HAL_STAT, 1)], .pcie, by decide +kernel, by decide +kernel, by decide +kernel⟩,
    ⟨upWith [(Reg.HAL_STAT, 0), (Reg.TWN_STAT, 4)], true, by decide +kernel, by decide +kernel, by decide +kernel⟩,
    ⟨upWith [(Reg.HAL_STAT, 0), (Reg.TWN_STAT, 4)], true, 255, by decide +kernel, by decide +kernel, by decide +kernel⟩,
    ⟨upWith [(Reg.HAL_STAT, 5), (Reg.TWN_STAT, 4)], 255, by decide +kernel, by decide +kernel⟩,
    ⟨on (upWith [(Reg.HAL_STAT, 5), (Reg.TWN_STAT, 4)]) (fun d => { d with hal := { d.hal with hierKeys := 2, twinKeys := 1, tlsKey := true, cert := true }, hostif := { d.hostif with sessions := List.replicate 8 true } }), .pcie, by decide +kernel, by decide +kernel, by decide +kernel⟩,
    ⟨on (upWith [(Reg.HAL_STAT, 5), (Reg.TWN_STAT, 0)]) (fun d => { d with hal := { d.hal with hierKeys := 2, twinKeys := 1, tlsKey := true, cert := true } }), by decide +kernel, by decide +kernel⟩,
    ⟨upWith [(Reg.HAL_STAT, 0)], by decide +kernel, by decide +kernel⟩,
    ⟨on (upWith [(Reg.HAL_STAT, 3)]) (fun d => { d with hal := { d.hal with store := 3 } }), by decide +kernel, by decide +kernel⟩,
    ⟨on (upWith [(Reg.HAL_STAT, 5)]) (fun d => { d with hal := { d.hal with audit := [⟨4, 0, 1, 0, 0, 0, 0, 0, 7⟩, ⟨5, 0, 1, 0, 0, 0, 0, 0, 8⟩] } }), 4, 5, .pcie, ⟨4, 0, 1, 0, 0, 0, 0, 0, 7⟩, ⟨5, 0, 1, 0, 0, 0, 0, 0, 8⟩, by decide +kernel, by decide +kernel, by decide +kernel, by decide +kernel, by decide +kernel, by decide +kernel⟩,
    ⟨on (upWith [(Reg.HAL_STAT, 5)]) (fun d => { d with hal := { d.hal with audit := [⟨4, 0, 1, 0, 0, 0, 0, 0, 7⟩, ⟨5, 0, 1, 0, 0, 0, 0, 0, 8⟩] } }), 3, 5, .pcie, by decide +kernel, by decide +kernel, by decide +kernel, by decide +kernel⟩,
    ⟨upWith [(Reg.HAL_STAT, 5), (Reg.HAL_SLOTS, 0x3F)], 3, 99, .pcie, by decide +kernel, by decide +kernel, by decide +kernel, by decide +kernel⟩,
    ⟨upWith [(Reg.HAL_STAT, 5), (Reg.HAL_SLOTS, 0x55)], 3, 0, .pcie, by decide +kernel, by decide +kernel, by decide +kernel, by decide +kernel, by decide +kernel, by decide +kernel⟩,
    ⟨upWith [(Reg.HAL_STAT, 5), (Reg.HAL_SLOTS, 0x6A)], 3, .vendor, .pcie, by decide +kernel, by decide +kernel, by decide +kernel, by decide +kernel, by decide +kernel⟩,
    ⟨on (upWith [(Reg.HAL_STAT, 5), (Reg.TWN_STAT, 4)]) (fun d => { d with hal := { d.hal with hierKeys := 2 } }), .pcie, by decide +kernel, by decide +kernel, by decide +kernel⟩,
    ⟨upWith [(Reg.HAL_STAT, 5)], .slot 2, .pcie, by decide +kernel, by decide +kernel, by decide +kernel⟩,
    ⟨upWith [(Reg.HAL_STAT, 3), (Reg.HAL_CMD_ADDR_LO, 64)], [1, 2], .pcie, by decide +kernel, by decide +kernel, by decide +kernel⟩,
    ⟨on (upWith [(Reg.HAL_STAT, 5)]) (fun d => { d with hal := { d.hal with tlsKey := true } }), [(3, 4)], .pcie, by decide +kernel, by decide +kernel, by decide +kernel, by decide +kernel⟩,
    ⟨on (upWith [(Reg.HAL_STAT, 3), (Reg.HAL_SLOTS, 0x40), (Reg.TWN_STAT, 0)]) (fun d => { d with hostif := { d.hostif with sessions := List.replicate 8 true } }), true, 7, 3, by decide +kernel, by decide +kernel, by decide +kernel, by decide +kernel, by decide +kernel, by decide +kernel⟩,
    ⟨on (upWith [(Reg.HAL_STAT, 3), (Reg.HAL_SLOTS, 0x40)]) (fun d => { d with hal := { d.hal with lastInstall := some 0 }, hostif := { d.hostif with sessions := List.replicate 8 true } }), false, 7, 3, 0, by decide +kernel, by decide +kernel, by decide +kernel, by decide +kernel, by decide +kernel, by decide +kernel⟩,
    ⟨on (upWith [(Reg.HAL_STAT, 1), (Reg.TWN_STAT, 0)]) (fun d => { d with hal := { d.hal with hierKeys := 2, waiting := [⟨0, 3, 1⟩, ⟨1, 2, 1⟩] } }), ⟨0, 3, 1⟩, [⟨1, 2, 1⟩], by decide +kernel, by decide +kernel, by decide +kernel, by decide +kernel⟩,
    ⟨upWith [(Reg.HAL_STAT, 1)], by decide +kernel⟩⟩

/-- Every clause of `Obligations.UpdatesAreReceivedStagedAndCommitted` has a state and operands that meet it. -/
theorem test_UpdatesAreReceivedStagedAndCommitted_met :
    (∃ (s : State) (_man : Option Manifest) (cells : List Host.Cell) (w : Writer), s.Opens Reg.pageUPD 0x05C w ∧ s.dev.halState ≠ 2 ∧ (s.dev.sealing = false) ∧ (s.dev.fld Reg.UPD_CHUNK_IDX 15 0 = 0) ∧ (packageHeader ((s.mem.hostWrote cells).bytes (s.dev.flag Reg.UPD_CHUNK_IDX 16) (s.dev.rd64 Reg.UPD_CHUNK_ADDR_LO Reg.UPD_CHUNK_ADDR_HI) 64) = none)) ∧
    (∃ (s : State) (_man : Option Manifest) (cells : List Host.Cell) (w : Writer) (pkg : Nat) (c : Nat) (total : Nat) (mlen : Nat) (tlen : Nat), s.Opens Reg.pageUPD 0x05C w ∧ s.dev.halState ≠ 2 ∧ (s.dev.sealing = false) ∧ (s.dev.fld Reg.UPD_CHUNK_IDX 15 0 = 0) ∧ (s.dev.upd.img.state = 0) ∧ (packageHeader ((s.mem.hostWrote cells).bytes (s.dev.flag Reg.UPD_CHUNK_IDX 16) (s.dev.rd64 Reg.UPD_CHUNK_ADDR_LO Reg.UPD_CHUNK_ADDR_HI) (s.dev.chunkLen 0 ((s.mem.hostWrote cells).bytes (s.dev.flag Reg.UPD_CHUNK_IDX 16) (s.dev.rd64 Reg.UPD_CHUNK_ADDR_LO Reg.UPD_CHUNK_ADDR_HI) 64))) = some (pkg, c, total, mlen, tlen)) ∧ chunkSize c < 64 + mlen + tlen) ∧
    (∃ (s : State) (_man : Option Manifest) (_cells : List Host.Cell) (w : Writer), s.Opens Reg.pageUPD 0x05C w ∧ s.dev.halState ≠ 2 ∧ (s.dev.sealing = false) ∧ s.dev.fld Reg.UPD_CHUNK_IDX 15 0 ≠ 0 ∧ s.dev.upd.img.state ≠ 0 ∧ (s.dev.upd.img.held.contains (s.dev.fld Reg.UPD_CHUNK_IDX 15 0) = true) ∧ s.dev.fld Reg.UPD_CHUNK_IDX 15 0 < s.dev.upd.img.total) ∧
    (∃ (s : State) (idx : Fin 65536) (w : Writer) (i : Nat), s.Opens Reg.pageUPD 0x06C w ∧ i < 65536 ∧ ((s.dev.neededChunks s.dev.upd.img).contains i = true) ∧ (s.dev.upd.img.held.contains i = false) ∧ idx.val ≤ i ∧ (((s.dev.neededChunks s.dev.upd.img).all fun j => decide (j < idx.val) || s.dev.upd.img.held.contains j || decide (i ≤ j)) = true)) ∧
    (∃ (s : State) (idx : Fin 65536) (w : Writer), s.Opens Reg.pageUPD 0x06C w ∧ (((s.dev.neededChunks s.dev.upd.img).all fun j => decide (j < idx.val) || s.dev.upd.img.held.contains j) = true)) ∧
    (∃ (s : State) (w : Writer) (m : Manifest), s.Opens Reg.pageUPD 0x070 w ∧ (s.dev.sealing = false) ∧ s.dev.halState ≠ 2 ∧ ((s.dev.upd.img.state = 1 ∨ s.dev.upd.img.state = 9)) ∧ (s.dev.flag Reg.DDR_STAT 9 = false) ∧ (s.dev.upd.img.manifest = some m) ∧ (s.dev.chunksComplete = true) ∧ (s.dev.updDriver = true)) ∧
    (∃ (s : State) (w : Writer), s.Opens Reg.pageUPD 0x070 w ∧ (s.dev.sealing = false) ∧ s.dev.halState ≠ 2 ∧ (s.dev.upd.img.state = 1) ∧ (s.dev.flag Reg.DDR_STAT 9 = false) ∧ (s.dev.chunksComplete = false)) ∧
    (∃ (s : State), s.Up ∧ (s.dev.upd.img.state = 2)) ∧
    (∃ (s : State) (_part : Fin 16), s.Up ∧ (s.dev.upd.img.state = 2)) ∧
    (∃ (s : State) (w : Writer), s.Opens Reg.pageUPD 0x070 w ∧ (s.dev.sealing = false) ∧ s.dev.halState ≠ 2 ∧ (s.dev.updDriver = true) ∧ (s.dev.updReady = true)) ∧
    (∃ (s : State) (k : Fin 16) (w : Writer), s.Opens Reg.pageUPD 0x070 w ∧ (s.dev.sealing = false) ∧ s.dev.halState ≠ 2 ∧ (s.dev.updDriver = true) ∧ (s.dev.planeOn (s.dev.cslotTp k) = true) ∧ (s.dev.updReady = true) ∧ s.dev.cslotF k < s.dev.updFrame + s.dev.live Reg.UPD_LEAD 15 0) ∧
    (∃ (s : State) (w : Writer) (f : Nat) (tp : Nat), s.Opens Reg.pageUPD 0x070 w ∧ (s.dev.sealing = false) ∧ (s.dev.updDriver = true) ∧ (s.dev.upd.img.state = 4) ∧ (s.dev.upd.img.coord = some (f, tp, false)) ∧ s.dev.updFrame + 2 ≤ f) ∧
    (∃ (s : State) (f : Nat) (tp : Nat), s.Up ∧ (s.dev.updDriver = true) ∧ (s.dev.upd.img.state = 4) ∧ (s.dev.upd.img.coord = some (f, tp, false)) ∧ ((s.dev.upd.devs.all fun x => !x.named || x.acked) = false) ∧ s.dev.upd.tries < 8) ∧
    (∃ (s : State) (f : Nat) (tp : Nat), s.Up ∧ (s.dev.updDriver = true) ∧ (s.dev.upd.img.state = 4) ∧ (s.dev.upd.img.coord = some (f, tp, false)) ∧ ((s.dev.upd.devs.all fun x => !x.named || x.acked) = false) ∧ 8 ≤ s.dev.upd.tries) ∧
    (∃ (s : State) (w : Writer), s.Opens Reg.pageUPD 0x070 w ∧ (s.dev.sealing = false) ∧ (s.dev.upd.img.state = 1)) ∧
    (∃ (s : State) (w : Writer), s.Opens Reg.pageUPD 0x070 w ∧ (s.dev.sealing = false) ∧ s.dev.upd.img.state ≠ 1) :=
  ⟨⟨upWith [(Reg.HAL_STAT, 1), (Reg.TWN_STAT, 0)], none, [], .pcie, by decide +kernel, by decide +kernel, by decide +kernel, by decide +kernel, by decide +kernel⟩,
    ⟨upWith [(Reg.HAL_STAT, 1), (Reg.TWN_STAT, 0)], none, [(0, 0x5A), (1, 0x44), (2, 0x50), (3, 0x4B), (4, 1), (8, 9), (12, 100), (17, 19)], .pcie, 9, 0, 100, 4864, 0, by decide +kernel, by decide +kernel, by decide +kernel, by decide +kernel, by decide +kernel, by decide +kernel, by decide +kernel⟩,
    ⟨on (upWith [(Reg.HAL_STAT, 1), (Reg.TWN_STAT, 0), (Reg.UPD_CHUNK_IDX, 3)]) (fun d => { d with upd := { d.upd with img := { d.upd.img with state := 1, total := 4, held := [3] } } }), none, [(7, 8)], .pcie, by decide +kernel, by decide +kernel, by decide +kernel, by decide +kernel, by decide +kernel, by decide +kernel, by decide +kernel⟩,
    ⟨on (upWith []) (fun d => { d with upd := { d.upd with img := { d.upd.img with state := 1, lead := 5, held := [0, 1, 3] } } }), 1, .pcie, 2, by decide +kernel, by decide +kernel, by decide +kernel, by decide +kernel, by decide +kernel, by decide +kernel⟩,
    ⟨on (upWith []) (fun d => { d with upd := { d.upd with img := { d.upd.img with state := 1, lead := 5, held := [0, 1, 3] } } }), 5, .pcie, by decide +kernel, by decide +kernel⟩,
    ⟨on (upWith [(Reg.HAL_STAT, 1)]) (fun d => { d with upd := { d.upd with img := { d.upd.img with state := 9, lead := 1, held := [0], manifest := some ⟨0, 2, 0, false, 0, true, true, [⟨0, 1, 1, [(5, 3)]⟩]⟩ } } }), .pcie, ⟨0, 2, 0, false, 0, true, true, [⟨0, 1, 1, [(5, 3)]⟩]⟩, by decide +kernel, by decide +kernel, by decide +kernel, by decide +kernel, by decide +kernel, by decide +kernel, by decide +kernel, by decide +kernel⟩,
    ⟨on (upWith [(Reg.HAL_STAT, 1)]) (fun d => { d with upd := { d.upd with img := { d.upd.img with state := 1, lead := 1 } } }), .pcie, by decide +kernel, by decide +kernel, by decide +kernel, by decide +kernel, by decide +kernel, by decide +kernel⟩,
    ⟨on (upWith [(Reg.HAL_STAT, 1)]) (fun d => { d with upd := { d.upd with img := { d.upd.img with state := 2, lead := 1 } } }), by decide +kernel, by decide +kernel⟩,
    ⟨on (upWith [(Reg.HAL_STAT, 1)]) (fun d => { d with upd := { d.upd with img := { d.upd.img with state := 2, lead := 1 } } }), 15, by decide +kernel, by decide +kernel⟩,
    ⟨on (upWith [(Reg.HAL_STAT, 1)]) (fun d => { d with upd := { d.upd with img := { d.upd.img with state := 3 } } }), .pcie, by decide +kernel, by decide +kernel, by decide +kernel, by decide +kernel, by decide +kernel⟩,
    ⟨on (upWith [(Reg.HAL_STAT, 1), (Reg.UPD_LEAD + 0x800, 5), (Reg.REF_TP_CFG 0 + 0x800, 1)]) (fun d => { d with upd := { d.upd with img := { d.upd.img with state := 3 } } }), 15, .pcie, by decide +kernel, by decide +kernel, by decide +kernel, by decide +kernel, by decide +kernel, by decide +kernel, by decide +kernel⟩,
    ⟨on (upWith [(Reg.HAL_STAT, 1)]) (fun d => { d with upd := { d.upd with img := { d.upd.img with state := 4, coord := some (2, 0, false) } } }), .pcie, 2, 0, by decide +kernel, by decide +kernel, by decide +kernel, by decide +kernel, by decide +kernel, by decide +kernel⟩,
    ⟨on (upWith [(Reg.HAL_STAT, 1), (Reg.UPD_LEAD + 0x800, 5)]) (fun d => { d with upd := { d.upd with devs := [⟨5, 0, 4, 0, true, false, 1⟩], img := { d.upd.img with state := 4, coord := some (2, 0, false) } } }), 2, 0, by decide +kernel, by decide +kernel, by decide +kernel, by decide +kernel, by decide +kernel, by decide +kernel⟩,
    ⟨on (upWith [(Reg.HAL_STAT, 1)]) (fun d => { d with upd := { d.upd with tries := 8, devs := [⟨5, 0, 4, 0, true, false, 1⟩], img := { d.upd.img with state := 4, coord := some (2, 0, false) } } }), 2, 0, by decide +kernel, by decide +kernel, by decide +kernel, by decide +kernel, by decide +kernel, by decide +kernel⟩,
    ⟨on (upWith [(Reg.HAL_STAT, 1)]) (fun d => { d with upd := { d.upd with chunks := [(0, [1])], img := { d.upd.img with state := 1, held := [0] } } }), .pcie, by decide +kernel, by decide +kernel, by decide +kernel⟩,
    ⟨upWith [], .pcie, by decide +kernel, by decide +kernel, by decide +kernel⟩⟩

/-- Every clause of `Obligations.UpdatesSwitchProveAndRollBack` has a state and operands that meet it. -/
theorem test_UpdatesSwitchProveAndRollBack_met :
    (∃ (s : State) (f : Nat) (tp : Nat), s.Up ∧ (s.dev.upd.img.state = 4) ∧ (s.dev.upd.img.coord = some (f, tp, false)) ∧ (s.dev.updNamed = true)) ∧
    (∃ (s : State), s.Up ∧ (s.dev.upd.restart = 1) ∧ (s.dev.upd.img.state = 5)) ∧
    (∃ (s : State), s.Up ∧ (s.dev.upd.restart = 2)) ∧
    (∃ (s : State) (w : Writer), s.Opens Reg.pageUPD 0x070 w ∧ (s.dev.sealing = false) ∧ (s.dev.upd.img.state = 6) ∧ (s.dev.updDriver = true) ∧ (s.dev.upd.img.coord = none)) ∧
    (∃ (s : State) (w : Writer), s.Opens Reg.pageUPD 0x070 w ∧ (s.dev.sealing = false) ∧ s.dev.upd.img.state ≠ 6) ∧
    (∃ (s : State), s.Up ∧ (s.dev.updDriver = true) ∧ (s.dev.upd.img.state = 6) ∧ (s.dev.upd.img.coord = none) ∧ ((s.dev.upd.devs.any fun x => x.named && x.ver != s.dev.newVer) = true)) ∧
    (∃ (s : State), s.Up ∧ (s.dev.upd.img.state = 7) ∧ (s.dev.upd.bankB = true)) ∧
    (∃ (s : State), s.Up ∧ (s.dev.upd.img.state = 7) ∧ (s.dev.upd.bankB = false) ∧ (s.dev.upd.restart = 0)) ∧
    (∃ (s : State) (f : Nat), s.Up ∧ (s.dev.upd.localF = some f) ∧ f ≤ s.dev.updFrame ∧ (s.dev.upd.bankB = true)) ∧
    (∃ (s : State), s.Up ∧ (s.dev.upd.img.state = 6) ∧ ((s.dev.updDriver = false ∨ s.dev.liveFlag Reg.UPD_CFG 4 = false))) ∧
    (∃ (s : State), s.Up ∧ (s.dev.upd.img.state = 6) ∧ (s.dev.updDriver = true) ∧ (s.dev.liveFlag Reg.UPD_CFG 4 = true)) ∧
    (∃ (s : State), s.Up ∧ (s.dev.upd.img.state = 6) ∧ (s.dev.fld Reg.UPD_PROB_REMAIN 15 0 = 0)) ∧
    (∃ (s : State) (w : Writer), s.Opens Reg.pageUPD 0x070 w ∧ (s.dev.sealing = false) ∧ (s.dev.upd.img.state = 8)) ∧
    (∃ (s : State) (w : Writer), s.Opens Reg.pageUPD 0x070 w ∧ (s.dev.sealing = false) ∧ (s.dev.upd.img.state = 8) ∧ (s.dev.upd.bankB = true)) :=
  ⟨⟨on (upWith [(Reg.HAL_STAT, 1), (Reg.TWN_STAT, 4), (Reg.UPD_CFG + 0x800, 0x12340000)]) (fun d => { d with upd := { d.upd with img := { d.upd.img with state := 4, coord := some (2, 0, false), manifest := some ⟨0, 2, 0, false, 0, true, true, [⟨0, 1, 1, [(d.position, 3)]⟩]⟩ } } }), 2, 0, by decide +kernel, by decide +kernel, by decide +kernel, by decide +kernel⟩,
    ⟨on (upWith [(Reg.HAL_STAT, 1)]) (fun d => { d with upd := { d.upd with restart := 1, img := { d.upd.img with state := 5 } } }), by decide +kernel, by decide +kernel, by decide +kernel⟩,
    ⟨on (upWith [(Reg.HAL_STAT, 1)]) (fun d => { d with upd := { d.upd with restart := 2, bankB := true, img := { d.upd.img with state := 5 } } }), by decide +kernel, by decide +kernel⟩,
    ⟨on (upWith [(Reg.HAL_STAT, 1)]) (fun d => { d with upd := { d.upd with img := { d.upd.img with state := 6 } } }), .pcie, by decide +kernel, by decide +kernel, by decide +kernel, by decide +kernel, by decide +kernel⟩,
    ⟨on (upWith [(Reg.HAL_STAT, 1)]) (fun d => { d with upd := { d.upd with img := { d.upd.img with state := 5 } } }), .pcie, by decide +kernel, by decide +kernel, by decide +kernel⟩,
    ⟨on (upWith [(Reg.HAL_STAT, 1)]) (fun d => { d with upd := { d.upd with devs := [⟨5, 0, 4, 0, true, false, 1⟩], img := { d.upd.img with state := 6 } } }), by decide +kernel, by decide +kernel, by decide +kernel, by decide +kernel, by decide +kernel⟩,
    ⟨on (upWith [(Reg.HAL_STAT, 1), (Reg.TWN_STAT, 4)]) (fun d => { d with upd := { d.upd with bankB := true, img := { d.upd.img with state := 7 } } }), by decide +kernel, by decide +kernel, by decide +kernel⟩,
    ⟨on (upWith [(Reg.HAL_STAT, 1), (Reg.TWN_STAT, 4)]) (fun d => { d with upd := { d.upd with img := { d.upd.img with state := 7 } } }), by decide +kernel, by decide +kernel, by decide +kernel, by decide +kernel⟩,
    ⟨on (upWith [(Reg.HAL_STAT, 1), (Reg.TWN_STAT, 4)]) (fun d => { d with upd := { d.upd with bankB := true, localF := some 0, img := { d.upd.img with state := 6 } } }), 0, by decide +kernel, by decide +kernel, by decide +kernel, by decide +kernel⟩,
    ⟨on (upWith [(Reg.UPD_PROB_REMAIN, 7), (Reg.UPD_CFG + 0x800, 0)]) (fun d => { d with upd := { d.upd with img := { d.upd.img with state := 6 } } }), by decide +kernel, by decide +kernel, by decide +kernel⟩,
    ⟨on (upWith [(Reg.UPD_CFG + 0x800, 0x10), (Reg.HAL_SLOTS, 0x4100)]) (fun d => { d with upd := { d.upd with bankB := true, img := { d.upd.img with state := 6 } } }), by decide +kernel, by decide +kernel, by decide +kernel, by decide +kernel⟩,
    ⟨on (upWith []) (fun d => { d with upd := { d.upd with bankB := true, img := { d.upd.img with state := 6 } } }), by decide +kernel, by decide +kernel, by decide +kernel⟩,
    ⟨on (upWith []) (fun d => { d with upd := { d.upd with bankB := true, img := { d.upd.img with state := 8 } } }), .pcie, by decide +kernel, by decide +kernel, by decide +kernel⟩,
    ⟨on (upWith [(Reg.HAL_STAT, 1)]) (fun d => { d with upd := { d.upd with bankB := true, img := { d.upd.img with state := 8 } } }), .pcie, by decide +kernel, by decide +kernel, by decide +kernel, by decide +kernel⟩⟩

/-- Every clause of `Obligations.UpdateMessagesCarryTheUpdate` has a state and operands that meet it. -/
theorem test_UpdateMessagesCarryTheUpdate_met :
    (∃ (s : State) (_lane : Fin 192) (h : TongsHead) (tag : TagCheck) (u : UpdateMsg), s.Takes h tag ∧ s.FromManager h ∧ (u.pkg = s.dev.upd.img.pkg) ∧ ((s.dev.upd.img.state = 1 ∨ s.dev.upd.img.state = 9)) ∧ (s.dev.flag Reg.DDR_STAT 9 = false) ∧ (s.dev.upd.img.manifest.isSome = true) ∧ (s.dev.chunksComplete = true)) ∧
    (∃ (s : State) (_lane : Fin 192) (h : TongsHead) (tag : TagCheck) (u : UpdateMsg), s.Takes h tag ∧ s.FromManager h ∧ (u.pkg = s.dev.upd.img.pkg) ∧ ((s.dev.upd.img.state = 3 ∨ s.dev.upd.img.state = 4)) ∧ (s.dev.roleConfirmed = true)) ∧
    (∃ (s : State) (_lane : Fin 192) (h : TongsHead) (tag : TagCheck) (u : UpdateMsg), s.Takes h tag ∧ s.FromManager h ∧ (u.pkg = s.dev.upd.img.pkg) ∧ (s.dev.upd.img.state = 4) ∧ (u.f = 0)) ∧
    (∃ (s : State) (_lane : Fin 192) (h : TongsHead) (tag : TagCheck) (u : UpdateMsg), s.Takes h tag ∧ s.FromManager h ∧ (u.pkg = s.dev.upd.img.pkg) ∧ ((s.dev.upd.img.state = 4 ∨ s.dev.upd.img.state = 5 ∨ s.dev.upd.img.state = 6 ∨ s.dev.upd.img.state = 8))) ∧
    (∃ (s : State) (_lane : Fin 192) (h : TongsHead) (tag : TagCheck) (u : UpdateMsg), s.Takes h tag ∧ s.FromManager h ∧ (u.pkg = s.dev.upd.img.pkg) ∧ ((s.dev.upd.img.state = 6 ∨ s.dev.upd.img.state = 8))) ∧
    (∃ (s : State) (_lane : Fin 192) (h : TongsHead) (tag : TagCheck) (u : UpdateMsg), s.Takes h tag ∧ s.AtManager h ∧ (u.pkg = s.dev.upd.img.pkg)) ∧
    (∃ (s : State) (_lane : Fin 192) (h : TongsHead) (tag : TagCheck) (u : UpdateMsg), s.Takes h tag ∧ s.AtManager h ∧ (u.pkg = s.dev.upd.img.pkg)) ∧
    (∃ (s : State) (_lane : Fin 192) (h : TongsHead) (tag : TagCheck) (u : UpdateMsg), s.Takes h tag ∧ s.AtManager h ∧ (u.pkg = s.dev.upd.img.pkg)) ∧
    (∃ (s : State) (_lane : Fin 192) (h : TongsHead) (tag : TagCheck) (u : UpdateMsg), s.Takes h tag ∧ s.AtManager h ∧ (u.pkg = s.dev.upd.img.pkg) ∧ (s.dev.upd.img.state = 6) ∧ (s.dev.upd.img.coord = none)) ∧
    (∃ (s : State) (_lane : Fin 192) (h : TongsHead) (tag : TagCheck) (u : UpdateMsg), s.Takes h tag ∧ s.AtManager h ∧ (u.pkg = s.dev.upd.img.pkg) ∧ s.dev.upd.img.state ≠ 3) ∧
    (∃ (s : State) (_lane : Fin 192) (h : TongsHead) (tag : TagCheck) (_u : UpdateMsg) (l : List (Nat × Nat)), s.Takes h tag ∧ s.AtManager h ∧ (s.dev.roleConfirmed = true) ∧ (s.dev.upd.img.decision = some (true, l))) :=
  ⟨⟨on (tongsWith asWorker []) (fun d => { d with upd := { d.upd with img := { d.upd.img with pkg := 7, state := 1, manifest := some ⟨0, 2, 0, false, 0, true, true, []⟩ } } }), 0, head3 10, .newest, ⟨0, 0, 0, 7, 0, 0, 0⟩, by decide +kernel, by decide +kernel, by decide +kernel, by decide +kernel, by decide +kernel, by decide +kernel, by decide +kernel⟩,
    ⟨on (tongsWith asWorker []) (fun d => { d with upd := { d.upd with img := { d.upd.img with pkg := 7, state := 3 } } }), 0, head3 10, .newest, ⟨0, 0, 0, 7, 9, 7, 0⟩, by decide +kernel, by decide +kernel, by decide +kernel, by decide +kernel, by decide +kernel⟩,
    ⟨on (tongsWith asWorker []) (fun d => { d with upd := { d.upd with img := { d.upd.img with pkg := 7, state := 4, coord := some (3, 0, false) } } }), 0, head3 10, .newest, ⟨0, 0, 0, 7, 0, 7, 0⟩, by decide +kernel, by decide +kernel, by decide +kernel, by decide +kernel, by decide +kernel⟩,
    ⟨on (tongsWith asWorker []) (fun d => { d with upd := { d.upd with img := { d.upd.img with pkg := 7, state := 8, coord := some (3, 0, false) } } }), 0, head3 10, .newest, ⟨0, 0, 0, 7, 9, 7, 0⟩, by decide +kernel, by decide +kernel, by decide +kernel, by decide +kernel⟩,
    ⟨on (tongsWith asWorker []) (fun d => { d with upd := { d.upd with bankB := true, img := { d.upd.img with pkg := 7, state := 8 } } }), 0, head3 10, .newest, ⟨0, 0, 0, 7, 0, 7, 0⟩, by decide +kernel, by decide +kernel, by decide +kernel, by decide +kernel⟩,
    ⟨on (tongsWith asManager []) (fun d => { d with upd := { d.upd with devs := [⟨3, 0, 2, 0, true, false, 1⟩], img := { d.upd.img with pkg := 7, state := 3 } } }), 0, head3 10, .newest, ⟨0, 0, 0, 7, 0, 7, 8⟩, by decide +kernel, by decide +kernel, by decide +kernel⟩,
    ⟨on (tongsWith asManager []) (fun d => { d with upd := { d.upd with devs := [⟨3, 0, 2, 0, true, false, 1⟩], img := { d.upd.img with pkg := 7, state := 3 } } }), 0, head3 10, .newest, ⟨0, 0, 8, 7, 0, 7, 8⟩, by decide +kernel, by decide +kernel, by decide +kernel⟩,
    ⟨on (tongsWith asManager []) (fun d => { d with upd := { d.upd with devs := [⟨3, 0, 2, 0, true, false, 1⟩], img := { d.upd.img with pkg := 7, state := 4 } } }), 0, head3 10, .newest, ⟨0, 0, 8, 7, 0, 7, 8⟩, by decide +kernel, by decide +kernel, by decide +kernel⟩,
    ⟨on (tongsWith asManager []) (fun d => { d with upd := { d.upd with devs := [⟨3, 0, 2, 0, true, false, 1⟩], img := { d.upd.img with pkg := 7, state := 6 } } }), 0, head3 10, .newest, ⟨0, 0, 8, 7, 0, 7, 8⟩, by decide +kernel, by decide +kernel, by decide +kernel, by decide +kernel, by decide +kernel⟩,
    ⟨on (tongsWith asManager []) (fun d => { d with upd := { d.upd with devs := [⟨3, 0, 2, 0, true, false, 1⟩], img := { d.upd.img with pkg := 7, state := 6 } } }), 0, head3 10, .newest, ⟨0, 0, 8, 7, 0, 7, 8⟩, by decide +kernel, by decide +kernel, by decide +kernel, by decide +kernel⟩,
    ⟨on (tongsWith asManager []) (fun d => { d with upd := { d.upd with img := { d.upd.img with pkg := 7, decision := some (true, [(3, 0)]) } } }), 0, head3 10, .newest, ⟨0, 0, 8, 7, 0, 7, 8⟩, [(3, 0)], by decide +kernel, by decide +kernel, by decide +kernel, by decide +kernel⟩⟩

/-- Every clause of `Obligations.ResetsAndTheBootChain` has a state and operands that meet it. -/
theorem test_ResetsAndTheBootChain_met :
    (∃ (s : State), (s.dev.power.run = .held)) ∧
    (∃ (s : State), (s.dev.power.run = .off)) ∧
    (∃ (s : State), s.Up) ∧
    (∃ (s : State), (s.dev.power.run = .off)) ∧
    (∃ (s : State), s.Up) ∧
    (∃ (s : State), ((s.dev.power.run = .off ∨ s.dev.power.run = .held))) ∧
    (∃ (s : State) (x : Straps) (find : BootFind), (s.dev.power.run = .held) ∧ (s.dev.power.good = true) ∧ (x.bootSrc = 0) ∧ (find.stageA = true) ∧ (find.running = true)) ∧
    (∃ (s : State) (x : Straps) (find : BootFind), (s.dev.power.run = .held) ∧ (s.dev.power.good = true) ∧ (x.bootSrc = 0) ∧ (find.stageA = false) ∧ (find.stageB = true) ∧ (find.running = false) ∧ (find.previous = true)) ∧
    (∃ (s : State) (_x : Straps) (find : BootFind), (s.dev.power.run = .held) ∧ (s.dev.power.good = true) ∧ (find.stageA = false) ∧ (find.stageB = false)) ∧
    (∃ (s : State) (_x : Straps) (_find : BootFind), (s.dev.power.good = false)) ∧
    (∃ (s : State) (_ticks : Option Nat) (_silent : List (Fin 8)), s.Up ∧ (s.dev.power.boot = 1) ∧ (s.dev.chartCopies = [])) ∧
    (∃ (s : State) (_ticks : Option Nat) (_silent : List (Fin 8)) (n : Nat) (c : Chart), s.Up ∧ (s.dev.power.boot = 1) ∧ (s.dev.chartCopies = [(n, c)])) ∧
    (∃ (s : State) (_failed : List (Fin 8)) (_ms : Nat), s.Up ∧ (s.dev.power.boot = 2)) ∧
    (∃ (s : State) (find : BootFind) (w : Writer), s.Opens Reg.pageSYS 0x208 w ∧ (s.dev.fld Reg.SYS_BOOT_STAT 1 0 = 0) ∧ (find.stageA = true) ∧ (find.running = true)) ∧
    (∃ (s : State) (w : Writer), s.Opens Reg.pageSYS 0x208 w ∧ (s.dev.power.cores = false)) ∧
    (∃ (s : State), s.Up ∧ (s.dev.power.cores = true)) ∧
    (∃ (s : State), s.Up ∧ ((s.dev.dram.flight.all fun x => x.2.master != 0) = true)) :=
  ⟨⟨on State.reset (fun d => d.onPower fun p => { p with run := .held }), by decide +kernel⟩,
    ⟨on State.reset (fun d => d.onPower fun p => { p with run := .off }), by decide +kernel⟩,
    ⟨upWith [(Reg.TWN_STAT, 4)], by decide +kernel⟩,
    ⟨on State.reset (fun d => d.onPower fun p => { p with run := .off }), by decide +kernel⟩,
    ⟨upWith [(Reg.TWN_STAT, 4)], by decide +kernel⟩,
    ⟨on State.reset (fun d => d.onPower fun p => { p with run := .held }), by decide +kernel⟩,
    ⟨on State.reset (fun d => d.onPower fun p => { p with run := .held }), ⟨255, 0, false⟩, ⟨true, true, true, true, true, [1, 2], 70000⟩, by decide +kernel, by decide +kernel, by decide +kernel, by decide +kernel, by decide +kernel⟩,
    ⟨on State.reset (fun d => d.onPower fun p => { p with run := .held }), ⟨255, 0, true⟩, ⟨false, true, false, true, true, [], 0⟩, by decide +kernel, by decide +kernel, by decide +kernel, by decide +kernel, by decide +kernel, by decide +kernel, by decide +kernel⟩,
    ⟨on State.reset (fun d => d.onPower fun p => { p with run := .held }), ⟨255, 3, true⟩, ⟨false, false, true, true, true, [], 0⟩, by decide +kernel, by decide +kernel, by decide +kernel, by decide +kernel⟩,
    ⟨on State.reset (fun d => d.onPower fun p => { p with run := .held, good := false }), ⟨255, 3, true⟩, ⟨true, true, true, true, true, [1, 2], 70000⟩, by decide +kernel⟩,
    ⟨on (upWith [(Reg.TWN_STAT, 0)]) (fun d => d.onPower fun p => { p with boot := 1 }), some 5, [3], by decide +kernel, by decide +kernel, by decide +kernel⟩,
    ⟨on (upWith [(Reg.HAL_SLOTS, 1), (Reg.HAL_STAT, 1), (Reg.TWN_STAT, 0)]) (fun d => { (d.onPower fun p => { p with boot := 1 }) with hostif := { d.hostif with chart := some (chartBlank 5 6 0) } }), some 5, [], 0, chartBlank 5 6 0, by decide +kernel, by decide +kernel, by decide +kernel⟩,
    ⟨on (upWith [(Reg.HAL_STAT, 1), (Reg.TWN_STAT, 0)]) (fun d => d.onPower fun p => { p with boot := 2 }), [7], 65536, by decide +kernel, by decide +kernel⟩,
    ⟨upWith [(Reg.TWN_STAT, 4)], ⟨true, true, true, true, true, [1, 2], 70000⟩, .pcie, by decide +kernel, by decide +kernel, by decide +kernel, by decide +kernel⟩,
    ⟨on (upWith [(Reg.TWN_STAT, 4)]) (fun d => { d with hostif := { d.hostif with sessions := List.replicate 8 true } }), .pcie, by decide +kernel, by decide +kernel⟩,
    ⟨on (upWith [(Reg.SYS_RESET_CTRL, 0x80000004)]) (fun d => d.onPower fun p => { p with cores := true }), by decide +kernel, by decide +kernel⟩,
    ⟨on (upWith []) (fun d => { d with hostif := { d.hostif with msgEnable := true, pba := 9 } }), by decide +kernel, by decide +kernel⟩⟩

/-! ### Ill-formed commands are refused as faults -/

theorem test_illformed_registerWrite :
    wellFormed (.registerWrite 0x1042 0 .pcie) = false ∧ exec (.registerWrite 0x1042 0 .pcie) State.reset = .fault .badOperand :=
  ⟨rfl, rfl⟩

theorem test_illformed_bar0BadAccess :
    wellFormed (.bar0BadAccess 0x1040 4 false) = false ∧ exec (.bar0BadAccess 0x1040 4 false) State.reset = .fault .badOperand :=
  ⟨rfl, rfl⟩

theorem test_illformed_mgmtCommand :
    wellFormed (.mgmtCommand 0 0x4000000 0) = false ∧ exec (.mgmtCommand 0 0x4000000 0) State.reset = .fault .badOperand :=
  ⟨rfl, rfl⟩

theorem test_illformed_is05Activation :
    wellFormed (.is05Activation 0x800 [(0x801044, 0)] 0 none) = false ∧
      exec (.is05Activation 0x800 [(0x801044, 0)] 0 none) State.reset = .fault .badOperand := ⟨rfl, rfl⟩

theorem test_illformed_dramRequest :
    wellFormed (.dramRequest 0 60 8 none false) = false ∧ exec (.dramRequest 0 60 8 none false) State.reset = .fault .badOperand :=
  ⟨rfl, rfl⟩

theorem test_illformed_dramCommandIssue :
    wellFormed (.dramCommandIssue 0 [] ⟨9, 0⟩) = false ∧ exec (.dramCommandIssue 0 [] ⟨9, 0⟩) State.reset = .fault .badOperand :=
  ⟨rfl, rfl⟩

theorem test_illformed_busTransaction :
    wellFormed (.busTransaction 0 0 257 none false) = false ∧ exec (.busTransaction 0 0 257 none false) State.reset = .fault .badOperand :=
  ⟨rfl, rfl⟩

theorem test_illformed_dramScrubRead :
    wellFormed (.dramScrubRead 0 ⟨8, 1⟩) = false ∧ exec (.dramScrubRead 0 ⟨8, 1⟩) State.reset = .fault .badOperand := ⟨rfl, rfl⟩

/-! ### Worked examples of the spec -/

/-- Register directory, "two addresses": FLW_RXe_STAT of flow 1,000, and the live copy of filter entry 200 of MAC 150. -/
theorem test_two_addresses : Reg.FLW_RX_STAT 1000 = 0x0083E438 ∧ Reg.MAC_FILT_ACT 301 72 + 0x800 = 0x0052DA84 := by decide

/-- DRAM controller, "decoding one address under MAP 3": 8 channels, 2 ranks of x8 16 Gb devices. -/
theorem test_map3_example :
    (dramGeoOf 0x1138).place 0x1234567A40 = ⟨4, 1, 0, 28, 37282, 44, 0⟩ ∧ (dramGeoOf 0x1138).bytes = 256 * 2 ^ 30 := by decide

/-- Hearth, "an edge device at full lane count": a 2160p59.94 4:2:2 10-bit stream with 16 channels and ANC. -/
theorem test_edge_device_rate : cellRate 3840 2160 2250 9 0 16 true = 5070741 := by decide

/-- Filigree, "one DELTA component": 16 ones and 0000 0001 give 0x40; 110 10 gives −5. -/
theorem test_delta_component :
    deltaComp 8 2 0x80FFFF 0 0 = some (0x40, 24) ∧ deltaComp 8 2 0b01011 0 9 = some (4, 5) := by decide

/-- Network time, "eight hours in DEEP": the advance in ms, and the bound to 0.01 ms. -/
theorem test_deep_advance :
    let d := (Dev.reset.wrNat Reg.PTP_AON_RATIO 0x77356520).aonAdvance 943718400
    d.nowNs / 1000000 = 28799827 ∧ (d.fld Reg.PTP_UNC 30 0 + 5) / 10 = 57603 ∧ d.flag (Reg.PG_STAT Reg.pagePTP) 0 = true := by
  decide +kernel

/-- Media flows: TRO of a raster of 1,125 lines is 43 (R308). -/
theorem test_default_tro : defaultTro 1125 = 43 := by decide

/-! ### Single steps -/

/-- Does a step answer a next state of which this holds? -/
def nextIs (o : Host.Outcome State Fault Refusal) (f : State → Bool) : Bool :=
  match o with
  | .next t => f t
  | _ => false

/-- REF_FREQ_CORR is clamped to ±50 ppm, in ppt (R84). -/
theorem test_freq_corr_clamped :
    nextIs (exec (.refFreqCorrWrite .pcie 0x7FFFFFFF) (upWith [])) (fun t => t.dev.rd Reg.REF_FREQ_CORR == 50000000) = true := by
  decide +kernel

/-- A 1 clears its sticky bit and a 0 has no effect (R137). -/
theorem test_sticky_clear :
    nextIs (exec (.stickyWrite Reg.pageREF false 5 .pcie) (upWith [(Reg.PG_STICKY Reg.pageREF, 7)]))
      (fun t => t.dev.rd (Reg.PG_STICKY Reg.pageREF) == 2) = true := by decide +kernel

/-- A write of a shadow leaves the live copy (R138). -/
theorem test_shadow_waits :
    nextIs (exec (.registerWrite (Reg.DDR_SCRUB) 0x80000001 .pcie) (upWith [(Reg.PG_OWNER Reg.pageDDRENG, 0)]))
      (fun t => t.dev.rd Reg.DDR_SCRUB == 0x80000001 && t.dev.rd (Reg.DDR_SCRUB + 0x800) == 0x80000018) = true := by decide +kernel

/-- A write of a non-owner is recorded: page 3 (PTP), offset 0x040, class FIRMWARE (R153). -/
theorem test_owner_violation :
    nextIs (exec (.registerWrite 0x3040 1 ⟨.firmware, 0⟩) (upWith []))
      (fun t => t.dev.rd Reg.SYS_OWNER_VIOL_CNT == 1 && t.dev.rd Reg.SYS_OWNER_VIOL_LAST == 0x20100003) = true := by decide +kernel

/-- The tick of an empty queue lets 1 ns pass at the nominal frequency (notes/assumptions/25.md). -/
theorem test_tick : nextIs (step (upWith [])) (fun t => t.dev.time == 65536) = true := by decide +kernel

/-- A step takes the command at the front and leaves the rest. -/
theorem test_queue : nextIs (step waiting) (fun t => t.pending == [.timeStep]) = true := by decide +kernel
end

section
/-!
PROOFS. Network time: a pop of a MAC's transmit timestamp queue, the registers it stores and all that it leaves as it was
(spec/03_network_time.md, R108, R129).
-/

namespace Sys2Proof.Machine

open Sys2Proof

variable (d : Dev)

/-! ### Pairs of registers and parameters of a trigger -/

/-- Both halves of a pair just stored hold the value modulo 2^64. -/
theorem Dev.rd64_wr64_mod (lo hi v : Nat) (h : lo ≠ hi) : (d.wr64 lo hi v).rd64 lo hi = v % 2 ^ 64 := by
  unfold Dev.rd64 Dev.wr64
  rw [Dev.rd_wrNat_ne _ hi lo _ h, Dev.rd_wrNat, Dev.rd_wrNat, if_pos rfl, if_pos rfl, BitVec.toNat_ofNat, BitVec.toNat_ofNat]
  omega

theorem Dev.rd_wr64_ne (lo hi v b : Nat) (hlo : b ≠ lo) (hhi : b ≠ hi) : (d.wr64 lo hi v).rd b = d.rd b := by
  unfold Dev.wr64
  rw [Dev.rd_wrNat_ne _ _ _ _ hhi, Dev.rd_wrNat_ne _ _ _ _ hlo]

theorem Dev.rd_wrParams_ne (a b mask v : Nat) (h : b ≠ a) : (d.wrParams a mask v).rd b = d.rd b := d.rd_wrNat_ne a b _ h

theorem Dev.rd64_wrParams_ne (a lo hi mask v : Nat) (hlo : lo ≠ a) (hhi : hi ≠ a) :
    (d.wrParams a mask v).rd64 lo hi = d.rd64 lo hi := by
  unfold Dev.rd64
  rw [d.rd_wrParams_ne a lo mask v hlo, d.rd_wrParams_ne a hi mask v hhi]

/-! ### The queue -/

/-- The queue just stored. -/
@[simp] theorem Dev.tsqOf_setTsq_self (m : Nat) (q : List TsqEntry) : (d.setTsq m q).tsqOf m = q :=
  Sparse.get_set_self _ _ m q

/-- The queue lives in the PTP part alone. -/
theorem Dev.tsqOf_eq_of_ptp_eq {d e : Dev} (h : e.ptp = d.ptp) (m : Nat) : e.tsqOf m = d.tsqOf m := by
  unfold Dev.tsqOf; rw [h]

/-- A queue is shown in MAC_TSQ_STAT and in no other register. -/
theorem Dev.rd_setTsq_ne (m a : Nat) (q : List TsqEntry) (h : a ≠ Reg.MAC_TSQ_STAT m) : (d.setTsq m q).rd a = d.rd a :=
  Dev.rd_setFld_ne _ _ a _ _ _ h

/-- The registers that a pop stores are apart (R129). -/
theorem MAC_TSQ_ne (m : Nat) : Reg.MAC_TSQ_TAG m ≠ Reg.MAC_TSQ_POP m ∧ Reg.MAC_TSQ_NS_LO m ≠ Reg.MAC_TSQ_POP m ∧
    Reg.MAC_TSQ_NS_HI m ≠ Reg.MAC_TSQ_POP m ∧ Reg.MAC_TSQ_TAG m ≠ Reg.MAC_TSQ_NS_LO m ∧
    Reg.MAC_TSQ_TAG m ≠ Reg.MAC_TSQ_NS_HI m ∧ Reg.MAC_TSQ_NS_LO m ≠ Reg.MAC_TSQ_NS_HI m := by
  simp only [Reg.MAC_TSQ_TAG, Reg.MAC_TSQ_POP, Reg.MAC_TSQ_NS_LO, Reg.MAC_TSQ_NS_HI]
  omega

/-- MAC_TSQ_TAG [15:0] of an entry is its tag. -/
theorem bits_tsqTag (tag : Nat) : bits (BitVec.ofNat 32 (tag % 65536 + 65536)) 15 0 = tag % 65536 := by
  unfold bits; rw [BitVec.toNat_ofNat]; omega

/-- MAC_TSQ_TAG.VALID of an entry is 1. -/
theorem bit_tsqTag (tag : Nat) : bit (BitVec.ofNat 32 (tag % 65536 + 65536)) 16 = true := by
  unfold bit
  rw [BitVec.getLsbD, BitVec.toNat_ofNat, Nat.testBit_eq_decide_div_mod_eq, decide_eq_true_eq]
  omega

/-! ### The pop -/

section
variable {d} {m : Nat} {e : TsqEntry} {rest : List TsqEntry}

theorem Dev.tsqPop_nil (h : d.tsqOf m = []) : d.tsqPop m = d.setFlag (Reg.MAC_TSQ_TAG m) 16 false := by
  simp [Dev.tsqPop, h]

theorem Dev.tsqPop_cons (h : d.tsqOf m = e :: rest) :
    d.tsqPop m = ((d.setTsq m rest).wrNat (Reg.MAC_TSQ_TAG m) (e.tag % 65536 + 65536)).wr64
      (Reg.MAC_TSQ_NS_LO m) (Reg.MAC_TSQ_NS_HI m) e.ns := by
  simp [Dev.tsqPop, h]

theorem Dev.tsqPop_tsqOf (h : d.tsqOf m = e :: rest) : (d.tsqPop m).tsqOf m = rest := by
  rw [Dev.tsqPop_cons h, Dev.tsqOf_eq_of_ptp_eq (d := d.setTsq m rest) (by simp), Dev.tsqOf_setTsq_self]

theorem Dev.tsqPop_rd_tag (h : d.tsqOf m = e :: rest) :
    (d.tsqPop m).rd (Reg.MAC_TSQ_TAG m) = BitVec.ofNat 32 (e.tag % 65536 + 65536) := by
  obtain ⟨-, -, -, hlo, hhi, -⟩ := MAC_TSQ_ne m
  rw [Dev.tsqPop_cons h, Dev.rd_wr64_ne _ _ _ _ _ hlo hhi, Dev.rd_wrNat, if_pos rfl]

theorem Dev.tsqPop_rd64_ns (h : d.tsqOf m = e :: rest) :
    (d.tsqPop m).rd64 (Reg.MAC_TSQ_NS_LO m) (Reg.MAC_TSQ_NS_HI m) = e.ns % 2 ^ 64 := by
  obtain ⟨-, -, -, -, -, hne⟩ := MAC_TSQ_ne m
  rw [Dev.tsqPop_cons h, Dev.rd64_wr64_mod _ _ _ _ hne]

end

/-! ### The command and its frame -/

section
variable {s : State} {m : Fin 193} {w : Writer} {e : TsqEntry} {rest : List TsqEntry}

/-- A pop that reaches the register of an active MAC takes effect, and the trigger reads back as written. -/
theorem exec_tsqPop_open (ho : s.Opens (0x300 + m.val) 0x404 w) (ha : s.dev.macActive m = true) :
    exec (.tsqPop m w) s = .next { s with dev := (s.dev.tsqPop m).wrParams (Reg.MAC_TSQ_POP m) 1 1 } := by
  obtain ⟨hup, hgate⟩ := ho
  show execTsqPop m w s = _
  unfold execTsqPop
  rw [State.onDev_up hup, Dev.gated_open _ hgate, if_pos ha]

/-- A device that differs from the state's in registers and in the PTP part alone. -/
theorem Leaves.ofPtp {e : Dev} {r : List Nat} (h : e = { s.dev with ptp := e.ptp, regs := e.regs })
    (hr : ∀ a, a ∉ r → e.rd a = s.dev.rd a) : Leaves [.ptp] r s { s with dev := e } := by
  refine ⟨rfl, rfl, ?_, fun p hp => ?_, hr⟩
  · show e.partH = s.dev.partH
    rw [h]
  · show p.same s.dev e
    rw [h]
    cases p
    case ptp => exact absurd (by simp) hp
    case time => exact ⟨rfl, rfl⟩
    all_goals rfl

/-- A register outside the frame reads as before. -/
theorem Leaves.rd_eq {p : List Part} {r : List Nat} {s t : State} (h : Leaves p r s t) {a : Nat} (ha : a ∉ r) :
    t.dev.rd a = s.dev.rd a := by
  obtain ⟨-, -, -, -, hrd⟩ := h
  exact hrd a ha

/-- A store of a register of the frame stays within it. -/
theorem Leaves.wr {p : List Part} {r : List Nat} {s t : State} (h : Leaves p r s t) (a : Nat) (v : Word) (ha : a ∈ r) :
    Leaves p r s { t with dev := t.dev.wr a v } := by
  have hstore : Leaves [] r t { t with dev := t.dev.wr a v } :=
    Leaves.ofRegs rfl fun b hb => t.dev.rd_wr_ne a b v (ne_of_mem_of_not_mem ha hb).symm
  exact h.trans (hstore.mono (by simp) fun _ hx => hx)

/-- The five registers of a pop. -/
def tsqRegs (m : Nat) : List Nat :=
  [Reg.MAC_TSQ_STAT m, Reg.MAC_TSQ_TAG m, Reg.MAC_TSQ_NS_LO m, Reg.MAC_TSQ_NS_HI m, Reg.MAC_TSQ_POP m]

/-- A new queue changes the PTP part, and MAC_TSQ_STAT among the registers of a pop. -/
theorem setTsq_leaves (s : State) (m : Nat) (q : List TsqEntry) :
    Leaves [.ptp] (tsqRegs m) s { s with dev := s.dev.setTsq m q } :=
  Leaves.ofPtp rfl fun a ha => s.dev.rd_setTsq_ne m a q (ne_of_mem_of_not_mem (by simp [tsqRegs]) ha).symm

/-- A pop of a queue that holds an entry changes the queue and the five registers of the pop. -/
theorem tsqPop_leaves_of_cons (hq : s.dev.tsqOf m = e :: rest) :
    Leaves [.ptp] (tsqRegs m) s { s with dev := (s.dev.tsqPop m).wrParams (Reg.MAC_TSQ_POP m) 1 1 } := by
  rw [Dev.tsqPop_cons hq]
  have htag := (setTsq_leaves s m rest).wr (Reg.MAC_TSQ_TAG m) (BitVec.ofNat 32 (e.tag % 65536 + 65536)) (by simp [tsqRegs])
  have hlo := htag.wr (Reg.MAC_TSQ_NS_LO m) (BitVec.ofNat 32 e.ns) (by simp [tsqRegs])
  have hhi := hlo.wr (Reg.MAC_TSQ_NS_HI m) (BitVec.ofNat 32 (e.ns / 2 ^ 32)) (by simp [tsqRegs])
  exact hhi.wr (Reg.MAC_TSQ_POP m) _ (by simp [tsqRegs])

/-- A pop of an empty queue changes VALID and the trigger alone. -/
theorem tsqPop_leaves_of_nil (hq : s.dev.tsqOf m = []) :
    Leaves [] [Reg.MAC_TSQ_TAG m, Reg.MAC_TSQ_POP m] s
      { s with dev := (s.dev.tsqPop m).wrParams (Reg.MAC_TSQ_POP m) 1 1 } := by
  rw [Dev.tsqPop_nil hq]
  have htag := (Leaves.refl [] [Reg.MAC_TSQ_TAG m, Reg.MAC_TSQ_POP m] s).wr (Reg.MAC_TSQ_TAG m)
    (setBits (s.dev.rd (Reg.MAC_TSQ_TAG m)) 16 16 (b2n false)) (by simp)
  exact htag.wr (Reg.MAC_TSQ_POP m) _ (by simp)

end

/-- Settles O11. A held entry goes to the read registers and leaves the queue; on an empty queue the frame itself says that the two
time registers keep their values. -/
theorem transmitTimestampsArePopped : Obligations.TransmitTimestampsArePopped := by
  unfold Obligations.TransmitTimestampsArePopped
  constructor
  · intro s m w e rest ho ha hq
    obtain ⟨htag, hlo, hhi, -⟩ := MAC_TSQ_ne m
    refine ⟨_, exec_tsqPop_open ho ha, ?_, ?_, ?_, ?_, tsqPop_leaves_of_cons hq⟩
    · rw [Dev.tsqOf_eq_of_ptp_eq (Dev.wrParams_ptp _ _ _ _), Dev.tsqPop_tsqOf hq]
    · rw [Dev.fld, Dev.rd_wrParams_ne _ _ _ _ _ htag, Dev.tsqPop_rd_tag hq, bits_tsqTag]
    · rw [Dev.flag, Dev.rd_wrParams_ne _ _ _ _ _ htag, Dev.tsqPop_rd_tag hq, bit_tsqTag]
    · rw [Dev.rd64_wrParams_ne _ _ _ _ _ _ hlo hhi, Dev.tsqPop_rd64_ns hq]
  · intro s m w ho ha hq
    obtain ⟨htag, hlo, hhi, htlo, hthi, -⟩ := MAC_TSQ_ne m
    have hframe := tsqPop_leaves_of_nil hq
    refine ⟨_, exec_tsqPop_open ho ha, ?_, hframe.rd_eq ?_, hframe.rd_eq ?_, hframe⟩
    · rw [Dev.flag, Dev.rd_wrParams_ne _ _ _ _ _ htag, Dev.tsqPop_nil hq]
      exact s.dev.flag_setFlag_self _ 16 false (by decide)
    · simp [htlo.symm, hlo]
    · simp [hthi.symm, hhi]

end Sys2Proof.Machine
end
